-- ==== Sys2Proof/Word.lean ====
section
/-! DEFINITION. The plainest types of the XJ5120 model: bytes, and time counted in time-base cycles.

The manual's numbers are held as `Nat` and `Int` where software only counts or compares them, as `Byte`
where a transport or a memory moves them. One time-base cycle and one CCLK cycle last 2/3 ns (Table 1-7),
so every instant the manual gives in whole nanoseconds is a whole number of thirds of a cycle. -/

namespace Sys2Proof

/-- One byte on a transport or in a memory. -/
abbrev Byte := BitVec 8

/-- An instant or a duration in time-base cycles of 2/3 ns (Table 1-7). -/
abbrev Cyc := Nat

end Sys2Proof
end

