-- ==== Sys2Proof/Syntax.lean ====
section
/-! DEFINITION. The commands of the XJ5120: one constructor of `Instr` per row of spec/opcode_table.json.

Every command carries `t`, the instant at which it arrives or comes due, in time-base cycles (log 1).
The other operands are what the outside world or the part's own hardware brings to the step: a message, a packet,
a measured value. Where a check of the manual needs arithmetic that the manual only names (X.509, ECDSA, HMAC), the
operand carries that check's verdict (log 5). -/

namespace Sys2Proof

/-- The PLLs of Table 1-8, in the order of its bits 0 to 4. -/
inductive Pll where
  | core | mem | strd | mgmt | time
deriving DecidableEq, Repr

/-- The two lockstep pairs (Table 1-5). -/
inductive Pair where
  | m | c
deriving DecidableEq, Repr

/-- The level of ROLE_SEL at the sampling edge (R1, R438). -/
inductive Level where
  | low | high | floating
deriving DecidableEq, Repr

/-- The session roles of Table 2-6. -/
inductive SessRole where
  | observer | operator | integrator | safety | vendor
deriving DecidableEq, Repr

/-- The transports of R44. -/
inductive Transport where
  | mgmt | flue | svc
deriving DecidableEq, Repr

/-- What start-up finds at the pins and by its own tests (Table 18-2): the level of ROLE_SEL, CFG_STRAP[3:0],
the engines that fail their known-answer tests (R16), for each channel of the external memory the bytes of density that its
devices report where it trains (R92), and the level of TEST_EN (R443). -/
structure PowerOn where
  roleSel : Level
  straps : Nat
  failing : List Nat
  channels : List (Option Nat)
  testEn : Bool := false
deriving DecidableEq, Repr

/-- The ROUTE field of Table 2-7. -/
inductive Route where
  | device
  | chimney (c tile : Nat)
  | service (hops : Nat)
deriving DecidableEq, Repr

/-- The header of a dictionary message (Table 2-7), without its opcode, which the command names; `tagOk` is the
verdict of the HMAC check of R44 (log 5). -/
structure Msg where
  transport : Transport
  version : Nat
  route : Route
  session : Nat
  epoch : Nat
  seq : Nat
  flags : Nat
  index : Nat
  sub : Nat
  count : Nat
  tagOk : Bool
deriving DecidableEq, Repr

/-- One value in a WRITE payload (Table 2-1); `bad` is an encoding that fits no type. -/
inductive WVal where
  | num (v : Int)
  | str (bytes : List Byte)
  | window (off : Nat) (bytes : List Byte)
  | bad
deriving DecidableEq, Repr

/-- A certificate as R361 to R363 and R367 judge it: `formOk` is the form of R363 but for the role attribute,
`roles` its "role=" attributes, `issuer` and `key` the 97-byte keys as numbers, `sigOk` the signature under the
issuer key, `inValidity` the validity period at the device's time, `byDeviceCa` whether the issuer key hashes to
the ROM device CA digest, `digest` its SHA-384. -/
structure Cert where
  formOk : Bool
  roles : List SessRole
  issuer : Nat
  key : Nat
  sigOk : Bool
  inValidity : Bool
  byDeviceCa : Bool
  serial : Nat
  digest : Nat
deriving DecidableEq, Repr

/-- An OPEN (R364): `layoutOk` is check 2 of R365, `sigOk` check 4; `forSlot0` marks the chimney session of R367. -/
structure OpenMsg where
  transport : Transport
  version : Nat
  route : Route
  layoutOk : Bool
  cert : Cert
  sigOk : Bool
  nonce : Nat
  forSlot0 : Bool
deriving DecidableEq, Repr

/-- The arbiters of R28: one per memory channel, the working store, and the Flue egress arbiter of a port. -/
inductive ArbId where
  | mem (channel : Nat)
  | ws
  | egress (port : Nat)
deriving DecidableEq, Repr

/-- The flash devices of R357: the boot flash and the store of a module. -/
inductive FlashDev where
  | boot
  | module (m : Nat)
deriving DecidableEq, Repr

/-- The fields of the ingest packet header (Table 3-2) and the port; `bad` marks a packet with a block in a link
frame that failed its CRC (R73). `seq` is SEQ or CONSUMED. -/
structure IngHdr where
  port : Nat
  version : Nat
  seq : Nat
  len : Nat
  gen : Nat
  buf : Nat
  plane : Nat
  line : Nat
  offset : Nat
  bad : Bool
deriving DecidableEq, Repr

/-- A plane format: size, sampling code, depth code and alpha (Table 3-1). -/
structure PlaneFormat where
  w : Nat
  h : Nat
  sampling : Nat
  depth : Nat
  alpha : Bool
deriving DecidableEq, Repr

/-- Whose buffers a fence protects (R83, R88): a source slot's ring or a still layer's pair. -/
inductive BufOwner where
  | slot (s : Nat)
  | still (l : Nat)
deriving DecidableEq, Repr

/-- A coefficient request of a receiver for one lane (Table 6-3): PRE_REQ, POST_REQ, and the preset asked for. -/
structure CoefAsk where
  pre : Nat := 0
  post : Nat := 0
  preset : Option Nat := none
deriving DecidableEq, Repr

/-- What a receiver finds of itself at a training block (Table 6-4): clock lane within its limit, trackers locked
with block lock on every lane, deskew (UI), adaptation converged, the least eye width of its lanes in UI/64, the lanes'
adapted equaliser settings (R154; empty where they have not changed), and the requests its adaptation would make (R152). -/
structure RxProgress where
  clockOk : Bool
  bitAligned : Bool
  deskew : Nat
  converged : Bool
  eye : Nat
  eq : List Nat
  asks : List CoefAsk
deriving DecidableEq, Repr

/-- One 66-bit block on a lane (R139): its header bits in transmission order, and the 64 bits on the line, the first of them
as bit 63 (R167). -/
structure LaneBlock where
  h0 : Bool
  h1 : Bool
  line : Nat
deriving DecidableEq, Repr

/-- A link frame on the lines (R141, R169): the eight block slots of physical lanes 0 to 3. With it come what the receiver
alone knows: the residence time of each TIME header that the frame makes it forward (R221), in order, in ns x 2^16; the
positions by which the relay's clocks have drifted, to be added (above 0) or deleted (R187); and the lanes' adapted
equaliser settings (R154). -/
structure LinkFrame where
  lanes : List (List LaneBlock)
  residence : List Int
  slip : Int
  eq : List Nat
deriving DecidableEq, Repr

/-- A lane that loses block lock (R151), with the invalid sync headers that no link frame brought. -/
structure LaneLoss where
  lane : Nat
  invalid : Nat
deriving DecidableEq, Repr

/-- A raised request of a memory or working-store arbiter (Table 1-9): its input, when it was raised, its burst in bytes or in
CCLK cycles, and the port whose packet an ingest write is for. -/
structure ArbReq where
  input : Nat
  at_ : Cyc
  burst : Nat
  port : Option Nat := none
deriving DecidableEq, Repr

/-- BULK (Table 7-4): TRANSFER, and the path on which the copy came. -/
structure BulkHdr where
  transfer : Nat
  pathB : Bool
deriving DecidableEq, Repr

/-- A CTRL segment (Table 7-4); `complete` is R173. -/
structure CtrlSeg where
  src : Nat
  dst : Nat
  pathB : Bool
  msgId : Nat
  seg : Nat
  last : Bool
  bytes : List Byte
  complete : Bool
deriving DecidableEq, Repr

/-- A line packet copy as it arrives: the payloads of its blocks H0, H1, H2 and the pixel blocks (Table 7-5), and whether they
came uninterrupted (R173). -/
structure LineCopy where
  words : List Nat
  whole : Bool
deriving DecidableEq, Repr

/-- What a line packet says (Table 7-5); `complete` is R173, pixels are (R, G, B) chain codes. -/
structure LinePkt where
  addr : Nat
  line : Nat
  wq : Nat
  frame : Nat
  pathB : Bool
  spans : List (Nat × Nat)
  unusedZero : Bool
  pixels : List (Nat × Nat × Nat)
  complete : Bool
deriving DecidableEq, Repr

/-- A tile's STATUS packet (Table 7-4). -/
structure StatusPkt where
  src : Nat
  frame : Nat
  boot : Bool
  gen : Nat
  tileState : Nat
  flags : Nat
  uncleared : Nat
  epoch0 : Nat
  open0 : Bool
  mismatch : Bool
deriving DecidableEq, Repr

/-- A PTP event or general message; `stamp` is its timestamp in 2^-18 ns, `corr` its correction in ns x 2^16,
`logInterval` its logMessageInterval (of a Delay_Resp, the master's interval for Delay_Req). -/
structure PtpSync where
  domain : Nat
  master : Nat
  seq : Nat
  twoStep : Bool
  stamp : Nat
  corr : Int
  logInterval : Int
deriving DecidableEq, Repr

/-- A PTP Announce: the data set that the best master clock algorithm compares, in its order. -/
structure PtpAnnounce where
  domain : Nat
  master : Nat
  priority1 : Nat
  clockClass : Nat
  accuracy : Nat
  variance : Nat
  priority2 : Nat
  stepsRemoved : Nat
  utcOffset : Int
  logInterval : Int
deriving DecidableEq, Repr

/-- A SYNC, DELAY_REQ or DELAY_RESP packet (Tables 9-3 and 9-4). `stamp` is ORIGIN or RECEIPT in 2^-18 ns, CORR
in ns x 2^16 as received. -/
structure TimePkt where
  src : Nat
  pathB : Bool
  seq : Nat
  hops : Nat
  steps : Nat
  stamp : Nat
  corr : Int
deriving DecidableEq, Repr

/-- An ANCHOR packet (Table 9-4). -/
structure AnchorPkt where
  k : Nat
  rate : Nat
  chimN : Nat
  time : Nat
  sourceLocked : Bool
  aligned : Bool
  steps : Nat
deriving DecidableEq, Repr

/-- A cell as a strand receiver samples it: the levels 3.75 ns and 6.25 ns after its rising edge (R259). -/
structure CellSample where
  early : Bool
  late : Bool
deriving DecidableEq, Repr

/-- A returned strand frame (R285): its data cells from the FRAME lead on as STI samples them, and the measured loop delay in
0.1 ns (R282). -/
structure StrandReturn where
  cells : List CellSample
  loop : Nat
deriving DecidableEq, Repr

/-- POWER_REPORT (Table 13-4). -/
structure PowerReport where
  frame : Nat
  gseq : Nat
  demand : Nat
  prot : Nat
  grant : Nat
  flags : Nat
deriving DecidableEq, Repr

/-- The 400 readings of one site in a trim run (R354): their sum, least and greatest, in 0.125 degC. -/
structure SiteReadings where
  sum : Int
  least : Int
  most : Int
deriving DecidableEq, Repr

/-- The anchor arrays that ANCHOR_WRITE names (R362). -/
inductive AnchorKind where
  | client | safety
deriving DecidableEq, Repr

/-- One temperature set of a package or field set (R373): temperature in 0.125 degC, H[c][s] for s = 1 to 7
(c major), E[j][s][i] in the order of R373, the 16 aging points of each colour, and the pixel records, each as its
72-bit words (R239: three for a three-lamp pixel, four for a four-lamp one). -/
structure TempSet where
  temp : Int
  h : List Nat
  e : List Int
  aging : List Nat
  pixels : List (List Nat)
deriving DecidableEq, Repr

/-- A field set found in its slot pair (R377). -/
structure FieldSet where
  serial : Nat
  digest : Nat
  revert : Bool
  set : TempSet
  hist : List Nat
deriving DecidableEq, Repr

/-- A slot of a flash device as it reads (R355): its header and payload, and the 8 bytes of its commit flag. -/
structure SlotBytes where
  body : List Byte
  flag : List Byte
deriving DecidableEq, Repr

/-- What a poll and a binding read of a module (R374): the verdicts of certificates and signature, the module certificate's
serial, the package's SHA-384 and bytes (Table 15-4), and the five slot pairs of Table 15-3 (field sets 0 to 2, dose, burn
hours). `readOk` is false when any read fails. -/
structure ModuleFound where
  readOk : Bool
  certsOk : Bool
  sigOk : Bool
  certSerial : Nat
  digest : Nat
  package : List Byte
  slots : List (SlotBytes × SlotBytes)
deriving DecidableEq, Repr

/-- A service-string frame (R419). -/
structure SvcFrame where
  hop : Nat
  len : Nat
  message : List Byte
  crc : Nat
deriving DecidableEq, Repr

/-- The verdicts of R415 on one component image of the inactive slot that need key arithmetic: the digest of
PUBKEY, the signature and the body digest. -/
structure ImageVerdict where
  keyDigestOk : Bool
  sigOk : Bool
  digestOk : Bool
deriving DecidableEq, Repr

/-- The commands, in the table's order. -/
inductive Instr where
  /-- PORST_ASSERT (R410) -/
  | porstAssert (t : Cyc)
  /-- PORST_RELEASE (R410) -/
  | porstRelease (t : Cyc) (p : PowerOn)
  /-- BROWN_OUT (R437): VDDIO_1V8 (R451) where `io`, else VDD_CORE, has fallen below its threshold. -/
  | brownOut (t : Cyc) (io : Bool)
  /-- BROWN_OUT_RECOVER (R437) -/
  | brownOutRecover (t : Cyc) (p : PowerOn)
  /-- PLL_LOSS_OF_LOCK (R25) -/
  | pllLossOfLock (t : Cyc) (pll : Pll)
  /-- PLL_RELOCK (R25) -/
  | pllRelock (t : Cyc) (pll : Pll)
  /-- PLL_RELOCK_TIMEOUT (R25) -/
  | pllRelockTimeout (t : Cyc) (pll : Pll) (p : PowerOn)
  /-- BOOT_RESET (R411) -/
  | bootReset (t : Cyc) (m : Msg) (p : PowerOn)
  /-- CONFIG_LOAD_DONE (R417) -/
  | configLoadDone (t : Cyc)
  /-- POWER_ON_ANCHOR (R227) -/
  | powerOnAnchor (t : Cyc)
  /-- TILE_LIGHT_UP (R418) -/
  | tileLightUp (t : Cyc)
  /-- FRAME_BOUNDARY (R9) -/
  | frameBoundary (t : Cyc)
  /-- LOCKSTEP_MISMATCH (R11) -/
  | lockstepMismatch (t : Cyc) (pair : Pair)
  /-- PAIR_WATCHDOG_EXPIRY (R11) -/
  | pairWatchdogExpiry (t : Cyc) (pair : Pair)
  /-- PAIR_MEMORY_UE (R11) -/
  | pairMemoryUe (t : Cyc) (pair : Pair)
  /-- PAIR_M_RESTART (R11) -/
  | pairMRestart (t : Cyc) (m : Msg)
  /-- PAIR_C_RESTART (R11) -/
  | pairCRestart (t : Cyc) (m : Msg)
  /-- PAIR_C_RESUME (R15) -/
  | pairCResume (t : Cyc)
  /-- PAIR_M_RESUME (R15) -/
  | pairMResume (t : Cyc)
  /-- ENGINE_UE (R18) -/
  | engineUe (t : Cyc) (pe : Nat)
  /-- ENGINE_HEALTH_CHECK (R18) -/
  | engineHealthCheck (t : Cyc) (pe : Nat) (ok : Bool)
  /-- ENGINE_CORRECTED_ERROR (R18) -/
  | engineCorrectedError (t : Cyc) (pe word : Nat)
  /-- DEV_ENG_RETIRED_CLEAR (R20) -/
  | devEngRetiredClear (t : Cyc) (m : Msg)
  /-- ARBITER_GRANT (R26) -/
  | arbiterGrant (t : Cyc) (arb : ArbId) (raised : List ArbReq)
  /-- OPEN (R365) -/
  | openMsg (t : Cyc) (o : OpenMsg)
  /-- CLOSE (R41) -/
  | close (t : Cyc) (m : Msg)
  /-- KEEPALIVE (R41) -/
  | keepalive (t : Cyc) (m : Msg)
  /-- READ (R469) -/
  | read (t : Cyc) (m : Msg) (win : Option (Nat × Nat))
  /-- WRITE (R37) -/
  | write (t : Cyc) (m : Msg) (vals : List WVal)
  /-- DESCRIBE (R34) -/
  | describe (t : Cyc) (m : Msg)
  /-- COMMIT (R48) -/
  | commit (t : Cyc) (m : Msg) (scope chims flags target : Nat)
  /-- COMMIT_GO (R43) -/
  | commitGo (t : Cyc) (m : Msg)
  /-- ARM (R52) -/
  | arm (t : Cyc) (m : Msg) (id scope target gen : Nat)
  /-- ARM_REPLY (R52) -/
  | armReply (t : Cyc) (chim tile id : Nat) (armed : Bool)
  /-- ARM_REPLY_DEADLINE (R52) -/
  | armReplyDeadline (t : Cyc)
  /-- ABORT_REPEAT (R52) -/
  | abortRepeat (t : Cyc)
  /-- ABORT (R52) -/
  | abort (t : Cyc) (m : Msg) (id : Nat)
  /-- COMMIT_DIVERGENCE_TIMEOUT (R54) -/
  | commitDivergenceTimeout (t : Cyc) (chim tile : Nat)
  /-- LOCK (R59) -/
  | lock (t : Cyc) (m : Msg) (area : Nat)
  /-- UNLOCK (R59) -/
  | unlock (t : Cyc) (m : Msg) (area : Nat)
  /-- LOCK_ACQUIRE (R59) -/
  | lockAcquire (t : Cyc) (m : Msg) (area : Nat)
  /-- LOCK_RELEASE (R59) -/
  | lockRelease (t : Cyc) (m : Msg) (area : Nat)
  /-- LOCK_CLEAR_SUSPECT (R62) -/
  | lockClearSuspect (t : Cyc) (m : Msg) (area : Nat)
  /-- SESSION_TIMEOUT (R41) -/
  | sessionTimeout (t : Cyc) (slot : Nat)
  /-- PERSIST_SAVE (R64) -/
  | persistSave (t : Cyc) (m : Msg)
  /-- PERSIST_AUTO_SAVE (R66) -/
  | persistAutoSave (t : Cyc)
  /-- PERSIST_DEFAULTS (R67) -/
  | persistDefaults (t : Cyc) (m : Msg) (mask : Nat)
  /-- FLASH_STORE_DONE (R356) -/
  | flashStoreDone (t : Cyc) (dev : FlashDev) (first second : Bool)
  /-- SETUP (R74) -/
  | setup (t : Cyc) (h : IngHdr) (f : PlaneFormat)
  /-- FRAME_REQ (R77) -/
  | frameReq (t : Cyc) (h : IngHdr)
  /-- DATA (R78) -/
  | data (t : Cyc) (h : IngHdr) (bytes : List Byte)
  /-- INGEST_CREDIT_TIMER (R76) -/
  | ingestCreditTimer (t : Cyc) (slot : Nat)
  /-- PUBLISH (R79) -/
  | publish (t : Cyc) (h : IngHdr) (frameNo : Nat)
  /-- PUBLISH_CHECK (R79) -/
  | publishCheck (t : Cyc) (slot : Nat)
  /-- FENCE_RELEASE (R84) -/
  | fenceRelease (t : Cyc) (owner : BufOwner) (buf : Nat)
  /-- SOURCE_STALE_TIMEOUT (R87) -/
  | sourceStaleTimeout (t : Cyc) (slot : Nat)
  /-- LAYER_STILL_DATA (R88) -/
  | layerStillData (t : Cyc) (m : Msg) (layer off : Nat) (bytes : List Byte)
  /-- LAYER_STILL_PUBLISH (R88) -/
  | layerStillPublish (t : Cyc) (m : Msg) (layer : Nat)
  /-- COMPOSITOR_DEADLINE_MISS (R105) -/
  | compositorDeadlineMiss (t : Cyc) (chim : Nat)
  /-- LAYER_FETCH_ERROR (R107) -/
  | layerFetchError (t : Cyc) (layer plane line unit : Nat)
  /-- HEARTH_IMAGE (R109) -/
  | hearthImage (t : Cyc) (m : Msg) (off : Nat) (bytes : List Byte)
  /-- HEARTH_SIZE_WRITE (R110) -/
  | hearthSizeWrite (t : Cyc) (m : Msg) (height : Bool) (value : Nat)
  /-- HEARTH_COPY_DONE (R110) -/
  | hearthCopyDone (t : Cyc)
  /-- HEARTH_WORD_ERROR (R114) -/
  | hearthWordError (t : Cyc) (copy word : Nat)
  /-- HEARTH_SCRUB (R114) -/
  | hearthScrub (t : Cyc)
  /-- CHIMNEY_BRING_UP (R367) -/
  | chimneyBringUp (t : Cyc) (chim : Nat)
  /-- ASSIGN (R123) -/
  | assign (t : Cyc) (port hop : Nat) (dirB : Bool) (enabled : Nat)
  /-- ASSIGN_RETURN (R124) -/
  | assignReturn (t : Cyc) (chim hop : Nat) (dirB : Bool)
  /-- ASSIGN_PERIODIC (R195) -/
  | assignPeriodic (t : Cyc) (chim : Nat)
  /-- RING_CLOSE_TIMEOUT (R195) -/
  | ringCloseTimeout (t : Cyc) (chim : Nat)
  /-- MODE_HOLD_TIMEOUT (R131) -/
  | modeHoldTimeout (t : Cyc)
  /-- PHASE_TRACK_STEP (R142) -/
  | phaseTrackStep (t : Cyc) (port lane : Nat) (tracker : Int)
  /-- CLOCK_LANE_LOSS (R144) -/
  | clockLaneLoss (t : Cyc) (port : Nat) (offsets : List Int)
  /-- FWD_CLOCK_RETURN (R145) -/
  | fwdClockReturn (t : Cyc) (port : Nat) (offsets : List Int)
  /-- TRAINING_BLOCK (R148) -/
  | trainingBlock (t : Cyc) (port : Nat) (blocks : List Nat) (rx : RxProgress)
  /-- TRAINING_STAGE_LIMIT (R150) -/
  | trainingStageLimit (t : Cyc) (port : Nat)
  /-- TRAINING_RETRY (R150) -/
  | trainingRetry (t : Cyc) (port : Nat)
  /-- LINK_FRAMES_START (R153) -/
  | linkFramesStart (t : Cyc) (port : Nat)
  /-- BLOCK_LOCK_GAINED (R151) -/
  | blockLockGained (t : Cyc) (port lane : Nat)
  /-- BLOCK_LOCK_LOST (R151) -/
  | blockLockLost (t : Cyc) (port : Nat) (loss : LaneLoss)
  /-- WAKE_TIMEOUT (R157) -/
  | wakeTimeout (t : Cyc) (port : Nat)
  /-- EYE_MEASUREMENT_DONE (R162) -/
  | eyeMeasurementDone (t : Cyc) (port lane width : Nat)
  /-- EYE_MEASURE_TIMEOUT (R162) -/
  | eyeMeasureTimeout (t : Cyc) (port lane : Nat)
  /-- PHY_RETRAIN_IN_FRAME (R166) -/
  | phyRetrainInFrame (t : Cyc) (m : Msg) (port : Nat)
  /-- PHY_RETRAIN_OPEN (R166) -/
  | phyRetrainOpen (t : Cyc) (m : Msg) (port : Nat)
  /-- PHY_LOOP (R159) -/
  | phyLoop (t : Cyc) (m : Msg) (port value : Nat)
  /-- PHY_TEST_PATTERN (R161) -/
  | phyTestPattern (t : Cyc) (m : Msg) (port value : Nat)
  /-- LINK_FRAME (R172) -/
  | linkFrame (t : Cyc) (port : Nat) (f : LinkFrame)
  /-- LINK_ALIGN_ACQUIRED (R171) -/
  | linkAlignAcquired (t : Cyc) (port : Nat)
  /-- LINK_ALIGN_LOST (R171) -/
  | linkAlignLost (t : Cyc) (port : Nat)
  /-- CTRL (R175) -/
  | ctrl (t : Cyc) (port : Nat) (g : CtrlSeg)
  /-- CTRL_REASSEMBLY_TIMEOUT (R175) -/
  | ctrlReassemblyTimeout (t : Cyc) (src : Nat) (pathB : Bool) (msgId : Nat)
  /-- CREDIT (R185) -/
  | credit (t : Cyc) (chim tile : Nat) (a7 a6 a0 b7 b6 b0 : Nat)
  /-- TILE_CREDIT_TIMER (R185) -/
  | tileCreditTimer (t : Cyc)
  /-- BOOT_FLAG_END (R185) -/
  | bootFlagEnd (t : Cyc)
  /-- INSERTION_GAP (R182) -/
  | insertionGap (t : Cyc) (port : Nat)
  /-- ALLOWANCE_TICK (R182) -/
  | allowanceTick (t : Cyc) (port : Nat)
  /-- OWN_PACKET_INSERT (R188) -/
  | ownPacketInsert (t : Cyc) (port ahead : Nat) (group : Bool)
  /-- CTRL_FORWARD_SEND (R183) -/
  | ctrlForwardSend (t : Cyc) (chim : Nat)
  /-- UNADDR_FAULT_REPORT (R190) -/
  | unaddrFaultReport (t : Cyc)
  /-- LINE (R199) -/
  | line (t : Cyc) (port : Nat) (p : LineCopy)
  /-- FRAME_CLOSE (R198) -/
  | frameClose (t : Cyc)
  /-- PATH_HOLDOFF_EXPIRY (R204) -/
  | pathHoldoffExpiry (t : Cyc)
  /-- PATH_FORCE (R205) -/
  | pathForce (t : Cyc) (m : Msg) (value : Nat)
  /-- STATUS_PERIODIC (R208) -/
  | statusPeriodic (t : Cyc)
  /-- PATH_FLAGS_STATUS (R208) -/
  | pathFlagsStatus (t : Cyc)
  /-- STATUS (R209) -/
  | status (t : Cyc) (chim : Nat) (p : StatusPkt)
  /-- REACH_TIMEOUT (R209) -/
  | reachTimeout (t : Cyc) (chim tile : Nat)
  /-- FIRST_STATUS_TIMEOUT (R209) -/
  | firstStatusTimeout (t : Cyc) (chim tile : Nat)
  /-- PTP_SYNC (R216) -/
  | ptpSync (t : Cyc) (p : PtpSync)
  /-- PTP_FOLLOW_UP (R216) -/
  | ptpFollowUp (t : Cyc) (p : PtpSync)
  /-- PTP_DELAY_RESP (R216) -/
  | ptpDelayResp (t : Cyc) (p : PtpSync)
  /-- PTP_ANNOUNCE (R216) -/
  | ptpAnnounce (t : Cyc) (p : PtpAnnounce)
  /-- PTP_DELAY_REQ_INTERVAL (R216) -/
  | ptpDelayReqInterval (t : Cyc)
  /-- PTP_ANNOUNCE_TIMEOUT (R216) -/
  | ptpAnnounceTimeout (t : Cyc)
  /-- PTP_SYNC_TIMEOUT (R216) -/
  | ptpSyncTimeout (t : Cyc)
  /-- FREF_EDGE (R217) -/
  | frefEdge (t : Cyc) (falling : Bool)
  /-- FREF_EDGE_MISSING (R217) -/
  | frefEdgeMissing (t : Cyc)
  /-- TIME_STEP (R218) -/
  | timeStep (t : Cyc) (m : Msg) (delta : Int)
  /-- TIME_PTP_RESTEP (R218) -/
  | timePtpRestep (t : Cyc) (m : Msg)
  /-- TIME_REALIGN (R227) -/
  | timeRealign (t : Cyc) (m : Msg)
  /-- SYNC_INTERVAL (R219) -/
  | syncInterval (t : Cyc) (port : Nat)
  /-- DELAY_REQ (R219) -/
  | delayReq (t : Cyc) (port : Nat) (p : TimePkt)
  /-- ANCHOR_INTERVAL (R219) -/
  | anchorInterval (t : Cyc) (chim : Nat)
  /-- ANCHOR_ANNOUNCE_REPEAT (R228) -/
  | anchorAnnounceRepeat (t : Cyc)
  /-- DELAY_REQ_INTERVAL (R220) -/
  | delayReqInterval (t : Cyc)
  /-- SYNC (R225) -/
  | sync (t : Cyc) (port : Nat) (p : TimePkt)
  /-- DELAY_RESP (R223) -/
  | delayResp (t : Cyc) (port : Nat) (p : TimePkt)
  /-- ANCHOR (R228) -/
  | anchor (t : Cyc) (port : Nat) (a : AnchorPkt)
  /-- TILE_SYNC_TIMEOUT (R225) -/
  | tileSyncTimeout (t : Cyc)
  /-- HOLDOVER_MAX_EXPIRY (R225) -/
  | holdoverMaxExpiry (t : Cyc)
  /-- SCAN_START (R229) -/
  | scanStart (t : Cyc)
  /-- PASS_START (R230) -/
  | passStart (t : Cyc) (err : Int)
  /-- TPO_EDGE (R232) -/
  | tpoEdge (t : Cyc) (n : Nat)
  /-- LAMP_FIRST_PASS_DONE (R252) -/
  | lampFirstPassDone (t : Cyc)
  /-- LAMP_PROCESSING_DONE (R254) -/
  | lampProcessingDone (t : Cyc)
  /-- DRIVE_DEADLINE (R254) -/
  | driveDeadline (t : Cyc)
  /-- WORKING_SET_BUILD_START (R241) -/
  | workingSetBuildStart (t : Cyc) (module : Nat)
  /-- WORKING_SET_BUILD_DONE (R241) -/
  | workingSetBuildDone (t : Cyc) (module : Nat)
  /-- WORKING_SET_AGE_TIMEOUT (R241) -/
  | workingSetAgeTimeout (t : Cyc) (module : Nat)
  /-- COEF_WORD_ERROR (R242) -/
  | coefWordError (t : Cyc) (x y : Nat)
  /-- STORED_SET_ERROR (R242) -/
  | storedSetError (t : Cyc) (module set : Nat)
  /-- AGING_SWEEP (R244) -/
  | agingSweep (t : Cyc)
  /-- DOSE_FOLD (R378) -/
  | doseFold (t : Cyc)
  /-- DOSE_SAVE (R378) -/
  | doseSave (t : Cyc)
  /-- STRAND_FRAME_RETURN (R285) -/
  | strandFrameReturn (t : Cyc) (strand : Nat) (r : StrandReturn)
  /-- BREAK (R285) -/
  | breakSym (t : Cyc) (strand : Nat) (symbol : List CellSample)
  /-- STRAND_RETURN_TIMEOUT (R285) -/
  | strandReturnTimeout (t : Cyc) (strand : Nat)
  /-- STR_ENUM (R278) -/
  | strEnum (t : Cyc) (m : Msg)
  /-- ENUM_PERIODIC (R278) -/
  | enumPeriodic (t : Cyc)
  /-- ENUM_RETURN (R278) -/
  | enumReturn (t : Cyc) (strand : Nat) (symbol : List CellSample)
  /-- STR_DRV_READ (R279) -/
  | strDrvRead (t : Cyc) (m : Msg)
  /-- STR_DRV_WRITE (R279) -/
  | strDrvWrite (t : Cyc) (m : Msg)
  /-- CMD_RETURN (R279) -/
  | cmdReturn (t : Cyc) (strand : Nat) (symbol : List CellSample)
  /-- DRIVER_CMD_TIMEOUT (R279) -/
  | driverCmdTimeout (t : Cyc) (strand : Nat)
  /-- SCAN_OPEN_CLEAR_ENTRY (R304) -/
  | scanOpenClearEntry (t : Cyc) (m : Msg) (entry : Nat)
  /-- SCAN_OPEN_CLEAR_ALL (R304) -/
  | scanOpenClearAll (t : Cyc) (m : Msg)
  /-- LOOP_SAMPLE (R311) -/
  | loopSample (t : Cyc) (slot : Nat)
  /-- DAMPER_STAGING_WRITE (R322) -/
  | damperStagingWrite (t : Cyc) (zone : Nat)
  /-- MON_CONVERSION (R316) -/
  | monConversion (t : Cyc) (vMon vRefP vRefN : Int)
  /-- OP_RAMP_EVAL (R319) -/
  | opRampEval (t : Cyc)
  /-- LOOP_SWAP (R325) -/
  | loopSwap (t : Cyc) (m : Msg) (mask : Nat)
  /-- POWER_GRANT (R331) -/
  | powerGrant (t : Cyc) (m : Msg) (gseq target : Nat) (grants : List Nat)
  /-- POWER_REPORT (R333) -/
  | powerReport (t : Cyc) (m : Msg) (chim tile : Nat) (r : PowerReport)
  /-- GRANT_MISSING_TIMEOUT (R331) -/
  | grantMissingTimeout (t : Cyc)
  /-- POWER_REPORT_MISSING (R336) -/
  | powerReportMissing (t : Cyc) (chim tile : Nat)
  /-- ZONE_TEMP_SUPPLY (R389) -/
  | zoneTempSupply (t : Cyc)
  /-- CAL_OPEN (R339) -/
  | calOpen (t : Cyc) (m : Msg)
  /-- CAL_RUN (R342) -/
  | calRun (t : Cyc) (m : Msg)
  /-- CAL_ABORT (R339) -/
  | calAbort (t : Cyc) (m : Msg)
  /-- CAL_PATTERN_SHOW (R340) -/
  | calPatternShow (t : Cyc) (m : Msg) (pattern : Nat)
  /-- CAL_PATTERN_END (R340) -/
  | calPatternEnd (t : Cyc) (m : Msg)
  /-- CAL_MEAS_CLEAR (R341) -/
  | calMeasClear (t : Cyc) (m : Msg)
  /-- CAL_MEAS_DATA (R341) -/
  | calMeasData (t : Cyc) (m : Msg) (buf off : Nat) (bytes : List Byte)
  /-- CAL_BULK_DATA (R341) -/
  | calBulkData (t : Cyc) (m : Msg) (off : Nat) (bytes : List Byte)
  /-- BULK (R341) -/
  | bulk (t : Cyc) (h : BulkHdr) (off : Nat) (bytes : List Byte)
  /-- CAL_UNIT_START (R349) -/
  | calUnitStart (t : Cyc)
  /-- CAL_SOLVE_DONE (R342) -/
  | calSolveDone (t : Cyc)
  /-- CAL_CHECK_DONE (R347) -/
  | calCheckDone (t : Cyc)
  /-- CAL_FIELD_REVERT (R357) -/
  | calFieldRevert (t : Cyc) (m : Msg) (value : Nat)
  /-- CAL_LINK_RUN (R352) -/
  | calLinkRun (t : Cyc) (m : Msg) (port : Nat)
  /-- LINK_RUN_END (R352) -/
  | linkRunEnd (t : Cyc) (port : Nat)
  /-- LINK_RUN_AUTO_START (R353) -/
  | linkRunAutoStart (t : Cyc) (port : Nat)
  /-- CAL_LINK_CLEAR (R353) -/
  | calLinkClear (t : Cyc) (m : Msg) (port : Nat)
  /-- CAL_TRIM_RUN (R354) -/
  | calTrimRun (t : Cyc) (m : Msg)
  /-- TRIM_RUN_END (R354) -/
  | trimRunEnd (t : Cyc) (sites : List SiteReadings)
  /-- ANCHOR_WRITE (R362) -/
  | anchorWrite (t : Cyc) (m : Msg) (kind : AnchorKind) (entry : Nat) (key : List Byte)
  /-- SEC_FW_REVOKE (R369) -/
  | secFwRevoke (t : Cyc) (m : Msg) (key : Nat)
  /-- MODULE_POLL (R374) -/
  | modulePoll (t : Cyc) (module : Nat) (found : Option ModuleFound)
  /-- MOD_SERVICE_ENTER (R381) -/
  | modServiceEnter (t : Cyc) (m : Msg) (module : Nat)
  /-- MOD_SERVICE_LEAVE (R381) -/
  | modServiceLeave (t : Cyc) (m : Msg) (module : Nat)
  /-- SENSOR_CONVERSION (R384) -/
  | sensorConversion (t : Cyc) (readings : List Int)
  /-- THERMAL_STAGE_APPLY (R386) -/
  | thermalStageApply (t : Cyc)
  /-- MODULE_TEMP_STALE (R388) -/
  | moduleTempStale (t : Cyc) (module : Nat)
  /-- FAULT_EVENT (R397) -/
  | faultEvent (t : Cyc)
  /-- FAULT_QUIET_EXPIRY (R400) -/
  | faultQuietExpiry (t : Cyc) (src : Nat)
  /-- FLT_CLEAR_SOURCE (R400) -/
  | fltClearSource (t : Cyc) (m : Msg) (src : Nat)
  /-- FLT_CLEAR_ALL (R400) -/
  | fltClearAll (t : Cyc) (m : Msg)
  /-- FLT_INJECT (R403) -/
  | fltInject (t : Cyc) (m : Msg) (value : Nat)
  /-- FLT_INJECT_CLEAR (R403) -/
  | fltInjectClear (t : Cyc) (m : Msg)
  /-- ASH_LOG_SAVE (R405) -/
  | ashLogSave (t : Cyc)
  /-- ALARM_REPEAT (R406) -/
  | alarmRepeat (t : Cyc)
  /-- FAULT (R407) -/
  | fault (t : Cyc) (chim src entry : Nat)
  /-- WALL_ALARM_TIMEOUT (R407) -/
  | wallAlarmTimeout (t : Cyc) (chim tile : Nat)
  /-- SVC_FRAME (R419) -/
  | svcFrame (t : Cyc) (f : SvcFrame)
  /-- BOOT_RELEASE_M (R420) -/
  | bootReleaseM (t : Cyc) (m : Msg)
  /-- UPD_BEGIN (R421) -/
  | updBegin (t : Cyc) (m : Msg)
  /-- UPD_IMAGE (R421) -/
  | updImage (t : Cyc) (m : Msg) (off : Nat) (bytes : List Byte)
  /-- UPD_VERIFY (R421) -/
  | updVerify (t : Cyc) (m : Msg) (verdicts : List ImageVerdict)
  /-- UPD_ACTIVATE (R422) -/
  | updActivate (t : Cyc) (m : Msg) (mask target : Nat)
  /-- KERNEL_LOAD_DONE (R422) -/
  | kernelLoadDone (t : Cyc)
  /-- UPD_CONFIRM (R423) -/
  | updConfirm (t : Cyc)
  /-- UPD_WINDOW_EXPIRY (R425) -/
  | updWindowExpiry (t : Cyc)
  /-- UPD_FALLBACK (R425) -/
  | updFallback (t : Cyc) (m : Msg)
  /-- TRIM_PWM_PERIOD (R317) -/
  | trimPwmPeriod (t : Cyc) (n : Nat)
  /-- TPO_PULSE_END (R232) -/
  | tpoPulseEnd (t : Cyc) (n : Nat)
  /-- JTAG_INSTRUCTION (R442) -/
  | jtagInstruction (t : Cyc) (code : Nat)
deriving DecidableEq, Repr

end Sys2Proof
end

