-- ==== Sys2Proof/Decode.lean ====
section
/-! DEFINITION. The command that a word of spec/opcode_table.json spells.

The table gives no row of this block any bits (every row's "fields" is empty): its commands are transactions and events,
not encoded words. So no word spells a command. -/

namespace Sys2Proof

/-- None: no row of the table gives bits. -/
def decodeTableWord (_nbits _w : Nat) : Option Instr := none

end Sys2Proof
end

