-- ==== Sys2Proof/Config.lean ====
section
/-! DEFINITION. What the manual leaves to the part or leaves open: constants of one device and free values.

Every `opaque` below has no body, so no proof can learn its value; a claim that uses one holds whatever it is. -/

namespace Sys2Proof.Config

/-- FREE VALUE (log 3). The n-th value that the manual leaves undefined or does not state; `State.free` is n. -/
opaque freeNat : Nat → Nat

/-- FREE VALUE (log 3). The content of a byte that the manual calls undefined (R79, R89) at an address. -/
opaque freeByte : Nat → Byte

/-- FREE VALUE (log 3). The role that a floating ROLE_SEL gives (R438: undefined); the n-th sampling. -/
opaque floatingRoleIsSender : Nat → Bool

/-- Implementation constant (R383): DEV_SERIAL of this device. -/
opaque devSerial : Nat

/-- Implementation constant (R5, R383): whether the order code is XJ5120-I (otherwise XJ5120-C). -/
opaque orderCodeIsI : Bool

/-- Implementation constants (R361, R383): the bytes of DEV_CERT and DEV_CA_CERT. -/
opaque devCert : List Byte
opaque devCaCert : List Byte

/-- Implementation constant (R362, Table 15-1): the Vendor anchor of the boot ROM, 97 bytes as a number. -/
opaque vendorAnchor : Nat

/-- FREE VALUE (log 5). The two 32-byte session keys of R365, as numbers, from the salt (the client NONCE followed by the
device NONCE), the session, its epoch and a fresh draw (the shared secret). -/
opaque sessionKeys : Nat → Nat → Nat → Nat → Nat × Nat

/-- FREE VALUE (log 20). The servo's new rate or ADDEND (R215, R225): the loop gains are not given. Arguments:
the rate in force, the offset in 2^-46 ns, and a fresh draw. -/
opaque servoRate : Nat → Int → Nat → Nat

/-- FREE VALUE (log 20). The filtered offset after a measurement (TIME_OFFSET): the filter is not given. Arguments:
the filtered offset so far, the new one, and a fresh draw. -/
opaque filterOffset : Int → Int → Nat → Int

/-- FREE VALUE (log 24). The width of R246 for a colour whose efficiency is 0: the quotient is not stated. Arguments: the
demanded light and the step. -/
opaque widthCorner : Int → Nat → Nat

/-- FREE VALUE (log 34). A quotient by zero in the calibration arithmetic of R344 to R346, which the manual computes in
floating point and does not state. The argument is the dividend. -/
opaque calQuotient : Rat → Rat

/-- FREE VALUE (log 45). The relative output of R244 in Q1.15 where the package gives a DELTA_D of 0 (a curve without
points): the manual states none. Argument: the dose. -/
opaque agingCorner : Nat → Nat

/-- Implementation constant (log 13). Whether an engine owns a line packet of a sender (chimney, address, line) or, in
a tile, a pixel (chimney 0, x, y): the manual does not place the shares of R19. -/
opaque engineOwns : Nat → Nat → Nat → Nat → Bool

/-- Implementation constant (R414, log 151): the payload of a configuration area, whose layout belongs to the firmware: from the
format, the numbers, the BLOB bytes and the Hearth image saved. -/
opaque configBytes : Nat → List (Nat × Int) → List Host.Cell → List Host.Cell → List Byte

/-- Implementation constant (R186): mean relay latency out of a port in ps, reported in FRM_RELAY_PS. -/
opaque relayPs : Nat → Nat

end Sys2Proof.Config
end

