-- ==== Sys2Proof/Machine/ObjRow.lean ====
section
/-! DEFINITION. What a row of an object table says (R31 to R36, Tables 2-1 and 2-2), and how objects are addressed.

An object value in force or in a shadow is a number; a BLOB's bytes are held apart (`State.blob`) and a STR is a
constant (`stringOf`). An object is keyed by index * 256 + subindex. -/

namespace Sys2Proof.Machine

/-- The types of Table 2-1; `u n` and `i n` are n bytes on the wire. -/
inductive Ty where
  | bool | u (n : Nat) | i (n : Nat) | time96 | str | blob
deriving DecidableEq, Repr

/-- The access classes of Table 2-2. -/
inductive Acc where
  | ro | rw | rws | wo | cmd
deriving DecidableEq, Repr

/-- Who may write (R43, Table 2-4): Integrator and Vendor; those and Operator; Vendor only; Safety only; every role
that may commit; every role that may lock. -/
inductive Writer where
  | integrator | operator | vendor | safety | committer | locker
deriving DecidableEq, Repr

/-- The device role in which an object exists. -/
inductive Only where
  | any | sender | tile
deriving DecidableEq, Repr

/-- A default: one value, one value per element, the element's number, or Table 17-4. -/
inductive Dflt where
  | val (v : Int) | list (l : List Int) | ident | fltCfg | fltQuiet
deriving DecidableEq, Repr

/-- One row of an object table: `ni` instances at `base + stride * i`, each with subindices `s0` to `s0 + ns - 1`. -/
structure ObjRow where
  base : Nat
  stride : Nat := 1
  ni : Nat := 1
  s0 : Nat := 0
  ns : Nat := 1
  ty : Ty
  acc : Acc
  df : Dflt := .val 0
  lo : Int
  hi : Int
  who : Writer := .integrator
  role : Only := .any
  keep : Bool := false
  stopped : Bool := false
  rom : Bool := false
deriving DecidableEq, Repr

/-- The key of element `j` of instance `i`. -/
def ObjRow.key (r : ObjRow) (i j : Nat) : Nat := (r.base + r.stride * i) * 256 + r.s0 + j

/-- FLT_CFG from its fields (Table 17-5). -/
def fltCfgOf (n window react : Nat) : Int := ((n * 65536 + window) * 256 + react : Nat)

/-- Default FLT_CFG of source s (R408, Table 17-4). REPORT is bit 3, ALARM bit 2, NOTIFY bit 7. -/
def defaultFltCfg (s : Nat) : Int :=
  if s ∈ [0x03, 0x06] then fltCfgOf 16 1000 0x08
  else if s = 0x0C then fltCfgOf 4 1000 0x0C
  else if s ∈ [0x0D, 0x10, 0x11, 0x25, 0x46] then fltCfgOf 1 1000 0x0C
  else if s ∈ [0x37, 0x38, 0x3D, 0x72] then fltCfgOf 1 1000 0x8C
  else if s = 0x40 then fltCfgOf 4 1000 0x0C
  else if s = 0x47 then fltCfgOf 64 1000 0x08
  else if s = 0x48 then fltCfgOf 16 1000 0x08
  else if s = 0x60 then fltCfgOf 100 1000 0x08
  else if s = 0x74 then fltCfgOf 1 1 0x0C
  else if s ∈ [0x67, 0x7B] then fltCfgOf 2 60000 0x0C
  else fltCfgOf 1 1000 0x08

/-- Default FLT_QUIET of source s in seconds (R408, Table 17-4). therm-shutdown has none there; it clears only with
PORST_N (R400), so its entry is never used and reads 0 (log 7). -/
def defaultFltQuiet (s : Nat) : Int :=
  if s ∈ [0x37, 0x38, 0x3D, 0x67, 0x7B, 0x74] then 0 else 10

/-- The default of element `j` (R35). -/
def ObjRow.default (r : ObjRow) (j : Nat) : Int :=
  match r.df with
  | .val v => v
  | .list l => l.getD j 0
  | .ident => j
  | .fltCfg => defaultFltCfg j
  | .fltQuiet => defaultFltQuiet j

/-- Instance and element of an address, where the row has it (R31). -/
def ObjRow.locate (r : ObjRow) (ix sub : Nat) : Option (Nat × Nat) :=
  if r.base ≤ ix ∧ (ix - r.base) % r.stride = 0 ∧ (ix - r.base) / r.stride < r.ni ∧ r.s0 ≤ sub ∧ sub < r.s0 + r.ns
  then some ((ix - r.base) / r.stride, sub - r.s0) else none

/-- The area of an index (R38, Table 2-3). Area 21 is the Safety objects of the Hearth layer. -/
def areaOf (ix : Nat) : Nat :=
  if 0x22C0 ≤ ix ∧ ix ≤ 0x22CF then 21
  else match ix / 256 with
  | 0x10 => 0 | 0x11 => 1 | 0x1F => 2 | 0x20 => 3 | 0x21 => 4 | 0x22 => 5 | 0x23 => 6 | 0x30 => 7 | 0x31 => 8
  | 0x32 => 9 | 0x33 => 10 | 0x40 => 11 | 0x41 => 12 | 0x42 => 13 | 0x50 => 14 | 0x51 => 15 | 0x60 => 16
  | 0x61 => 17 | 0x70 => 18 | 0x71 => 19 | 0x80 => 20
  | _ => 31

/-- Bytes of a value on the wire (Table 2-1); a STR or BLOB is sized by its content. -/
def Ty.wire : Ty → Nat
  | .bool => 1
  | .u n => n
  | .i n => n
  | .time96 => 12
  | .str => 0
  | .blob => 0

/-- The type code of Table 2-1. -/
def Ty.code : Ty → Nat
  | .bool => 0x01
  | .u 1 => 0x02
  | .u 2 => 0x03
  | .u 4 => 0x04
  | .u _ => 0x05
  | .i 1 => 0x06
  | .i 2 => 0x07
  | .i 4 => 0x08
  | .i _ => 0x09
  | .time96 => 0x0B
  | .str => 0x0C
  | .blob => 0x0D

end Sys2Proof.Machine
end

