-- ==== Sys2Proof/Machine/Objects1.lean ====
section
/-! DEFINITION. The object dictionary, one `ObjRow` per row of the manual's object tables of chapters 1 to 5.

Each row holds the table's index, subindices, type, access class, default and limits, the roles that may write it
(R43), the role in which it exists, and whether it is persistent, stopped-only or served by the ROM (R420). -/

namespace Sys2Proof.Machine

def Obj.DEV_PAIR_M_STATE : ObjRow :=
  { base := 0x1060, ty := .u 1, acc := .ro, lo := 0, hi := 255 }
def Obj.DEV_PAIR_C_STATE : ObjRow :=
  { base := 0x1060, s0 := 1, ty := .u 1, acc := .ro, lo := 0, hi := 255 }
def Obj.DEV_PAIR_M_RESTARTS : ObjRow :=
  { base := 0x1060, s0 := 2, ty := .u 4, acc := .ro, lo := 0, hi := 4294967295 }
def Obj.DEV_PAIR_C_RESTARTS : ObjRow :=
  { base := 0x1060, s0 := 3, ty := .u 4, acc := .ro, lo := 0, hi := 4294967295 }
def Obj.DEV_PAIR_M_WDT : ObjRow :=
  { base := 0x1060, s0 := 4, ty := .u 2, acc := .rw, df := .val 1000, lo := 100, hi := 10000 }
def Obj.DEV_PAIR_C_WDT : ObjRow :=
  { base := 0x1060, s0 := 5, ty := .u 2, acc := .rw, df := .val 100, lo := 10, hi := 1000 }
def Obj.DEV_PAIR_RESTART : ObjRow :=
  { base := 0x1060, s0 := 6, ty := .u 1, acc := .cmd, lo := 1, hi := 2 }
def Obj.DEV_ENG_IN_SERVICE : ObjRow :=
  { base := 0x1030, ty := .u 2, acc := .ro, lo := 0, hi := 65535 }
def Obj.DEV_ENG_SPARE : ObjRow :=
  { base := 0x1030, s0 := 1, ty := .u 2, acc := .ro, lo := 0, hi := 65535 }
def Obj.DEV_ENG_RETIRED : ObjRow :=
  { base := 0x1030, s0 := 2, ty := .u 2, acc := .ro, lo := 0, hi := 65535 }
def Obj.DEV_ENG_REQUIRED : ObjRow :=
  { base := 0x1030, s0 := 3, ty := .u 2, acc := .ro, df := .val 128, lo := 0, hi := 65535 }
def Obj.DEV_ENG_SPARE_WARN : ObjRow :=
  { base := 0x1030, s0 := 4, ty := .u 1, acc := .rw, df := .val 4, lo := 0, hi := 32 }
def Obj.DEV_ENG_CE_COUNT : ObjRow :=
  { base := 0x1030, s0 := 5, ty := .u 4, acc := .ro, lo := 0, hi := 4294967295 }
def Obj.DEV_ENG_RETIRED_CLEAR : ObjRow :=
  { base := 0x1030, s0 := 6, ty := .u 1, acc := .cmd, lo := 1, hi := 1, who := .vendor }
def Obj.DEV_ENG_STATE_LO : ObjRow :=
  { base := 0x1031, ns := 256, ty := .u 1, acc := .ro, lo := 0, hi := 255 }
def Obj.DEV_ENG_STATE_MID : ObjRow :=
  { base := 0x1032, ns := 256, ty := .u 1, acc := .ro, lo := 0, hi := 255 }
def Obj.DEV_ENG_STATE_HI : ObjRow :=
  { base := 0x1033, ns := 32, ty := .u 1, acc := .ro, lo := 0, hi := 255 }
def Obj.DEV_ARB_MEM_N : ObjRow :=
  { base := 0x1040, ty := .u 1, acc := .rws, df := .val 16, lo := 4, hi := 64 }
def Obj.DEV_ARB_WS_N : ObjRow :=
  { base := 0x1040, s0 := 1, ty := .u 1, acc := .rws, df := .val 16, lo := 4, hi := 64 }
def Obj.DEV_CLOCK_STATUS : ObjRow :=
  { base := 0x1050, ty := .u 2, acc := .ro, lo := 0, hi := 65535 }
def Obj.DICT_SESSIONS_OPEN : ObjRow :=
  { base := 0x1100, ty := .u 1, acc := .ro, lo := 0, hi := 255 }
def Obj.DICT_SESSION_TABLE : ObjRow :=
  { base := 0x1101, ns := 64, ty := .u 8, acc := .ro, lo := 0, hi := 18446744073709551615 }
def Obj.DICT_UDP_PORT : ObjRow :=
  { base := 0x1120, ty := .u 2, acc := .rws, df := .val 50120, lo := 1024, hi := 65535, keep := true }
def Obj.DICT_SESSION_TIMEOUT : ObjRow :=
  { base := 0x1120, s0 := 1, ty := .u 2, acc := .rw, df := .val 30, lo := 5, hi := 600 }
def Obj.DICT_AUTH_FAILS : ObjRow :=
  { base := 0x1120, s0 := 2, ty := .u 4, acc := .ro, lo := 0, hi := 4294967295 }
def Obj.DICT_REPLAYS : ObjRow :=
  { base := 0x1120, s0 := 3, ty := .u 4, acc := .ro, lo := 0, hi := 4294967295 }
def Obj.COMMIT_SCOPE : ObjRow :=
  { base := 0x1F00, ty := .u 4, acc := .rw, lo := 0, hi := 4294967295, who := .committer }
def Obj.COMMIT_CHIMNEYS : ObjRow :=
  { base := 0x1F00, s0 := 1, ty := .u 1, acc := .rw, lo := 0, hi := 255, who := .committer, role := .sender }
def Obj.COMMIT_FLAGS : ObjRow :=
  { base := 0x1F00, s0 := 2, ty := .u 1, acc := .rw, df := .val 4, lo := 0, hi := 255, who := .committer }
def Obj.COMMIT_TARGET : ObjRow :=
  { base := 0x1F00, s0 := 3, ty := .u 8, acc := .rw, lo := 0, hi := 281474976710655, who := .committer }
def Obj.COMMIT_GO : ObjRow :=
  { base := 0x1F00, s0 := 4, ty := .u 1, acc := .cmd, lo := 1, hi := 1, who := .committer }
def Obj.COMMIT_STATE : ObjRow :=
  { base := 0x1F01, ty := .u 1, acc := .ro, lo := 0, hi := 255 }
def Obj.COMMIT_ID : ObjRow :=
  { base := 0x1F01, s0 := 1, ty := .u 4, acc := .ro, lo := 0, hi := 4294967295 }
def Obj.COMMIT_APPLIED_WFC : ObjRow :=
  { base := 0x1F01, s0 := 2, ty := .u 8, acc := .ro, lo := 0, hi := 18446744073709551615 }
def Obj.COMMIT_FAIL_OBJECT : ObjRow :=
  { base := 0x1F01, s0 := 3, ty := .u 4, acc := .ro, lo := 0, hi := 4294967295 }
def Obj.COMMIT_FAIL_STATUS : ObjRow :=
  { base := 0x1F01, s0 := 4, ty := .u 1, acc := .ro, lo := 0, hi := 255 }
def Obj.COMMIT_GENERATION : ObjRow :=
  { base := 0x1F01, s0 := 5, ty := .u 4, acc := .ro, lo := 0, hi := 4294967295 }
def Obj.COMMIT_TILES_ARMED : ObjRow :=
  { base := 0x1F01, s0 := 6, ty := .u 2, acc := .ro, lo := 0, hi := 65535 }
def Obj.COMMIT_DIRTY : ObjRow :=
  { base := 0x1F01, s0 := 7, ty := .u 4, acc := .ro, lo := 0, hi := 4294967295 }
def Obj.COMMIT_TILE_EXCEPT : ObjRow :=
  { base := 0x1F02, ns := 16, ty := .u 8, acc := .ro, lo := 0, hi := 18446744073709551615 }
def Obj.COMMIT_LEAD : ObjRow :=
  { base := 0x1F03, ty := .u 1, acc := .rw, df := .val 4, lo := 3, hi := 240, keep := true }
def Obj.LOCK_CTRL : ObjRow :=
  { base := 0x1F10, ns := 32, ty := .u 4, acc := .rw, df := .val 16711680, lo := 1, hi := 3, who := .locker }
def Obj.LOCK_SUSPECT : ObjRow :=
  { base := 0x1F11, ty := .u 4, acc := .ro, lo := 0, hi := 4294967295 }
def Obj.PERSIST_SAVE : ObjRow :=
  { base := 0x1F20, ty := .u 1, acc := .cmd, lo := 1, hi := 1, who := .operator }
def Obj.PERSIST_STATE : ObjRow :=
  { base := 0x1F20, s0 := 1, ty := .u 1, acc := .ro, lo := 0, hi := 255 }
def Obj.PERSIST_AUTO : ObjRow :=
  { base := 0x1F20, s0 := 2, ty := .bool, acc := .rw, df := .val 1, lo := 0, hi := 1, keep := true }
def Obj.PERSIST_INTERVAL : ObjRow :=
  { base := 0x1F20, s0 := 3, ty := .u 4, acc := .rw, df := .val 3600, lo := 600, hi := 86400, keep := true }
def Obj.PERSIST_SAVES : ObjRow :=
  { base := 0x1F20, s0 := 4, ty := .u 4, acc := .ro, lo := 0, hi := 4294967295, keep := true }
def Obj.PERSIST_DEFAULTS : ObjRow :=
  { base := 0x1F20, s0 := 5, ty := .u 4, acc := .cmd, lo := 0, hi := 4294967295 }
def Obj.ING_PORT : ObjRow :=
  { base := 0x2000, stride := 16, ni := 8, ty := .u 1, acc := .rws, df := .val 255, lo := 0, hi := 255, keep := true }
def Obj.ING_WIDTH : ObjRow :=
  { base := 0x2000, stride := 16, ni := 8, s0 := 1, ty := .u 2, acc := .rws, df := .val 1920, lo := 16, hi := 16384, keep := true }
def Obj.ING_HEIGHT : ObjRow :=
  { base := 0x2000, stride := 16, ni := 8, s0 := 2, ty := .u 2, acc := .rws, df := .val 1080, lo := 16, hi := 8192, keep := true }
def Obj.ING_SAMPLING : ObjRow :=
  { base := 0x2000, stride := 16, ni := 8, s0 := 3, ty := .u 1, acc := .rws, df := .val 1, lo := 0, hi := 2, keep := true }
def Obj.ING_DEPTH : ObjRow :=
  { base := 0x2000, stride := 16, ni := 8, s0 := 4, ty := .u 1, acc := .rws, df := .val 1, lo := 0, hi := 2, keep := true }
def Obj.ING_ALPHA : ObjRow :=
  { base := 0x2000, stride := 16, ni := 8, s0 := 5, ty := .bool, acc := .rws, lo := 0, hi := 1, keep := true }
def Obj.ING_RING_DEPTH : ObjRow :=
  { base := 0x2000, stride := 16, ni := 8, s0 := 6, ty := .u 1, acc := .rws, df := .val 3, lo := 2, hi := 8, keep := true }
def Obj.ING_MAX_RATE : ObjRow :=
  { base := 0x2000, stride := 16, ni := 8, s0 := 7, ty := .u 4, acc := .rws, df := .val 60000, lo := 1000, hi := 480000, keep := true }
def Obj.ING_STALE_TIMEOUT : ObjRow :=
  { base := 0x2000, stride := 16, ni := 8, s0 := 8, ty := .u 2, acc := .rw, df := .val 100, lo := 10, hi := 10000, keep := true }
def Obj.ING_STATE : ObjRow :=
  { base := 0x2000, stride := 16, ni := 8, s0 := 9, ty := .u 1, acc := .ro, lo := 0, hi := 255 }
def Obj.ING_FRAMES_PUBLISHED : ObjRow :=
  { base := 0x2000, stride := 16, ni := 8, s0 := 10, ty := .u 4, acc := .ro, lo := 0, hi := 4294967295 }
def Obj.ING_PUBLISH_REFUSED : ObjRow :=
  { base := 0x2000, stride := 16, ni := 8, s0 := 11, ty := .u 4, acc := .ro, lo := 0, hi := 4294967295 }
def Obj.ING_HELD_WRITES : ObjRow :=
  { base := 0x2000, stride := 16, ni := 8, s0 := 12, ty := .u 4, acc := .ro, lo := 0, hi := 4294967295 }
def Obj.ING_STALE_WRITES : ObjRow :=
  { base := 0x2000, stride := 16, ni := 8, s0 := 13, ty := .u 4, acc := .ro, lo := 0, hi := 4294967295 }
def Obj.ING_LAST_FRAME_NO : ObjRow :=
  { base := 0x2000, stride := 16, ni := 8, s0 := 14, ty := .u 4, acc := .ro, lo := 0, hi := 4294967295 }
def Obj.ING_REFUSE_REASON : ObjRow :=
  { base := 0x2000, stride := 16, ni := 8, s0 := 15, ty := .u 1, acc := .ro, lo := 0, hi := 255 }
def Obj.ING_MEM_ALLOCATED : ObjRow :=
  { base := 0x2080, ty := .u 8, acc := .ro, lo := 0, hi := 18446744073709551615 }
def Obj.ING_BW_COMMITTED : ObjRow :=
  { base := 0x2080, s0 := 1, ty := .u 4, acc := .ro, lo := 0, hi := 4294967295 }
def Obj.ING_MEM_INSTALLED : ObjRow :=
  { base := 0x2080, s0 := 2, ty := .u 8, acc := .ro, lo := 0, hi := 18446744073709551615 }
def Obj.LAYER_BIND : ObjRow :=
  { base := 0x2100, stride := 16, ni := 15, ty := .u 1, acc := .rws, df := .val 255, lo := 0, hi := 255, keep := true }
def Obj.LAYER_STILL_WIDTH : ObjRow :=
  { base := 0x2100, stride := 16, ni := 15, s0 := 1, ty := .u 2, acc := .rws, df := .val 1920, lo := 16, hi := 16384, keep := true }
def Obj.LAYER_STILL_HEIGHT : ObjRow :=
  { base := 0x2100, stride := 16, ni := 15, s0 := 2, ty := .u 2, acc := .rws, df := .val 1080, lo := 16, hi := 8192, keep := true }
def Obj.LAYER_STILL_FORMAT : ObjRow :=
  { base := 0x2100, stride := 16, ni := 15, s0 := 3, ty := .u 1, acc := .rws, df := .val 8, lo := 0, hi := 255, keep := true }
def Obj.LAYER_STILL_DATA : ObjRow :=
  { base := 0x2100, stride := 16, ni := 15, s0 := 4, ty := .blob, acc := .wo, lo := 0, hi := 0 }
def Obj.LAYER_STILL_PUBLISH : ObjRow :=
  { base := 0x2100, stride := 16, ni := 15, s0 := 5, ty := .u 1, acc := .cmd, lo := 1, hi := 1 }
def Obj.LAYER_STATE : ObjRow :=
  { base := 0x2100, stride := 16, ni := 15, s0 := 6, ty := .u 1, acc := .ro, lo := 0, hi := 255 }
def Obj.LAYER_BUFFER : ObjRow :=
  { base := 0x2100, stride := 16, ni := 15, s0 := 7, ty := .u 4, acc := .ro, lo := 0, hi := 4294967295 }
def Obj.LAYER_REPEATS : ObjRow :=
  { base := 0x2100, stride := 16, ni := 15, s0 := 8, ty := .u 4, acc := .ro, lo := 0, hi := 4294967295 }
def Obj.LAYER_NOT_READY : ObjRow :=
  { base := 0x2100, stride := 16, ni := 15, s0 := 9, ty := .u 4, acc := .ro, lo := 0, hi := 4294967295 }
def Obj.LAYER_STILL_HELD : ObjRow :=
  { base := 0x2100, stride := 16, ni := 15, s0 := 10, ty := .u 4, acc := .ro, lo := 0, hi := 4294967295 }
def Obj.LAYER_WIN_X : ObjRow :=
  { base := 0x2200, stride := 2, ni := 15, ty := .u 2, acc := .rws, lo := 0, hi := 65535, who := .operator, keep := true }
def Obj.LAYER_WIN_Y : ObjRow :=
  { base := 0x2200, stride := 2, ni := 15, s0 := 1, ty := .u 2, acc := .rws, lo := 0, hi := 65535, who := .operator, keep := true }
def Obj.LAYER_WIN_W : ObjRow :=
  { base := 0x2200, stride := 2, ni := 15, s0 := 2, ty := .u 2, acc := .rws, df := .val 1920, lo := 16, hi := 16384, who := .operator, keep := true }
def Obj.LAYER_WIN_H : ObjRow :=
  { base := 0x2200, stride := 2, ni := 15, s0 := 3, ty := .u 2, acc := .rws, df := .val 1080, lo := 16, hi := 8192, who := .operator, keep := true }
def Obj.LAYER_POS_X : ObjRow :=
  { base := 0x2200, stride := 2, ni := 15, s0 := 4, ty := .u 2, acc := .rws, lo := 0, hi := 32767, who := .operator, keep := true }
def Obj.LAYER_POS_Y : ObjRow :=
  { base := 0x2200, stride := 2, ni := 15, s0 := 5, ty := .u 2, acc := .rws, lo := 0, hi := 32767, who := .operator, keep := true }
def Obj.LAYER_ORIENT : ObjRow :=
  { base := 0x2200, stride := 2, ni := 15, s0 := 6, ty := .u 1, acc := .rws, lo := 0, hi := 7, keep := true }
def Obj.LAYER_MATRIX : ObjRow :=
  { base := 0x2200, stride := 2, ni := 15, s0 := 7, ty := .u 1, acc := .rws, lo := 0, hi := 1, keep := true }
def Obj.LAYER_RANGE : ObjRow :=
  { base := 0x2200, stride := 2, ni := 15, s0 := 8, ty := .u 1, acc := .rws, lo := 0, hi := 1, keep := true }
def Obj.LAYER_OPACITY : ObjRow :=
  { base := 0x2200, stride := 2, ni := 15, s0 := 9, ty := .u 1, acc := .rws, df := .val 255, lo := 0, hi := 255, who := .operator, keep := true }
def Obj.LAYER_STALE_MODE : ObjRow :=
  { base := 0x2200, stride := 2, ni := 15, s0 := 10, ty := .u 1, acc := .rws, lo := 0, hi := 2, keep := true }
def Obj.LAYER_FILL : ObjRow :=
  { base := 0x2200, stride := 2, ni := 15, s0 := 11, ty := .u 8, acc := .rws, lo := 0, hi := 18446744073709551615, keep := true }
def Obj.LAYER_FETCH_ERRORS : ObjRow :=
  { base := 0x2200, stride := 2, ni := 15, s0 := 12, ty := .u 4, acc := .ro, lo := 0, hi := 4294967295 }
def Obj.LAYER_PRE_LUT : ObjRow :=
  { base := 0x2201, stride := 2, ni := 15, ty := .blob, acc := .rws, lo := 0, hi := 0, keep := true }
def Obj.COMP_ORDER : ObjRow :=
  { base := 0x2280, ns := 16, ty := .u 1, acc := .rws, df := .val 255, lo := 0, hi := 255, who := .operator, keep := true }
def Obj.COMP_BACKGROUND : ObjRow :=
  { base := 0x2281, ty := .u 8, acc := .rws, lo := 0, hi := 18446744073709551615, who := .operator, keep := true }
def Obj.COMP_POST_LUT : ObjRow :=
  { base := 0x2282, ty := .blob, acc := .rws, lo := 0, hi := 0, keep := true }
def Obj.COMP_FRAMES : ObjRow :=
  { base := 0x2283, ty := .u 4, acc := .ro, lo := 0, hi := 4294967295 }
def Obj.COMP_LATE_PACKETS : ObjRow :=
  { base := 0x2283, s0 := 1, ty := .u 4, acc := .ro, lo := 0, hi := 4294967295 }
def Obj.HEARTH_ENABLE : ObjRow :=
  { base := 0x22C0, ty := .bool, acc := .rws, lo := 0, hi := 1, who := .safety, keep := true }
def Obj.HEARTH_WIDTH : ObjRow :=
  { base := 0x22C0, s0 := 1, ty := .u 2, acc := .rws, df := .val 1024, lo := 16, hi := 4096, who := .safety, keep := true }
def Obj.HEARTH_HEIGHT : ObjRow :=
  { base := 0x22C0, s0 := 2, ty := .u 2, acc := .rws, df := .val 512, lo := 16, hi := 4096, who := .safety, keep := true }
def Obj.HEARTH_POS_X : ObjRow :=
  { base := 0x22C0, s0 := 3, ty := .u 2, acc := .rws, lo := 0, hi := 32767, who := .safety, keep := true }
def Obj.HEARTH_POS_Y : ObjRow :=
  { base := 0x22C0, s0 := 4, ty := .u 2, acc := .rws, lo := 0, hi := 32767, who := .safety, keep := true }
def Obj.HEARTH_ORIENT : ObjRow :=
  { base := 0x22C0, s0 := 5, ty := .u 1, acc := .rws, lo := 0, hi := 7, who := .safety, keep := true }
def Obj.HEARTH_LEVEL : ObjRow :=
  { base := 0x22C0, s0 := 6, ty := .u 2, acc := .rws, df := .val 32768, lo := 0, hi := 32768, who := .safety, keep := true }
def Obj.HEARTH_PROTECT_MIN : ObjRow :=
  { base := 0x22C0, s0 := 7, ty := .u 1, acc := .rws, df := .val 1, lo := 1, hi := 255, who := .safety, keep := true }
def Obj.HEARTH_IMAGE : ObjRow :=
  { base := 0x22C0, s0 := 8, ty := .blob, acc := .wo, lo := 0, hi := 0, who := .safety }
def Obj.HEARTH_FRONT_CRC : ObjRow :=
  { base := 0x22C0, s0 := 9, ty := .u 4, acc := .ro, lo := 0, hi := 4294967295 }
def Obj.HEARTH_BACK_CRC : ObjRow :=
  { base := 0x22C0, s0 := 10, ty := .u 4, acc := .ro, lo := 0, hi := 4294967295 }
def Obj.HEARTH_STATE : ObjRow :=
  { base := 0x22C0, s0 := 11, ty := .u 1, acc := .ro, lo := 0, hi := 255 }
def Obj.HEARTH_PROTECTED_PX : ObjRow :=
  { base := 0x22C0, s0 := 12, ty := .u 4, acc := .ro, lo := 0, hi := 4294967295 }
def Obj.HEARTH_CORRECTED : ObjRow :=
  { base := 0x22C0, s0 := 13, ty := .u 4, acc := .ro, lo := 0, hi := 4294967295 }
def Obj.WALL_RATE : ObjRow :=
  { base := 0x2300, ty := .u 1, acc := .rws, df := .val 8, lo := 0, hi := 19, keep := true }
def Obj.WALL_SCAN : ObjRow :=
  { base := 0x2300, s0 := 1, ty := .u 1, acc := .rws, df := .val 3, lo := 0, hi := 4, keep := true }
def Obj.WALL_CANVAS_W : ObjRow :=
  { base := 0x2300, s0 := 2, ty := .u 2, acc := .rws, df := .val 3840, lo := 16, hi := 32768, role := .sender, keep := true }
def Obj.WALL_CANVAS_H : ObjRow :=
  { base := 0x2300, s0 := 3, ty := .u 2, acc := .rws, df := .val 2160, lo := 16, hi := 32768, role := .sender, keep := true }
def Obj.WALL_PASSES : ObjRow :=
  { base := 0x2300, s0 := 4, ty := .u 2, acc := .ro, df := .val 448, lo := 0, hi := 65535 }
def Obj.WALL_PERIOD_NS : ObjRow :=
  { base := 0x2300, s0 := 5, ty := .u 4, acc := .ro, df := .val 16666667, lo := 0, hi := 4294967295 }
def Obj.WALL_HOLDS : ObjRow :=
  { base := 0x2300, s0 := 6, ty := .u 4, acc := .ro, lo := 0, hi := 4294967295, role := .tile }
def Obj.WALL_COMP_LOAD : ObjRow :=
  { base := 0x2301, ty := .u 2, acc := .ro, lo := 0, hi := 65535, role := .sender }
def Obj.WALL_CHIM_TILES : ObjRow :=
  { base := 0x2302, ns := 8, ty := .u 1, acc := .rws, lo := 0, hi := 128, role := .sender, keep := true }
def Obj.WALL_CHIM_FOUND : ObjRow :=
  { base := 0x2303, ns := 8, ty := .u 1, acc := .ro, lo := 0, hi := 255, role := .sender }
def Obj.WALL_CHIM_LOAD : ObjRow :=
  { base := 0x2304, ns := 8, ty := .u 2, acc := .ro, lo := 0, hi := 65535, role := .sender }
def Obj.WALL_TILE_MAP : ObjRow :=
  { base := 0x2310, stride := 1, ni := 8, ns := 128, ty := .u 8, acc := .rws, lo := 0, hi := 18446744073709551615, role := .sender, keep := true }
def Obj.TILE_WIDTH : ObjRow :=
  { base := 0x2320, ty := .u 2, acc := .rws, df := .val 512, lo := 8, hi := 512, role := .tile, keep := true }
def Obj.TILE_HEIGHT : ObjRow :=
  { base := 0x2320, s0 := 1, ty := .u 2, acc := .rws, df := .val 512, lo := 8, hi := 512, role := .tile, keep := true }
def Obj.TILE_LAMPS : ObjRow :=
  { base := 0x2320, s0 := 2, ty := .u 1, acc := .rws, df := .val 3, lo := 3, hi := 4, role := .tile, keep := true }
def Obj.TILE_ADDRESS : ObjRow :=
  { base := 0x2320, s0 := 3, ty := .u 1, acc := .ro, lo := 0, hi := 255, role := .tile }
def Obj.TILE_A_PORT : ObjRow :=
  { base := 0x2320, s0 := 4, ty := .u 1, acc := .ro, df := .val 255, lo := 0, hi := 255, role := .tile }
def Obj.TILE_STATE : ObjRow :=
  { base := 0x2320, s0 := 5, ty := .u 1, acc := .ro, lo := 0, hi := 255, role := .tile }
def Obj.TILE_STRAND_LOAD : ObjRow :=
  { base := 0x2320, s0 := 6, ty := .u 2, acc := .ro, lo := 0, hi := 65535, role := .tile }

def objTable1a : List ObjRow := [
  Obj.DEV_PAIR_M_STATE,
  Obj.DEV_PAIR_C_STATE,
  Obj.DEV_PAIR_M_RESTARTS,
  Obj.DEV_PAIR_C_RESTARTS,
  Obj.DEV_PAIR_M_WDT,
  Obj.DEV_PAIR_C_WDT,
  Obj.DEV_PAIR_RESTART,
  Obj.DEV_ENG_IN_SERVICE,
  Obj.DEV_ENG_SPARE,
  Obj.DEV_ENG_RETIRED,
  Obj.DEV_ENG_REQUIRED,
  Obj.DEV_ENG_SPARE_WARN,
  Obj.DEV_ENG_CE_COUNT,
  Obj.DEV_ENG_RETIRED_CLEAR,
  Obj.DEV_ENG_STATE_LO,
  Obj.DEV_ENG_STATE_MID,
  Obj.DEV_ENG_STATE_HI,
  Obj.DEV_ARB_MEM_N,
  Obj.DEV_ARB_WS_N,
  Obj.DEV_CLOCK_STATUS,
  Obj.DICT_SESSIONS_OPEN,
  Obj.DICT_SESSION_TABLE,
  Obj.DICT_UDP_PORT,
  Obj.DICT_SESSION_TIMEOUT]

def objTable1b : List ObjRow := [
  Obj.DICT_AUTH_FAILS,
  Obj.DICT_REPLAYS,
  Obj.COMMIT_SCOPE,
  Obj.COMMIT_CHIMNEYS,
  Obj.COMMIT_FLAGS,
  Obj.COMMIT_TARGET,
  Obj.COMMIT_GO,
  Obj.COMMIT_STATE,
  Obj.COMMIT_ID,
  Obj.COMMIT_APPLIED_WFC,
  Obj.COMMIT_FAIL_OBJECT,
  Obj.COMMIT_FAIL_STATUS,
  Obj.COMMIT_GENERATION,
  Obj.COMMIT_TILES_ARMED,
  Obj.COMMIT_DIRTY,
  Obj.COMMIT_TILE_EXCEPT,
  Obj.COMMIT_LEAD,
  Obj.LOCK_CTRL,
  Obj.LOCK_SUSPECT,
  Obj.PERSIST_SAVE,
  Obj.PERSIST_STATE,
  Obj.PERSIST_AUTO,
  Obj.PERSIST_INTERVAL,
  Obj.PERSIST_SAVES]

def objTable1c : List ObjRow := [
  Obj.PERSIST_DEFAULTS,
  Obj.ING_PORT,
  Obj.ING_WIDTH,
  Obj.ING_HEIGHT,
  Obj.ING_SAMPLING,
  Obj.ING_DEPTH,
  Obj.ING_ALPHA,
  Obj.ING_RING_DEPTH,
  Obj.ING_MAX_RATE,
  Obj.ING_STALE_TIMEOUT,
  Obj.ING_STATE,
  Obj.ING_FRAMES_PUBLISHED,
  Obj.ING_PUBLISH_REFUSED,
  Obj.ING_HELD_WRITES,
  Obj.ING_STALE_WRITES,
  Obj.ING_LAST_FRAME_NO,
  Obj.ING_REFUSE_REASON,
  Obj.ING_MEM_ALLOCATED,
  Obj.ING_BW_COMMITTED,
  Obj.ING_MEM_INSTALLED,
  Obj.LAYER_BIND,
  Obj.LAYER_STILL_WIDTH,
  Obj.LAYER_STILL_HEIGHT,
  Obj.LAYER_STILL_FORMAT]

def objTable1d : List ObjRow := [
  Obj.LAYER_STILL_DATA,
  Obj.LAYER_STILL_PUBLISH,
  Obj.LAYER_STATE,
  Obj.LAYER_BUFFER,
  Obj.LAYER_REPEATS,
  Obj.LAYER_NOT_READY,
  Obj.LAYER_STILL_HELD,
  Obj.LAYER_WIN_X,
  Obj.LAYER_WIN_Y,
  Obj.LAYER_WIN_W,
  Obj.LAYER_WIN_H,
  Obj.LAYER_POS_X,
  Obj.LAYER_POS_Y,
  Obj.LAYER_ORIENT,
  Obj.LAYER_MATRIX,
  Obj.LAYER_RANGE,
  Obj.LAYER_OPACITY,
  Obj.LAYER_STALE_MODE,
  Obj.LAYER_FILL,
  Obj.LAYER_FETCH_ERRORS,
  Obj.LAYER_PRE_LUT,
  Obj.COMP_ORDER,
  Obj.COMP_BACKGROUND,
  Obj.COMP_POST_LUT]

def objTable1e : List ObjRow := [
  Obj.COMP_FRAMES,
  Obj.COMP_LATE_PACKETS,
  Obj.HEARTH_ENABLE,
  Obj.HEARTH_WIDTH,
  Obj.HEARTH_HEIGHT,
  Obj.HEARTH_POS_X,
  Obj.HEARTH_POS_Y,
  Obj.HEARTH_ORIENT,
  Obj.HEARTH_LEVEL,
  Obj.HEARTH_PROTECT_MIN,
  Obj.HEARTH_IMAGE,
  Obj.HEARTH_FRONT_CRC,
  Obj.HEARTH_BACK_CRC,
  Obj.HEARTH_STATE,
  Obj.HEARTH_PROTECTED_PX,
  Obj.HEARTH_CORRECTED,
  Obj.WALL_RATE,
  Obj.WALL_SCAN,
  Obj.WALL_CANVAS_W,
  Obj.WALL_CANVAS_H,
  Obj.WALL_PASSES,
  Obj.WALL_PERIOD_NS,
  Obj.WALL_HOLDS,
  Obj.WALL_COMP_LOAD]

def objTable1f : List ObjRow := [
  Obj.WALL_CHIM_TILES,
  Obj.WALL_CHIM_FOUND,
  Obj.WALL_CHIM_LOAD,
  Obj.WALL_TILE_MAP,
  Obj.TILE_WIDTH,
  Obj.TILE_HEIGHT,
  Obj.TILE_LAMPS,
  Obj.TILE_ADDRESS,
  Obj.TILE_A_PORT,
  Obj.TILE_STATE,
  Obj.TILE_STRAND_LOAD]

/-- The rows of chapters 1 to 5, in the tables' order. -/
def objTable1 : List ObjRow :=
  objTable1a ++ objTable1b ++ objTable1c ++ objTable1d ++ objTable1e ++ objTable1f

end Sys2Proof.Machine
end

