-- ==== Sys2Proof/Machine/Objects2.lean ====
section
/-! DEFINITION. The object dictionary, one `ObjRow` per row of the manual's object tables of chapters 6 to 9.

Each row holds the table's index, subindices, type, access class, default and limits, the roles that may write it
(R43), the role in which it exists, and whether it is persistent, stopped-only or served by the ROM (R420). -/

namespace Sys2Proof.Machine

def Obj.PHY_CLK_MODE : ObjRow :=
  { base := 0x3000, stride := 16, ni := 16, ty := .u 1, acc := .rws, lo := 0, hi := 1, keep := true }
def Obj.PHY_CLK_RETURN : ObjRow :=
  { base := 0x3000, stride := 16, ni := 16, s0 := 1, ty := .bool, acc := .rws, df := .val 1, lo := 0, hi := 1, keep := true }
def Obj.PHY_TX_POWER : ObjRow :=
  { base := 0x3000, stride := 16, ni := 16, s0 := 2, ty := .u 1, acc := .rws, df := .val 3, lo := 0, hi := 3, keep := true }
def Obj.PHY_TX_PRESET : ObjRow :=
  { base := 0x3000, stride := 16, ni := 16, s0 := 3, ty := .u 1, acc := .rws, df := .val 4, lo := 0, hi := 7, keep := true }
def Obj.PHY_EYE_MIN : ObjRow :=
  { base := 0x3000, stride := 16, ni := 16, s0 := 4, ty := .u 1, acc := .rw, df := .val 16, lo := 8, hi := 48 }
def Obj.PHY_LOOP : ObjRow :=
  { base := 0x3000, stride := 16, ni := 16, s0 := 5, ty := .u 1, acc := .rw, lo := 0, hi := 3, stopped := true }
def Obj.PHY_FAR_LOOP_ALLOW : ObjRow :=
  { base := 0x3000, stride := 16, ni := 16, s0 := 6, ty := .bool, acc := .rw, lo := 0, hi := 1 }
def Obj.PHY_TEST_PATTERN : ObjRow :=
  { base := 0x3000, stride := 16, ni := 16, s0 := 7, ty := .bool, acc := .rw, lo := 0, hi := 1, stopped := true }
def Obj.PHY_RETRAIN : ObjRow :=
  { base := 0x3000, stride := 16, ni := 16, s0 := 8, ty := .u 1, acc := .cmd, lo := 1, hi := 2 }
def Obj.PHY_RX_STATE : ObjRow :=
  { base := 0x3001, stride := 16, ni := 16, ty := .u 1, acc := .ro, lo := 0, hi := 255 }
def Obj.PHY_TX_STATE : ObjRow :=
  { base := 0x3001, stride := 16, ni := 16, s0 := 1, ty := .u 1, acc := .ro, lo := 0, hi := 255 }
def Obj.PHY_RX_CLK_SRC : ObjRow :=
  { base := 0x3001, stride := 16, ni := 16, s0 := 2, ty := .u 1, acc := .ro, lo := 0, hi := 255 }
def Obj.PHY_LANE_MAP : ObjRow :=
  { base := 0x3001, stride := 16, ni := 16, s0 := 3, ty := .u 1, acc := .ro, df := .val 228, lo := 0, hi := 255 }
def Obj.PHY_LANE_INVERT : ObjRow :=
  { base := 0x3001, stride := 16, ni := 16, s0 := 4, ty := .u 1, acc := .ro, lo := 0, hi := 255 }
def Obj.PHY_RX_DESKEW : ObjRow :=
  { base := 0x3001, stride := 16, ni := 16, s0 := 5, ty := .u 2, acc := .ro, lo := 0, hi := 65535 }
def Obj.PHY_FAR_CAP : ObjRow :=
  { base := 0x3001, stride := 16, ni := 16, s0 := 6, ty := .u 1, acc := .ro, lo := 0, hi := 255 }
def Obj.PHY_UPS : ObjRow :=
  { base := 0x3001, stride := 16, ni := 16, s0 := 7, ty := .u 4, acc := .ro, lo := 0, hi := 4294967295 }
def Obj.PHY_TRAIN_FAILS : ObjRow :=
  { base := 0x3001, stride := 16, ni := 16, s0 := 8, ty := .u 4, acc := .ro, lo := 0, hi := 4294967295 }
def Obj.PHY_TAKEOVERS : ObjRow :=
  { base := 0x3001, stride := 16, ni := 16, s0 := 9, ty := .u 4, acc := .ro, lo := 0, hi := 4294967295 }
def Obj.PHY_REALIGNS : ObjRow :=
  { base := 0x3001, stride := 16, ni := 16, s0 := 10, ty := .u 4, acc := .ro, lo := 0, hi := 4294967295 }
def Obj.PHY_TEST_ERRORS : ObjRow :=
  { base := 0x3001, stride := 16, ni := 16, s0 := 11, ty := .u 8, acc := .ro, lo := 0, hi := 18446744073709551615 }
def Obj.PHY_BAND : ObjRow :=
  { base := 0x3001, stride := 16, ni := 16, s0 := 12, ty := .u 1, acc := .ro, lo := 0, hi := 255 }
def Obj.PHY_EYE_WIDTH : ObjRow :=
  { base := 0x3002, stride := 16, ni := 16, ns := 4, ty := .u 1, acc := .ro, df := .val 127, lo := 0, hi := 255 }
def Obj.PHY_PHASE_DIFF : ObjRow :=
  { base := 0x3003, stride := 16, ni := 16, ns := 4, ty := .i 1, acc := .ro, lo := -128, hi := 127 }
def Obj.PHY_TX_COEF : ObjRow :=
  { base := 0x3004, stride := 16, ni := 16, ns := 4, ty := .u 2, acc := .ro, df := .val 1538, lo := 0, hi := 65535 }
def Obj.PHY_RX_EQ : ObjRow :=
  { base := 0x3005, stride := 16, ni := 16, ns := 4, ty := .u 8, acc := .ro, lo := 0, hi := 18446744073709551615 }
def Obj.PHY_SYNC_ERRORS : ObjRow :=
  { base := 0x3006, stride := 16, ni := 16, ns := 4, ty := .u 4, acc := .ro, lo := 0, hi := 4294967295 }
def Obj.FRM_ARB_N : ObjRow :=
  { base := 0x3100, ty := .u 1, acc := .rws, df := .val 16, lo := 4, hi := 64, keep := true }
def Obj.FRM_CTRL_DUPS : ObjRow :=
  { base := 0x3120, ty := .u 4, acc := .ro, lo := 0, hi := 4294967295 }
def Obj.FRM_CTRL_TIMEOUTS : ObjRow :=
  { base := 0x3120, s0 := 1, ty := .u 4, acc := .ro, lo := 0, hi := 4294967295 }
def Obj.FRM_UNADDR_REPORTS : ObjRow :=
  { base := 0x3120, s0 := 2, ty := .u 4, acc := .ro, lo := 0, hi := 4294967295, role := .sender }
def Obj.FRM_SPAN_JOINS : ObjRow :=
  { base := 0x3120, s0 := 3, ty := .u 4, acc := .ro, lo := 0, hi := 4294967295, role := .sender }
def Obj.FRM_CREDIT_STALLS : ObjRow :=
  { base := 0x3120, s0 := 4, ty := .u 4, acc := .ro, lo := 0, hi := 4294967295, role := .sender }
def Obj.FRM_CTRL_OVERFLOWS : ObjRow :=
  { base := 0x3120, s0 := 5, ty := .u 4, acc := .ro, lo := 0, hi := 4294967295 }
def Obj.FRM_ALIGNED : ObjRow :=
  { base := 0x3110, stride := 1, ni := 16, ty := .bool, acc := .ro, lo := 0, hi := 1 }
def Obj.FRM_FRAMES : ObjRow :=
  { base := 0x3110, stride := 1, ni := 16, s0 := 1, ty := .u 8, acc := .ro, lo := 0, hi := 18446744073709551615 }
def Obj.FRM_CRC_ERRORS : ObjRow :=
  { base := 0x3110, stride := 1, ni := 16, s0 := 2, ty := .u 4, acc := .ro, lo := 0, hi := 4294967295 }
def Obj.FRM_ALIGN_LOSSES : ObjRow :=
  { base := 0x3110, stride := 1, ni := 16, s0 := 3, ty := .u 4, acc := .ro, lo := 0, hi := 4294967295 }
def Obj.FRM_BAD_BLOCKS : ObjRow :=
  { base := 0x3110, stride := 1, ni := 16, s0 := 4, ty := .u 4, acc := .ro, lo := 0, hi := 4294967295 }
def Obj.FRM_INCOMPLETE : ObjRow :=
  { base := 0x3110, stride := 1, ni := 16, s0 := 5, ty := .u 4, acc := .ro, lo := 0, hi := 4294967295 }
def Obj.FRM_RELAY_PS : ObjRow :=
  { base := 0x3110, stride := 1, ni := 16, s0 := 6, ty := .u 4, acc := .ro, lo := 0, hi := 4294967295, role := .tile }
def Obj.FRM_IDLE_ADDED : ObjRow :=
  { base := 0x3110, stride := 1, ni := 16, s0 := 7, ty := .u 4, acc := .ro, lo := 0, hi := 4294967295 }
def Obj.FRM_IDLE_DELETED : ObjRow :=
  { base := 0x3110, stride := 1, ni := 16, s0 := 8, ty := .u 4, acc := .ro, lo := 0, hi := 4294967295 }
def Obj.FRM_GAPS : ObjRow :=
  { base := 0x3110, stride := 1, ni := 16, s0 := 9, ty := .u 4, acc := .ro, lo := 0, hi := 4294967295 }
def Obj.FRM_GAPS_USED : ObjRow :=
  { base := 0x3110, stride := 1, ni := 16, s0 := 10, ty := .u 4, acc := .ro, lo := 0, hi := 4294967295, role := .tile }
def Obj.CHIM_PORT_A : ObjRow :=
  { base := 0x3200, ns := 8, ty := .u 1, acc := .rws, df := .val 255, lo := 0, hi := 255, role := .sender, keep := true }
def Obj.CHIM_PORT_B : ObjRow :=
  { base := 0x3201, ns := 8, ty := .u 1, acc := .rws, df := .val 255, lo := 0, hi := 255, role := .sender, keep := true }
def Obj.CHIM_STATE : ObjRow :=
  { base := 0x3202, ns := 8, ty := .u 1, acc := .ro, lo := 0, hi := 255, role := .sender }
def Obj.CHIM_LINES_RETURNED : ObjRow :=
  { base := 0x3203, ns := 8, ty := .u 4, acc := .ro, lo := 0, hi := 4294967295, role := .sender }
def Obj.CHIM_REACH_A : ObjRow :=
  { base := 0x3204, ns := 16, ty := .u 8, acc := .ro, lo := 0, hi := 18446744073709551615, role := .sender }
def Obj.CHIM_REACH_B : ObjRow :=
  { base := 0x3205, ns := 16, ty := .u 8, acc := .ro, lo := 0, hi := 18446744073709551615, role := .sender }
def Obj.PATH_HOLDOFF : ObjRow :=
  { base := 0x3210, ty := .u 2, acc := .rws, df := .val 10, lo := 1, hi := 160, role := .tile, keep := true }
def Obj.PATH_HOLD_TIME : ObjRow :=
  { base := 0x3210, s0 := 1, ty := .u 2, acc := .rws, df := .val 500, lo := 100, hi := 10000, role := .tile, keep := true }
def Obj.PATH_FADE_TIME : ObjRow :=
  { base := 0x3210, s0 := 2, ty := .u 2, acc := .rws, df := .val 250, lo := 0, hi := 5000, role := .tile, keep := true }
def Obj.PATH_CLOSE : ObjRow :=
  { base := 0x3210, s0 := 3, ty := .u 2, acc := .rws, df := .val 100, lo := 20, hi := 1000, role := .tile, keep := true }
def Obj.PATH_FORCE : ObjRow :=
  { base := 0x3210, s0 := 4, ty := .u 1, acc := .rw, lo := 0, hi := 2, role := .tile }
def Obj.PATH_FLAGS : ObjRow :=
  { base := 0x3211, ty := .u 1, acc := .ro, lo := 0, hi := 255, role := .tile }
def Obj.PATH_HOLDOFF_NOW : ObjRow :=
  { base := 0x3211, s0 := 1, ty := .u 2, acc := .ro, df := .val 10, lo := 0, hi := 65535, role := .tile }
def Obj.PATH_HOLDOFF_LEFT : ObjRow :=
  { base := 0x3211, s0 := 2, ty := .u 2, acc := .ro, lo := 0, hi := 65535, role := .tile }
def Obj.PATH_SKEW : ObjRow :=
  { base := 0x3211, s0 := 3, ty := .i 4, acc := .ro, lo := -2147483648, hi := 2147483647, role := .tile }
def Obj.PATH_WAIT_MAX : ObjRow :=
  { base := 0x3211, s0 := 4, ty := .u 4, acc := .ro, lo := 0, hi := 4294967295, role := .tile }
def Obj.PATH_PKTS_A : ObjRow :=
  { base := 0x3212, ty := .u 8, acc := .ro, lo := 0, hi := 18446744073709551615, role := .tile }
def Obj.PATH_PKTS_B : ObjRow :=
  { base := 0x3212, s0 := 1, ty := .u 8, acc := .ro, lo := 0, hi := 18446744073709551615, role := .tile }
def Obj.PATH_BAD_A : ObjRow :=
  { base := 0x3212, s0 := 2, ty := .u 4, acc := .ro, lo := 0, hi := 4294967295, role := .tile }
def Obj.PATH_BAD_B : ObjRow :=
  { base := 0x3212, s0 := 3, ty := .u 4, acc := .ro, lo := 0, hi := 4294967295, role := .tile }
def Obj.PATH_LINES_LOST : ObjRow :=
  { base := 0x3212, s0 := 4, ty := .u 4, acc := .ro, lo := 0, hi := 4294967295, role := .tile }
def Obj.PATH_LATE : ObjRow :=
  { base := 0x3212, s0 := 5, ty := .u 4, acc := .ro, lo := 0, hi := 4294967295, role := .tile }
def Obj.PATH_SWITCHES : ObjRow :=
  { base := 0x3212, s0 := 6, ty := .u 4, acc := .ro, lo := 0, hi := 4294967295, role := .tile }
def Obj.PATH_RETURNS : ObjRow :=
  { base := 0x3212, s0 := 7, ty := .u 4, acc := .ro, lo := 0, hi := 4294967295, role := .tile }
def Obj.PATH_HOLDS : ObjRow :=
  { base := 0x3212, s0 := 8, ty := .u 4, acc := .ro, lo := 0, hi := 4294967295, role := .tile }
def Obj.PATH_CROSSED : ObjRow :=
  { base := 0x3212, s0 := 9, ty := .u 4, acc := .ro, lo := 0, hi := 4294967295, role := .tile }
def Obj.WALL_TIME : ObjRow :=
  { base := 0x3300, ty := .time96, acc := .ro, lo := 0, hi := 79228162514264337593543950335 }
def Obj.TIME_SOURCE : ObjRow :=
  { base := 0x3301, ty := .u 1, acc := .rws, lo := 0, hi := 2, role := .sender, keep := true }
def Obj.TIME_STATE : ObjRow :=
  { base := 0x3301, s0 := 1, ty := .u 1, acc := .ro, lo := 0, hi := 255 }
def Obj.TIME_OFFSET : ObjRow :=
  { base := 0x3301, s0 := 2, ty := .i 4, acc := .ro, lo := -2147483648, hi := 2147483647 }
def Obj.TIME_RATE : ObjRow :=
  { base := 0x3301, s0 := 3, ty := .i 4, acc := .ro, lo := -2147483648, hi := 2147483647 }
def Obj.TIME_STEP_THRESH : ObjRow :=
  { base := 0x3301, s0 := 4, ty := .u 4, acc := .rws, df := .val 1000, lo := 100, hi := 1000000, keep := true }
def Obj.TIME_SLEW_PPM : ObjRow :=
  { base := 0x3301, s0 := 5, ty := .u 2, acc := .rws, df := .val 50, lo := 1, hi := 200, role := .sender, keep := true }
def Obj.TIME_SERVO_BW : ObjRow :=
  { base := 0x3301, s0 := 6, ty := .u 2, acc := .rws, df := .val 1000, lo := 100, hi := 10000, keep := true }
def Obj.TIME_HOLDOVER_MAX : ObjRow :=
  { base := 0x3301, s0 := 7, ty := .u 2, acc := .rws, df := .val 10, lo := 1, hi := 3600, role := .tile, keep := true }
def Obj.TIME_STEP : ObjRow :=
  { base := 0x3301, s0 := 8, ty := .i 8, acc := .wo, lo := -9223372036854775808, hi := 9223372036854775807, role := .sender }
def Obj.TIME_PTP_RESTEP : ObjRow :=
  { base := 0x3301, s0 := 9, ty := .u 1, acc := .cmd, lo := 1, hi := 1, role := .sender }
def Obj.TIME_STEPS : ObjRow :=
  { base := 0x3301, s0 := 10, ty := .u 1, acc := .ro, lo := 0, hi := 255 }
def Obj.TIME_UTC_OFFSET : ObjRow :=
  { base := 0x3301, s0 := 11, ty := .i 2, acc := .ro, df := .val 37, lo := -32768, hi := 32767, role := .sender }
def Obj.PTP_PROFILE : ObjRow :=
  { base := 0x3302, ty := .u 1, acc := .rws, lo := 0, hi := 2, role := .sender, keep := true }
def Obj.PTP_DOMAIN : ObjRow :=
  { base := 0x3302, s0 := 1, ty := .u 1, acc := .rws, lo := 0, hi := 127, role := .sender, keep := true }
def Obj.PTP_TRANSPORT : ObjRow :=
  { base := 0x3302, s0 := 2, ty := .u 1, acc := .rws, df := .val 1, lo := 0, hi := 1, role := .sender, keep := true }
def Obj.PTP_DELAY_MODE : ObjRow :=
  { base := 0x3302, s0 := 3, ty := .u 1, acc := .rws, lo := 0, hi := 1, role := .sender, keep := true }
def Obj.PTP_LOG_DELAY_REQ : ObjRow :=
  { base := 0x3302, s0 := 4, ty := .i 1, acc := .rws, lo := -7, hi := 4, role := .sender, keep := true }
def Obj.PTP_PHY_TX : ObjRow :=
  { base := 0x3302, s0 := 5, ty := .u 4, acc := .rws, lo := 0, hi := 4294967295, role := .sender, keep := true }
def Obj.PTP_PHY_RX : ObjRow :=
  { base := 0x3302, s0 := 6, ty := .u 4, acc := .rws, lo := 0, hi := 4294967295, role := .sender, keep := true }
def Obj.PTP_MASTER : ObjRow :=
  { base := 0x3302, s0 := 7, ty := .u 8, acc := .ro, lo := 0, hi := 18446744073709551615, role := .sender }
def Obj.PTP_MEAN_DELAY : ObjRow :=
  { base := 0x3302, s0 := 8, ty := .i 4, acc := .ro, lo := -2147483648, hi := 2147483647, role := .sender }
def Obj.FREF_DIV : ObjRow :=
  { base := 0x3303, ty := .u 2, acc := .rws, df := .val 1, lo := 1, hi := 256, role := .sender, keep := true }
def Obj.FREF_DELAY : ObjRow :=
  { base := 0x3303, s0 := 1, ty := .i 4, acc := .rws, lo := -1000000, hi := 1000000, role := .sender, keep := true }
def Obj.FREF_EDGE : ObjRow :=
  { base := 0x3303, s0 := 2, ty := .u 1, acc := .rws, lo := 0, hi := 1, role := .sender, keep := true }
def Obj.FREF_ERROR : ObjRow :=
  { base := 0x3303, s0 := 3, ty := .i 4, acc := .ro, lo := -2147483648, hi := 2147483647, role := .sender }
def Obj.WFC : ObjRow :=
  { base := 0x3310, ty := .u 8, acc := .ro, lo := 0, hi := 18446744073709551615 }
def Obj.TIME_ANCHOR_WFC : ObjRow :=
  { base := 0x3311, ty := .u 8, acc := .ro, lo := 0, hi := 18446744073709551615 }
def Obj.TIME_ANCHOR_TIME : ObjRow :=
  { base := 0x3311, s0 := 1, ty := .time96, acc := .ro, lo := 0, hi := 79228162514264337593543950335 }
def Obj.TIME_EPOCH_ALIGN : ObjRow :=
  { base := 0x3311, s0 := 2, ty := .bool, acc := .rws, df := .val 1, lo := 0, hi := 1, role := .sender, keep := true }
def Obj.TIME_FRAME_PHASE : ObjRow :=
  { base := 0x3311, s0 := 3, ty := .u 4, acc := .rws, lo := 0, hi := 4294967295, role := .sender, keep := true }
def Obj.TIME_REALIGN : ObjRow :=
  { base := 0x3311, s0 := 4, ty := .u 1, acc := .cmd, lo := 1, hi := 1, role := .sender }
def Obj.TIME_SCAN_OFFSET : ObjRow :=
  { base := 0x3311, s0 := 5, ty := .u 4, acc := .rws, lo := 0, hi := 4294967295, keep := true }
def Obj.TIME_SCAN_ERR : ObjRow :=
  { base := 0x3311, s0 := 6, ty := .i 4, acc := .ro, lo := -2147483648, hi := 2147483647, role := .tile }
def Obj.TIME_SYNC_LOG : ObjRow :=
  { base := 0x3320, ty := .i 1, acc := .rws, df := .val (-8), lo := -10, hi := -4, role := .sender, keep := true }
def Obj.TIME_DELAY_LOG : ObjRow :=
  { base := 0x3320, s0 := 1, ty := .i 1, acc := .rws, df := .val (-4), lo := -8, hi := 0, role := .tile, keep := true }
def Obj.TIME_PATH : ObjRow :=
  { base := 0x3320, s0 := 2, ty := .u 1, acc := .ro, df := .val 255, lo := 0, hi := 255, role := .tile }
def Obj.TIME_DELAY_A : ObjRow :=
  { base := 0x3320, s0 := 3, ty := .u 4, acc := .ro, lo := 0, hi := 4294967295, role := .tile }
def Obj.TIME_DELAY_B : ObjRow :=
  { base := 0x3320, s0 := 4, ty := .u 4, acc := .ro, lo := 0, hi := 4294967295, role := .tile }
def Obj.TIME_PATH_DIFF : ObjRow :=
  { base := 0x3320, s0 := 5, ty := .i 4, acc := .ro, lo := -2147483648, hi := 2147483647, role := .tile }
def Obj.TIME_PATH_DIFF_MAX : ObjRow :=
  { base := 0x3320, s0 := 6, ty := .u 2, acc := .rws, df := .val 2000, lo := 100, hi := 20000, role := .tile, keep := true }
def Obj.TIME_PATH_UNFIT : ObjRow :=
  { base := 0x3320, s0 := 7, ty := .u 4, acc := .ro, lo := 0, hi := 4294967295, role := .tile }
def Obj.TIME_ASYM_FWD : ObjRow :=
  { base := 0x3340, stride := 1, ni := 16, ty := .i 4, acc := .rws, lo := -100000, hi := 100000, keep := true }
def Obj.TIME_ASYM_REC : ObjRow :=
  { base := 0x3340, stride := 1, ni := 16, s0 := 1, ty := .i 4, acc := .rws, lo := -100000, hi := 100000, keep := true }
def Obj.TPO_MODE : ObjRow :=
  { base := 0x3360, stride := 1, ni := 4, ty := .u 1, acc := .rw, lo := 0, hi := 3 }
def Obj.TPO_START : ObjRow :=
  { base := 0x3360, stride := 1, ni := 4, s0 := 1, ty := .time96, acc := .rw, lo := 0, hi := 79228162514264337593543950335 }
def Obj.TPO_PERIOD : ObjRow :=
  { base := 0x3360, stride := 1, ni := 4, s0 := 2, ty := .u 8, acc := .rw, df := .val 262144000000000, lo := 26214400, hi := 262144000000000 }
def Obj.TPO_WIDTH : ObjRow :=
  { base := 0x3360, stride := 1, ni := 4, s0 := 3, ty := .u 4, acc := .rw, df := .val 1000, lo := 10, hi := 1000000 }
def Obj.TPO_FRAME_DIV : ObjRow :=
  { base := 0x3360, stride := 1, ni := 4, s0 := 4, ty := .u 2, acc := .rw, df := .val 1, lo := 1, hi := 65535 }
def Obj.TPO_OFFSET : ObjRow :=
  { base := 0x3360, stride := 1, ni := 4, s0 := 5, ty := .i 4, acc := .rw, lo := -1000000, hi := 1000000 }
def Obj.TPO_POLARITY : ObjRow :=
  { base := 0x3360, stride := 1, ni := 4, s0 := 6, ty := .bool, acc := .rw, lo := 0, hi := 1 }
def Obj.TPO_STATE : ObjRow :=
  { base := 0x3360, stride := 1, ni := 4, s0 := 7, ty := .u 1, acc := .ro, lo := 0, hi := 255 }

def objTable2a : List ObjRow := [
  Obj.PHY_CLK_MODE,
  Obj.PHY_CLK_RETURN,
  Obj.PHY_TX_POWER,
  Obj.PHY_TX_PRESET,
  Obj.PHY_EYE_MIN,
  Obj.PHY_LOOP,
  Obj.PHY_FAR_LOOP_ALLOW,
  Obj.PHY_TEST_PATTERN,
  Obj.PHY_RETRAIN,
  Obj.PHY_RX_STATE,
  Obj.PHY_TX_STATE,
  Obj.PHY_RX_CLK_SRC,
  Obj.PHY_LANE_MAP,
  Obj.PHY_LANE_INVERT,
  Obj.PHY_RX_DESKEW,
  Obj.PHY_FAR_CAP,
  Obj.PHY_UPS,
  Obj.PHY_TRAIN_FAILS,
  Obj.PHY_TAKEOVERS,
  Obj.PHY_REALIGNS,
  Obj.PHY_TEST_ERRORS,
  Obj.PHY_BAND,
  Obj.PHY_EYE_WIDTH,
  Obj.PHY_PHASE_DIFF]

def objTable2b : List ObjRow := [
  Obj.PHY_TX_COEF,
  Obj.PHY_RX_EQ,
  Obj.PHY_SYNC_ERRORS,
  Obj.FRM_ARB_N,
  Obj.FRM_CTRL_DUPS,
  Obj.FRM_CTRL_TIMEOUTS,
  Obj.FRM_UNADDR_REPORTS,
  Obj.FRM_SPAN_JOINS,
  Obj.FRM_CREDIT_STALLS,
  Obj.FRM_CTRL_OVERFLOWS,
  Obj.FRM_ALIGNED,
  Obj.FRM_FRAMES,
  Obj.FRM_CRC_ERRORS,
  Obj.FRM_ALIGN_LOSSES,
  Obj.FRM_BAD_BLOCKS,
  Obj.FRM_INCOMPLETE,
  Obj.FRM_RELAY_PS,
  Obj.FRM_IDLE_ADDED,
  Obj.FRM_IDLE_DELETED,
  Obj.FRM_GAPS,
  Obj.FRM_GAPS_USED,
  Obj.CHIM_PORT_A,
  Obj.CHIM_PORT_B,
  Obj.CHIM_STATE]

def objTable2c : List ObjRow := [
  Obj.CHIM_LINES_RETURNED,
  Obj.CHIM_REACH_A,
  Obj.CHIM_REACH_B,
  Obj.PATH_HOLDOFF,
  Obj.PATH_HOLD_TIME,
  Obj.PATH_FADE_TIME,
  Obj.PATH_CLOSE,
  Obj.PATH_FORCE,
  Obj.PATH_FLAGS,
  Obj.PATH_HOLDOFF_NOW,
  Obj.PATH_HOLDOFF_LEFT,
  Obj.PATH_SKEW,
  Obj.PATH_WAIT_MAX,
  Obj.PATH_PKTS_A,
  Obj.PATH_PKTS_B,
  Obj.PATH_BAD_A,
  Obj.PATH_BAD_B,
  Obj.PATH_LINES_LOST,
  Obj.PATH_LATE,
  Obj.PATH_SWITCHES,
  Obj.PATH_RETURNS,
  Obj.PATH_HOLDS,
  Obj.PATH_CROSSED,
  Obj.WALL_TIME]

def objTable2d : List ObjRow := [
  Obj.TIME_SOURCE,
  Obj.TIME_STATE,
  Obj.TIME_OFFSET,
  Obj.TIME_RATE,
  Obj.TIME_STEP_THRESH,
  Obj.TIME_SLEW_PPM,
  Obj.TIME_SERVO_BW,
  Obj.TIME_HOLDOVER_MAX,
  Obj.TIME_STEP,
  Obj.TIME_PTP_RESTEP,
  Obj.TIME_STEPS,
  Obj.TIME_UTC_OFFSET,
  Obj.PTP_PROFILE,
  Obj.PTP_DOMAIN,
  Obj.PTP_TRANSPORT,
  Obj.PTP_DELAY_MODE,
  Obj.PTP_LOG_DELAY_REQ,
  Obj.PTP_PHY_TX,
  Obj.PTP_PHY_RX,
  Obj.PTP_MASTER,
  Obj.PTP_MEAN_DELAY,
  Obj.FREF_DIV,
  Obj.FREF_DELAY,
  Obj.FREF_EDGE]

def objTable2e : List ObjRow := [
  Obj.FREF_ERROR,
  Obj.WFC,
  Obj.TIME_ANCHOR_WFC,
  Obj.TIME_ANCHOR_TIME,
  Obj.TIME_EPOCH_ALIGN,
  Obj.TIME_FRAME_PHASE,
  Obj.TIME_REALIGN,
  Obj.TIME_SCAN_OFFSET,
  Obj.TIME_SCAN_ERR,
  Obj.TIME_SYNC_LOG,
  Obj.TIME_DELAY_LOG,
  Obj.TIME_PATH,
  Obj.TIME_DELAY_A,
  Obj.TIME_DELAY_B,
  Obj.TIME_PATH_DIFF,
  Obj.TIME_PATH_DIFF_MAX,
  Obj.TIME_PATH_UNFIT,
  Obj.TIME_ASYM_FWD,
  Obj.TIME_ASYM_REC,
  Obj.TPO_MODE,
  Obj.TPO_START,
  Obj.TPO_PERIOD,
  Obj.TPO_WIDTH,
  Obj.TPO_FRAME_DIV]

def objTable2f : List ObjRow := [
  Obj.TPO_OFFSET,
  Obj.TPO_POLARITY,
  Obj.TPO_STATE]

/-- The rows of chapters 6 to 9, in the tables' order. -/
def objTable2 : List ObjRow :=
  objTable2a ++ objTable2b ++ objTable2c ++ objTable2d ++ objTable2e ++ objTable2f

end Sys2Proof.Machine
end

