-- ==== Sys2Proof/Machine/Objects3.lean ====
section
/-! DEFINITION. The object dictionary, one `ObjRow` per row of the manual's object tables of chapters 10 to 13.

Each row holds the table's index, subindices, type, access class, default and limits, the roles that may write it
(R43), the role in which it exists, and whether it is persistent, stopped-only or served by the ROM (R420). -/

namespace Sys2Proof.Machine

def Obj.LAMP_STEP_MAX : ObjRow :=
  { base := 0x4000, ty := .u 1, acc := .rws, df := .val 7, lo := 0, hi := 7, role := .tile, keep := true }
def Obj.LAMP_STEP_HYST : ObjRow :=
  { base := 0x4000, s0 := 1, ty := .u 1, acc := .rws, df := .val 4, lo := 0, hi := 16, role := .tile, keep := true }
def Obj.LAMP_CHROMA_COMP : ObjRow :=
  { base := 0x4000, s0 := 2, ty := .bool, acc := .rws, df := .val 1, lo := 0, hi := 1, role := .tile, keep := true }
def Obj.LAMP_DIFFUSE : ObjRow :=
  { base := 0x4000, s0 := 3, ty := .bool, acc := .rws, df := .val 1, lo := 0, hi := 1, role := .tile, keep := true }
def Obj.LAMP_AGE_ENABLE : ObjRow :=
  { base := 0x4000, s0 := 4, ty := .bool, acc := .rws, df := .val 1, lo := 0, hi := 1, role := .tile, keep := true }
def Obj.LAMP_AGE_GAIN_MAX : ObjRow :=
  { base := 0x4000, s0 := 5, ty := .u 2, acc := .rws, df := .val 20480, lo := 16384, hi := 32767, role := .tile, keep := true }
def Obj.LAMP_TEMP_HYST : ObjRow :=
  { base := 0x4000, s0 := 6, ty := .u 1, acc := .rws, df := .val 4, lo := 1, hi := 80, role := .tile, keep := true }
def Obj.LAMP_TEMP_MARGIN : ObjRow :=
  { base := 0x4000, s0 := 7, ty := .u 1, acc := .rws, df := .val 5, lo := 0, hi := 40, role := .tile, keep := true }
def Obj.LAMP_REFRESH_PER_FRAME : ObjRow :=
  { base := 0x4000, s0 := 8, ty := .u 1, acc := .rw, df := .val 2, lo := 1, hi := 16, role := .tile }
def Obj.LAMP_IFS : ObjRow :=
  { base := 0x4001, ns := 4, ty := .u 2, acc := .rws, df := .val 2000, lo := 1, hi := 65535, role := .tile, keep := true }
def Obj.LAMP_WIDTH_UNIT : ObjRow :=
  { base := 0x4002, ty := .u 1, acc := .ro, df := .val 1, lo := 0, hi := 255, role := .tile }
def Obj.LAMP_W_MAX : ObjRow :=
  { base := 0x4002, s0 := 1, ty := .u 2, acc := .ro, df := .val 44800, lo := 0, hi := 65535, role := .tile }
def Obj.LAMP_W_FS : ObjRow :=
  { base := 0x4002, s0 := 2, ty := .u 4, acc := .ro, df := .val 11494253, lo := 0, hi := 4294967295, role := .tile }
def Obj.LAMP_WINDOW : ObjRow :=
  { base := 0x4002, s0 := 3, ty := .u 4, acc := .ro, df := .val 16506667, lo := 0, hi := 4294967295, role := .tile }
def Obj.LAMP_PROC_MAX : ObjRow :=
  { base := 0x4002, s0 := 4, ty := .u 4, acc := .ro, lo := 0, hi := 4294967295, role := .tile }
def Obj.LAMP_ZONE_DEMAND : ObjRow :=
  { base := 0x4003, ns := 8, ty := .u 8, acc := .ro, lo := 0, hi := 18446744073709551615, role := .tile }
def Obj.LAMP_ZONE_SCALE : ObjRow :=
  { base := 0x4004, ns := 8, ty := .u 2, acc := .ro, df := .val 32768, lo := 0, hi := 65535, role := .tile }
def Obj.LAMP_MOD_STATE : ObjRow :=
  { base := 0x4005, ns := 16, ty := .u 1, acc := .ro, lo := 0, hi := 255, role := .tile }
def Obj.LAMP_MOD_TEMP : ObjRow :=
  { base := 0x4006, ns := 16, ty := .i 2, acc := .ro, lo := -32768, hi := 32767, role := .tile }
def Obj.LAMP_MOD_REFRESHES : ObjRow :=
  { base := 0x4007, ns := 16, ty := .u 4, acc := .ro, lo := 0, hi := 4294967295, role := .tile }
def Obj.LAMP_FRAMES : ObjRow :=
  { base := 0x4008, ty := .u 4, acc := .ro, lo := 0, hi := 4294967295, role := .tile }
def Obj.LAMP_FRAMES_LATE : ObjRow :=
  { base := 0x4008, s0 := 1, ty := .u 4, acc := .ro, lo := 0, hi := 4294967295, role := .tile }
def Obj.LAMP_LATE_LAMPS : ObjRow :=
  { base := 0x4008, s0 := 2, ty := .u 4, acc := .ro, lo := 0, hi := 4294967295, role := .tile }
def Obj.LAMP_CLIPS : ObjRow :=
  { base := 0x4008, s0 := 3, ty := .u 4, acc := .ro, lo := 0, hi := 4294967295, role := .tile }
def Obj.LAMP_RESOLVES : ObjRow :=
  { base := 0x4008, s0 := 4, ty := .u 4, acc := .ro, lo := 0, hi := 4294967295, role := .tile }
def Obj.LAMP_TRIMS : ObjRow :=
  { base := 0x4008, s0 := 5, ty := .u 4, acc := .ro, lo := 0, hi := 4294967295, role := .tile }
def Obj.LAMP_COEF_ERRORS : ObjRow :=
  { base := 0x4008, s0 := 6, ty := .u 4, acc := .ro, lo := 0, hi := 4294967295, role := .tile }
def Obj.LAMP_AGE_CAPPED : ObjRow :=
  { base := 0x4008, s0 := 7, ty := .u 4, acc := .ro, lo := 0, hi := 4294967295, role := .tile }
def Obj.LAMP_PROT_SCALED : ObjRow :=
  { base := 0x4008, s0 := 8, ty := .u 4, acc := .ro, lo := 0, hi := 4294967295, role := .tile }
def Obj.STR_ENUM : ObjRow :=
  { base := 0x4100, ty := .u 1, acc := .cmd, lo := 1, hi := 1, role := .tile }
def Obj.STR_PROF_DRIVERS : ObjRow :=
  { base := 0x4110, stride := 1, ni := 16, ty := .u 1, acc := .rws, lo := 0, hi := 255, role := .tile, keep := true }
def Obj.STR_PROF_CHANNELS : ObjRow :=
  { base := 0x4110, stride := 1, ni := 16, s0 := 1, ns := 32, ty := .u 1, acc := .rws, df := .val 64, lo := 1, hi := 64, role := .tile, keep := true }
def Obj.STR_PROF_ORDER : ObjRow :=
  { base := 0x4110, stride := 1, ni := 16, s0 := 33, ty := .u 1, acc := .rws, df := .val 27, lo := 0, hi := 255, role := .tile, keep := true }
def Obj.STR_MAP : ObjRow :=
  { base := 0x4120, ns := 256, ty := .u 4, acc := .rws, lo := 0, hi := 4294967295, role := .tile, keep := true }
def Obj.STR_STATE : ObjRow :=
  { base := 0x4130, ns := 256, ty := .u 1, acc := .ro, lo := 0, hi := 255, role := .tile }
def Obj.STR_FOUND : ObjRow :=
  { base := 0x4131, ns := 256, ty := .u 1, acc := .ro, lo := 0, hi := 255, role := .tile }
def Obj.STR_LOOP : ObjRow :=
  { base := 0x4132, ns := 256, ty := .u 2, acc := .ro, lo := 0, hi := 65535, role := .tile }
def Obj.STR_BREAK_AT : ObjRow :=
  { base := 0x4133, ns := 256, ty := .u 1, acc := .ro, df := .val 255, lo := 0, hi := 255, role := .tile }
def Obj.STR_CHECK_ERRORS : ObjRow :=
  { base := 0x4140, ty := .u 4, acc := .ro, lo := 0, hi := 4294967295, role := .tile }
def Obj.STR_STATUS_MISSING : ObjRow :=
  { base := 0x4140, s0 := 1, ty := .u 4, acc := .ro, lo := 0, hi := 4294967295, role := .tile }
def Obj.STR_OPEN_REPORTS : ObjRow :=
  { base := 0x4140, s0 := 2, ty := .u 4, acc := .ro, lo := 0, hi := 4294967295, role := .tile }
def Obj.STR_CMD_FAILS : ObjRow :=
  { base := 0x4140, s0 := 3, ty := .u 4, acc := .ro, lo := 0, hi := 4294967295, role := .tile }
def Obj.STR_DRV_TARGET : ObjRow :=
  { base := 0x4150, ty := .u 2, acc := .rw, lo := 0, hi := 65535, role := .tile }
def Obj.STR_DRV_REG : ObjRow :=
  { base := 0x4150, s0 := 1, ty := .u 1, acc := .rw, lo := 0, hi := 255, role := .tile }
def Obj.STR_DRV_VALUE : ObjRow :=
  { base := 0x4150, s0 := 2, ty := .u 2, acc := .rw, lo := 0, hi := 65535, role := .tile }
def Obj.STR_DRV_GO : ObjRow :=
  { base := 0x4150, s0 := 3, ty := .u 1, acc := .cmd, lo := 1, hi := 2, role := .tile }
def Obj.STR_DRV_RESULT : ObjRow :=
  { base := 0x4150, s0 := 4, ty := .u 1, acc := .ro, lo := 0, hi := 255, role := .tile }
def Obj.STR_DRV_STATUS : ObjRow :=
  { base := 0x4160, stride := 1, ni := 32, ns := 256, ty := .u 4, acc := .ro, lo := 0, hi := 4294967295, role := .tile }
def Obj.SCAN_ROW_LEAD : ObjRow :=
  { base := 0x4200, ty := .u 1, acc := .rws, df := .val 10, lo := 0, hi := 40, role := .tile, keep := true }
def Obj.SCAN_ROW_LAG : ObjRow :=
  { base := 0x4200, s0 := 1, ty := .u 1, acc := .rws, df := .val 10, lo := 0, hi := 40, role := .tile, keep := true }
def Obj.SCAN_SCN_DELAY : ObjRow :=
  { base := 0x4200, s0 := 2, ty := .u 2, acc := .rws, lo := 0, hi := 40000, role := .tile, keep := true }
def Obj.SCAN_SCN_POLARITY : ObjRow :=
  { base := 0x4200, s0 := 3, ty := .bool, acc := .rws, lo := 0, hi := 1, role := .tile, keep := true }
def Obj.SCAN_LADDER_STEP : ObjRow :=
  { base := 0x4201, ty := .u 1, acc := .rws, df := .val 4, lo := 0, hi := 64, role := .tile, keep := true }
def Obj.SCAN_LADDER_SKEW : ObjRow :=
  { base := 0x4201, s0 := 1, ty := .u 1, acc := .rws, df := .val 1, lo := 0, hi := 255, role := .tile, keep := true }
def Obj.SCAN_LADDER_SPAN : ObjRow :=
  { base := 0x4201, s0 := 2, ty := .u 2, acc := .rws, df := .val 384, lo := 16, hi := 400, role := .tile, keep := true }
def Obj.SCAN_ROW_ORDER : ObjRow :=
  { base := 0x4210, ns := 64, ty := .u 1, acc := .rws, df := .ident, lo := 0, hi := 63, role := .tile, keep := true }
def Obj.SCAN_ROW_PRE : ObjRow :=
  { base := 0x4211, ns := 64, ty := .u 1, acc := .rws, lo := 0, hi := 255, role := .tile, keep := true }
def Obj.SCAN_PRE_VOLT : ObjRow :=
  { base := 0x4212, ns := 7, ty := .u 2, acc := .rws, lo := 0, hi := 4095, role := .tile, keep := true }
def Obj.SCAN_PROBE_ENABLE : ObjRow :=
  { base := 0x4220, ty := .bool, acc := .rws, df := .val 1, lo := 0, hi := 1, role := .tile, keep := true }
def Obj.SCAN_PROBES : ObjRow :=
  { base := 0x4220, s0 := 1, ty := .u 4, acc := .ro, lo := 0, hi := 4294967295, role := .tile }
def Obj.SCAN_PROBES_DROPPED : ObjRow :=
  { base := 0x4220, s0 := 2, ty := .u 4, acc := .ro, lo := 0, hi := 4294967295, role := .tile }
def Obj.SCAN_OPEN_TABLE : ObjRow :=
  { base := 0x4230, ns := 256, ty := .u 4, acc := .ro, lo := 0, hi := 4294967295, role := .tile }
def Obj.SCAN_OPEN_COUNT : ObjRow :=
  { base := 0x4231, ty := .u 2, acc := .ro, lo := 0, hi := 65535, role := .tile }
def Obj.SCAN_OPEN_OVERFLOW : ObjRow :=
  { base := 0x4231, s0 := 1, ty := .u 4, acc := .ro, lo := 0, hi := 4294967295, role := .tile }
def Obj.SCAN_OPEN_CLEAR : ObjRow :=
  { base := 0x4231, s0 := 2, ty := .u 2, acc := .cmd, lo := 0, hi := 65535, role := .tile }
def Obj.SCAN_PASS_RATE : ObjRow :=
  { base := 0x4240, ty := .u 4, acc := .ro, df := .val 26939655, lo := 0, hi := 4294967295, role := .tile }
def Obj.SCAN_GREY_BITS : ObjRow :=
  { base := 0x4240, s0 := 1, ty := .u 2, acc := .ro, df := .val 2245, lo := 0, hi := 65535, role := .tile }
def Obj.SCAN_STATE : ObjRow :=
  { base := 0x4240, s0 := 2, ty := .u 1, acc := .ro, lo := 0, hi := 255, role := .tile }
def Obj.LOOP_MON_ENABLE : ObjRow :=
  { base := 0x5000, ty := .u 2, acc := .rws, lo := 0, hi := 65535, keep := true }
def Obj.LOOP_SWAP : ObjRow :=
  { base := 0x5000, s0 := 1, ty := .u 4, acc := .cmd, lo := 0, hi := 4294967295 }
def Obj.LOOP_SATS : ObjRow :=
  { base := 0x5000, s0 := 2, ty := .u 4, acc := .ro, lo := 0, hi := 4294967295 }
def Obj.LOOP_TRIM_INIT : ObjRow :=
  { base := 0x5001, ns := 8, ty := .u 2, acc := .rws, lo := 0, hi := 65535, keep := true }
def Obj.LOOP_MON_VALUE : ObjRow :=
  { base := 0x5002, ns := 16, ty := .u 2, acc := .ro, lo := 0, hi := 65535 }
def Obj.LOOP_IN : ObjRow :=
  { base := 0x5010, stride := 1, ni := 32, ty := .u 1, acc := .rws, df := .val 255, lo := 0, hi := 255, keep := true }
def Obj.LOOP_OUT : ObjRow :=
  { base := 0x5010, stride := 1, ni := 32, s0 := 1, ty := .u 1, acc := .rws, df := .val 255, lo := 0, hi := 255, keep := true }
def Obj.LOOP_RATE : ObjRow :=
  { base := 0x5010, stride := 1, ni := 32, s0 := 2, ty := .u 2, acc := .rws, df := .val 64, lo := 0, hi := 65535, keep := true }
def Obj.LOOP_NSEC : ObjRow :=
  { base := 0x5010, stride := 1, ni := 32, s0 := 3, ty := .u 1, acc := .rws, lo := 0, hi := 6, keep := true }
def Obj.LOOP_POL : ObjRow :=
  { base := 0x5010, stride := 1, ni := 32, s0 := 4, ty := .bool, acc := .rws, lo := 0, hi := 1, keep := true }
def Obj.LOOP_SETPOINT : ObjRow :=
  { base := 0x5010, stride := 1, ni := 32, s0 := 5, ty := .i 4, acc := .rw, lo := -2147483648, hi := 2147483647 }
def Obj.LOOP_SET_RATE : ObjRow :=
  { base := 0x5010, stride := 1, ni := 32, s0 := 6, ty := .u 4, acc := .rws, lo := 0, hi := 4294967295, keep := true }
def Obj.LOOP_OUT_SLEW : ObjRow :=
  { base := 0x5010, stride := 1, ni := 32, s0 := 7, ty := .u 4, acc := .rws, lo := 0, hi := 4294967295, keep := true }
def Obj.LOOP_OUT_MIN : ObjRow :=
  { base := 0x5010, stride := 1, ni := 32, s0 := 8, ty := .i 4, acc := .rws, lo := -2147483648, hi := 2147483647, keep := true }
def Obj.LOOP_OUT_MAX : ObjRow :=
  { base := 0x5010, stride := 1, ni := 32, s0 := 9, ty := .i 4, acc := .rws, df := .val 268435456, lo := -2147483648, hi := 2147483647, keep := true }
def Obj.LOOP_INT_MIN : ObjRow :=
  { base := 0x5010, stride := 1, ni := 32, s0 := 10, ty := .i 4, acc := .rws, lo := -2147483648, hi := 2147483647, keep := true }
def Obj.LOOP_INT_MAX : ObjRow :=
  { base := 0x5010, stride := 1, ni := 32, s0 := 11, ty := .i 4, acc := .rws, df := .val 268435456, lo := -2147483648, hi := 2147483647, keep := true }
def Obj.LOOP_BAND : ObjRow :=
  { base := 0x5010, stride := 1, ni := 32, s0 := 12, ty := .u 4, acc := .rws, df := .val 5368709, lo := 0, hi := 4294967295, keep := true }
def Obj.LOOP_COEF_B0 : ObjRow :=
  { base := 0x5040, stride := 1, ni := 32, ns := 31, ty := .i 4, acc := .rw, lo := -1073741824, hi := 1073741823 }
def Obj.LOOP_COEF_B1 : ObjRow :=
  { base := 0x5060, stride := 1, ni := 32, ns := 31, ty := .i 4, acc := .rw, lo := -1073741824, hi := 1073741823 }
def Obj.LOOP_BANK : ObjRow :=
  { base := 0x5080, stride := 1, ni := 32, ty := .u 1, acc := .ro, lo := 0, hi := 255 }
def Obj.LOOP_STATE : ObjRow :=
  { base := 0x5080, stride := 1, ni := 32, s0 := 1, ty := .u 1, acc := .ro, lo := 0, hi := 255 }
def Obj.LOOP_OUT_VALUE : ObjRow :=
  { base := 0x5080, stride := 1, ni := 32, s0 := 2, ty := .i 4, acc := .ro, lo := -2147483648, hi := 2147483647 }
def Obj.LOOP_SET_VALUE : ObjRow :=
  { base := 0x5080, stride := 1, ni := 32, s0 := 3, ty := .i 4, acc := .ro, lo := -2147483648, hi := 2147483647 }
def Obj.LOOP_INPUT_VALUE : ObjRow :=
  { base := 0x5080, stride := 1, ni := 32, s0 := 4, ty := .i 4, acc := .ro, lo := -2147483648, hi := 2147483647 }
def Obj.DAMP_STRAND_ZONE : ObjRow :=
  { base := 0x5100, ns := 256, ty := .u 1, acc := .rws, lo := 0, hi := 7, role := .tile, keep := true }
def Obj.ZONE_V_MON : ObjRow :=
  { base := 0x5110, stride := 1, ni := 8, ty := .u 1, acc := .rws, df := .val 255, lo := 0, hi := 255, role := .tile, keep := true }
def Obj.ZONE_V_SCALE : ObjRow :=
  { base := 0x5110, stride := 1, ni := 8, s0 := 1, ty := .u 2, acc := .rws, df := .val 8192, lo := 0, hi := 65535, role := .tile, keep := true }
def Obj.ZONE_I_MON : ObjRow :=
  { base := 0x5110, stride := 1, ni := 8, s0 := 2, ty := .u 1, acc := .rws, df := .val 255, lo := 0, hi := 255, role := .tile, keep := true }
def Obj.ZONE_I_SCALE : ObjRow :=
  { base := 0x5110, stride := 1, ni := 8, s0 := 3, ty := .u 4, acc := .rws, df := .val 100000, lo := 0, hi := 4294967295, role := .tile, keep := true }
def Obj.DAMP_OP_LEVEL : ObjRow :=
  { base := 0x5110, stride := 1, ni := 8, s0 := 4, ty := .u 2, acc := .rw, df := .val 32768, lo := 0, hi := 65535, who := .operator, role := .tile }
def Obj.DAMP_OP_RATE : ObjRow :=
  { base := 0x5110, stride := 1, ni := 8, s0 := 5, ty := .u 4, acc := .rws, df := .val 65536, lo := 0, hi := 4294967295, role := .tile, keep := true }
def Obj.PWR_ZONE_CAP : ObjRow :=
  { base := 0x5110, stride := 1, ni := 8, s0 := 6, ty := .u 4, acc := .rws, df := .val 1000000, lo := 0, hi := 4294967295, role := .tile, keep := true }
def Obj.DAMP_HEADROOM_MIN : ObjRow :=
  { base := 0x5110, stride := 1, ni := 8, s0 := 7, ty := .u 1, acc := .rws, df := .val 4, lo := 0, hi := 255, role := .tile, keep := true }
def Obj.DAMP_CEILING : ObjRow :=
  { base := 0x5110, stride := 1, ni := 8, s0 := 8, ty := .u 2, acc := .ro, df := .val 32768, lo := 0, hi := 65535, role := .tile }
def Obj.DAMP_WINNER : ObjRow :=
  { base := 0x5110, stride := 1, ni := 8, s0 := 9, ty := .u 1, acc := .ro, lo := 0, hi := 255, role := .tile }
def Obj.ZONE_V : ObjRow :=
  { base := 0x5110, stride := 1, ni := 8, s0 := 10, ty := .u 2, acc := .ro, lo := 0, hi := 65535, role := .tile }
def Obj.ZONE_I : ObjRow :=
  { base := 0x5110, stride := 1, ni := 8, s0 := 11, ty := .u 4, acc := .ro, lo := 0, hi := 4294967295, role := .tile }
def Obj.ZONE_HEADROOM : ObjRow :=
  { base := 0x5110, stride := 1, ni := 8, s0 := 12, ty := .u 1, acc := .ro, df := .val 63, lo := 0, hi := 255, role := .tile }
def Obj.PWR_ZONE_GRANT : ObjRow :=
  { base := 0x5110, stride := 1, ni := 8, s0 := 13, ty := .u 4, acc := .ro, lo := 0, hi := 4294967295, role := .tile }
def Obj.PWR_TILE_GRANT : ObjRow :=
  { base := 0x5140, ty := .u 4, acc := .ro, lo := 0, hi := 4294967295, role := .tile }
def Obj.PWR_GRANT_SEQ : ObjRow :=
  { base := 0x5140, s0 := 1, ty := .u 2, acc := .ro, lo := 0, hi := 65535, role := .tile }
def Obj.PWR_RAIL_EFF : ObjRow :=
  { base := 0x5140, s0 := 2, ty := .u 2, acc := .rws, df := .val 29491, lo := 16384, hi := 32768, role := .tile, keep := true }
def Obj.PWR_V_MARGIN : ObjRow :=
  { base := 0x5140, s0 := 3, ty := .u 2, acc := .rws, df := .val 100, lo := 0, hi := 65535, role := .tile, keep := true }
def Obj.PWR_REPORT_DIV : ObjRow :=
  { base := 0x5140, s0 := 4, ty := .u 1, acc := .rws, df := .val 1, lo := 1, hi := 16, role := .tile, keep := true }
def Obj.PWR_TILE_DEMAND : ObjRow :=
  { base := 0x5140, s0 := 5, ty := .u 4, acc := .ro, lo := 0, hi := 4294967295, role := .tile }
def Obj.PWR_I_TOL : ObjRow :=
  { base := 0x5140, s0 := 6, ty := .u 1, acc := .rws, df := .val 10, lo := 1, hi := 50, role := .tile, keep := true }
def Obj.PWR_GRANTS_LATE : ObjRow :=
  { base := 0x5140, s0 := 7, ty := .u 4, acc := .ro, lo := 0, hi := 4294967295, role := .tile }
def Obj.PWR_BOOT_GRANT : ObjRow :=
  { base := 0x5141, ty := .u 4, acc := .rws, lo := 0, hi := 4294967295, keep := true }
def Obj.PWR_FEEDER_BUDGET : ObjRow :=
  { base := 0x5150, ns := 16, ty := .u 4, acc := .rws, lo := 0, hi := 4294967295, role := .sender, keep := true }
def Obj.PWR_TILE_FIXED : ObjRow :=
  { base := 0x5151, ty := .u 4, acc := .rws, df := .val 30000, lo := 0, hi := 4294967295, role := .sender, keep := true }
def Obj.PWR_TILE_CAP : ObjRow :=
  { base := 0x5151, s0 := 1, ty := .u 4, acc := .rws, df := .val 1000000, lo := 0, hi := 4294967295, role := .sender, keep := true }
def Obj.PWR_GRANT_LEAD : ObjRow :=
  { base := 0x5151, s0 := 2, ty := .u 1, acc := .rws, df := .val 2, lo := 1, hi := 8, role := .sender, keep := true }
def Obj.PWR_FEEDER_COMMITTED : ObjRow :=
  { base := 0x5152, ns := 16, ty := .u 4, acc := .ro, lo := 0, hi := 4294967295, role := .sender }
def Obj.PWR_FEEDER_DEMAND : ObjRow :=
  { base := 0x5153, ns := 16, ty := .u 4, acc := .ro, lo := 0, hi := 4294967295, role := .sender }
def Obj.PWR_TILE_FEEDER : ObjRow :=
  { base := 0x5160, stride := 1, ni := 8, ns := 128, ty := .u 1, acc := .rws, df := .val 255, lo := 0, hi := 255, role := .sender, keep := true }

def objTable3a : List ObjRow := [
  Obj.LAMP_STEP_MAX,
  Obj.LAMP_STEP_HYST,
  Obj.LAMP_CHROMA_COMP,
  Obj.LAMP_DIFFUSE,
  Obj.LAMP_AGE_ENABLE,
  Obj.LAMP_AGE_GAIN_MAX,
  Obj.LAMP_TEMP_HYST,
  Obj.LAMP_TEMP_MARGIN,
  Obj.LAMP_REFRESH_PER_FRAME,
  Obj.LAMP_IFS,
  Obj.LAMP_WIDTH_UNIT,
  Obj.LAMP_W_MAX,
  Obj.LAMP_W_FS,
  Obj.LAMP_WINDOW,
  Obj.LAMP_PROC_MAX,
  Obj.LAMP_ZONE_DEMAND,
  Obj.LAMP_ZONE_SCALE,
  Obj.LAMP_MOD_STATE,
  Obj.LAMP_MOD_TEMP,
  Obj.LAMP_MOD_REFRESHES,
  Obj.LAMP_FRAMES,
  Obj.LAMP_FRAMES_LATE,
  Obj.LAMP_LATE_LAMPS,
  Obj.LAMP_CLIPS]

def objTable3b : List ObjRow := [
  Obj.LAMP_RESOLVES,
  Obj.LAMP_TRIMS,
  Obj.LAMP_COEF_ERRORS,
  Obj.LAMP_AGE_CAPPED,
  Obj.LAMP_PROT_SCALED,
  Obj.STR_ENUM,
  Obj.STR_PROF_DRIVERS,
  Obj.STR_PROF_CHANNELS,
  Obj.STR_PROF_ORDER,
  Obj.STR_MAP,
  Obj.STR_STATE,
  Obj.STR_FOUND,
  Obj.STR_LOOP,
  Obj.STR_BREAK_AT,
  Obj.STR_CHECK_ERRORS,
  Obj.STR_STATUS_MISSING,
  Obj.STR_OPEN_REPORTS,
  Obj.STR_CMD_FAILS,
  Obj.STR_DRV_TARGET,
  Obj.STR_DRV_REG,
  Obj.STR_DRV_VALUE,
  Obj.STR_DRV_GO,
  Obj.STR_DRV_RESULT,
  Obj.STR_DRV_STATUS]

def objTable3c : List ObjRow := [
  Obj.SCAN_ROW_LEAD,
  Obj.SCAN_ROW_LAG,
  Obj.SCAN_SCN_DELAY,
  Obj.SCAN_SCN_POLARITY,
  Obj.SCAN_LADDER_STEP,
  Obj.SCAN_LADDER_SKEW,
  Obj.SCAN_LADDER_SPAN,
  Obj.SCAN_ROW_ORDER,
  Obj.SCAN_ROW_PRE,
  Obj.SCAN_PRE_VOLT,
  Obj.SCAN_PROBE_ENABLE,
  Obj.SCAN_PROBES,
  Obj.SCAN_PROBES_DROPPED,
  Obj.SCAN_OPEN_TABLE,
  Obj.SCAN_OPEN_COUNT,
  Obj.SCAN_OPEN_OVERFLOW,
  Obj.SCAN_OPEN_CLEAR,
  Obj.SCAN_PASS_RATE,
  Obj.SCAN_GREY_BITS,
  Obj.SCAN_STATE,
  Obj.LOOP_MON_ENABLE,
  Obj.LOOP_SWAP,
  Obj.LOOP_SATS,
  Obj.LOOP_TRIM_INIT]

def objTable3d : List ObjRow := [
  Obj.LOOP_MON_VALUE,
  Obj.LOOP_IN,
  Obj.LOOP_OUT,
  Obj.LOOP_RATE,
  Obj.LOOP_NSEC,
  Obj.LOOP_POL,
  Obj.LOOP_SETPOINT,
  Obj.LOOP_SET_RATE,
  Obj.LOOP_OUT_SLEW,
  Obj.LOOP_OUT_MIN,
  Obj.LOOP_OUT_MAX,
  Obj.LOOP_INT_MIN,
  Obj.LOOP_INT_MAX,
  Obj.LOOP_BAND,
  Obj.LOOP_COEF_B0,
  Obj.LOOP_COEF_B1,
  Obj.LOOP_BANK,
  Obj.LOOP_STATE,
  Obj.LOOP_OUT_VALUE,
  Obj.LOOP_SET_VALUE,
  Obj.LOOP_INPUT_VALUE,
  Obj.DAMP_STRAND_ZONE,
  Obj.ZONE_V_MON,
  Obj.ZONE_V_SCALE]

def objTable3e : List ObjRow := [
  Obj.ZONE_I_MON,
  Obj.ZONE_I_SCALE,
  Obj.DAMP_OP_LEVEL,
  Obj.DAMP_OP_RATE,
  Obj.PWR_ZONE_CAP,
  Obj.DAMP_HEADROOM_MIN,
  Obj.DAMP_CEILING,
  Obj.DAMP_WINNER,
  Obj.ZONE_V,
  Obj.ZONE_I,
  Obj.ZONE_HEADROOM,
  Obj.PWR_ZONE_GRANT,
  Obj.PWR_TILE_GRANT,
  Obj.PWR_GRANT_SEQ,
  Obj.PWR_RAIL_EFF,
  Obj.PWR_V_MARGIN,
  Obj.PWR_REPORT_DIV,
  Obj.PWR_TILE_DEMAND,
  Obj.PWR_I_TOL,
  Obj.PWR_GRANTS_LATE,
  Obj.PWR_BOOT_GRANT,
  Obj.PWR_FEEDER_BUDGET,
  Obj.PWR_TILE_FIXED,
  Obj.PWR_TILE_CAP]

def objTable3f : List ObjRow := [
  Obj.PWR_GRANT_LEAD,
  Obj.PWR_FEEDER_COMMITTED,
  Obj.PWR_FEEDER_DEMAND,
  Obj.PWR_TILE_FEEDER]

/-- The rows of chapters 10 to 13, in the tables' order. -/
def objTable3 : List ObjRow :=
  objTable3a ++ objTable3b ++ objTable3c ++ objTable3d ++ objTable3e ++ objTable3f

end Sys2Proof.Machine
end

