-- ==== Sys2Proof/Machine/Objects4.lean ====
section
/-! DEFINITION. The object dictionary, one `ObjRow` per row of the manual's object tables of chapters 14 to 18.

Each row holds the table's index, subindices, type, access class, default and limits, the roles that may write it
(R43), the role in which it exists, and whether it is persistent, stopped-only or served by the ROM (R420). -/

namespace Sys2Proof.Machine

def Obj.CAL_TARGET_PRIM : ObjRow :=
  { base := 0x6000, ns := 6, ty := .u 2, acc := .rws, df := .list [41943, 21627, 19661, 39322, 9830, 3932], lo := 0, hi := 65535, role := .tile, keep := true }
def Obj.CAL_TARGET_WHITE : ObjRow :=
  { base := 0x6000, s0 := 6, ns := 2, ty := .u 2, acc := .rws, df := .list [20493, 21561], lo := 0, hi := 65535, role := .tile, keep := true }
def Obj.CAL_TARGET_Y : ObjRow :=
  { base := 0x6000, s0 := 8, ty := .u 2, acc := .rws, df := .val 1000, lo := 1, hi := 65535, role := .tile, keep := true }
def Obj.CAL_L4_WEIGHT : ObjRow :=
  { base := 0x6001, ns := 4, ty := .u 2, acc := .rws, df := .val 32768, lo := 0, hi := 65535, role := .tile, keep := true }
def Obj.CAL_MODULE : ObjRow :=
  { base := 0x6010, ty := .u 1, acc := .rw, lo := 0, hi := 15, role := .tile }
def Obj.CAL_KIND : ObjRow :=
  { base := 0x6010, s0 := 1, ty := .u 1, acc := .rw, df := .val 1, lo := 1, hi := 2, role := .tile }
def Obj.CAL_OPEN : ObjRow :=
  { base := 0x6010, s0 := 2, ty := .u 1, acc := .cmd, lo := 1, hi := 1, role := .tile }
def Obj.CAL_RUN : ObjRow :=
  { base := 0x6010, s0 := 3, ty := .u 1, acc := .cmd, lo := 1, hi := 1, role := .tile }
def Obj.CAL_ABORT : ObjRow :=
  { base := 0x6010, s0 := 4, ty := .u 1, acc := .cmd, lo := 1, hi := 1, role := .tile }
def Obj.CAL_STATE : ObjRow :=
  { base := 0x6010, s0 := 5, ty := .u 1, acc := .ro, lo := 0, hi := 255, role := .tile }
def Obj.CAL_REASON : ObjRow :=
  { base := 0x6010, s0 := 6, ty := .u 1, acc := .ro, lo := 0, hi := 255, role := .tile }
def Obj.CAL_SET_INDEX : ObjRow :=
  { base := 0x6010, s0 := 7, ty := .u 1, acc := .ro, lo := 0, hi := 255, role := .tile }
def Obj.CAL_SET_TEMP : ObjRow :=
  { base := 0x6010, s0 := 8, ty := .i 2, acc := .ro, lo := -32768, hi := 32767, role := .tile }
def Obj.CAL_PX_FAILED : ObjRow :=
  { base := 0x6010, s0 := 9, ty := .u 4, acc := .ro, lo := 0, hi := 4294967295, role := .tile }
def Obj.CAL_PX_SKIPPED : ObjRow :=
  { base := 0x6010, s0 := 10, ty := .u 4, acc := .ro, lo := 0, hi := 4294967295, role := .tile }
def Obj.CAL_PROGRESS : ObjRow :=
  { base := 0x6010, s0 := 11, ty := .u 4, acc := .ro, lo := 0, hi := 4294967295, role := .tile }
def Obj.CAL_PATTERN_SHOW : ObjRow :=
  { base := 0x6010, s0 := 12, ty := .u 1, acc := .cmd, lo := 0, hi := 255, role := .tile }
def Obj.CAL_PATTERN_LEVEL : ObjRow :=
  { base := 0x6010, s0 := 13, ty := .u 2, acc := .rws, df := .val 8192, lo := 1024, hi := 32768, role := .tile, keep := true }
def Obj.CAL_CHECK_LEVEL : ObjRow :=
  { base := 0x6010, s0 := 14, ty := .u 2, acc := .rws, df := .val 49152, lo := 0, hi := 65535, role := .tile, keep := true }
def Obj.CAL_MEAS_CLEAR : ObjRow :=
  { base := 0x6010, s0 := 15, ty := .u 1, acc := .cmd, lo := 1, hi := 1, role := .tile }
def Obj.CAL_TEMP_TOL : ObjRow :=
  { base := 0x6011, ty := .u 1, acc := .rws, df := .val 4, lo := 1, hi := 10, role := .tile, keep := true }
def Obj.CAL_TEMP_DRIFT : ObjRow :=
  { base := 0x6011, s0 := 1, ty := .u 1, acc := .rws, df := .val 8, lo := 1, hi := 40, role := .tile, keep := true }
def Obj.CAL_FAIL_LIMIT : ObjRow :=
  { base := 0x6011, s0 := 2, ty := .u 2, acc := .rws, df := .val 16, lo := 0, hi := 65535, role := .tile, keep := true }
def Obj.CAL_COEF_MAX : ObjRow :=
  { base := 0x6011, s0 := 3, ty := .u 2, acc := .rws, df := .val 24576, lo := 16384, hi := 32767, role := .tile, keep := true }
def Obj.CAL_GAIN_MIN : ObjRow :=
  { base := 0x6011, s0 := 4, ty := .u 2, acc := .rws, df := .val 8192, lo := 1, hi := 32768, role := .tile, keep := true }
def Obj.CAL_COND_MAX : ObjRow :=
  { base := 0x6011, s0 := 5, ty := .u 2, acc := .rws, df := .val 20, lo := 2, hi := 1000, role := .tile, keep := true }
def Obj.CAL_RESID_UV_MAX : ObjRow :=
  { base := 0x6011, s0 := 6, ty := .u 2, acc := .rws, df := .val 50, lo := 1, hi := 1000, role := .tile, keep := true }
def Obj.CAL_RESID_Y_MAX : ObjRow :=
  { base := 0x6011, s0 := 7, ty := .u 1, acc := .rws, df := .val 5, lo := 1, hi := 50, role := .tile, keep := true }
def Obj.CAL_SHOWN_FROM : ObjRow :=
  { base := 0x6012, ns := 33, ty := .time96, acc := .ro, lo := 0, hi := 79228162514264337593543950335, role := .tile }
def Obj.CAL_SHOWN_TO : ObjRow :=
  { base := 0x6013, ns := 33, ty := .time96, acc := .ro, lo := 0, hi := 79228162514264337593543950335, role := .tile }
def Obj.CAL_SHOWN_TEMP : ObjRow :=
  { base := 0x6014, ns := 33, ty := .u 4, acc := .ro, lo := 0, hi := 4294967295, role := .tile }
def Obj.CAL_MEAS_DATA : ObjRow :=
  { base := 0x6015, ns := 33, ty := .blob, acc := .wo, lo := 0, hi := 0, role := .tile }
def Obj.CAL_MEAS_STATE : ObjRow :=
  { base := 0x6016, ns := 33, ty := .u 1, acc := .ro, lo := 0, hi := 255, role := .tile }
def Obj.CAL_RESIDUAL : ObjRow :=
  { base := 0x6018, ty := .blob, acc := .ro, lo := 0, hi := 0, role := .tile }
def Obj.CAL_HIST : ObjRow :=
  { base := 0x6019, ns := 16, ty := .u 4, acc := .ro, lo := 0, hi := 4294967295, role := .tile }
def Obj.CAL_FIELD_REVERT : ObjRow :=
  { base := 0x601A, ty := .u 2, acc := .cmd, lo := 0, hi := 65535, role := .tile }
def Obj.CAL_MOD_HIST : ObjRow :=
  { base := 0x6020, stride := 1, ni := 16, ns := 16, ty := .u 4, acc := .ro, lo := 0, hi := 4294967295, role := .tile }
def Obj.CAL_BULK_DEST : ObjRow :=
  { base := 0x6030, ty := .u 4, acc := .rw, lo := 0, hi := 4294967295, role := .sender }
def Obj.CAL_BULK_DATA : ObjRow :=
  { base := 0x6030, s0 := 1, ty := .blob, acc := .wo, lo := 0, hi := 0, role := .sender }
def Obj.CAL_LINK_RUN : ObjRow :=
  { base := 0x6040, ty := .u 1, acc := .cmd, lo := 0, hi := 15 }
def Obj.CAL_LINK_REASON : ObjRow :=
  { base := 0x6040, s0 := 1, ty := .u 1, acc := .ro, lo := 0, hi := 255 }
def Obj.CAL_LINK_AUTO : ObjRow :=
  { base := 0x6040, s0 := 2, ty := .bool, acc := .rws, df := .val 1, lo := 0, hi := 1, keep := true }
def Obj.CAL_LINK_EYE_MIN : ObjRow :=
  { base := 0x6040, s0 := 3, ty := .u 1, acc := .rws, df := .val 20, lo := 8, hi := 48, keep := true }
def Obj.CAL_LINK_CLEAR : ObjRow :=
  { base := 0x6040, s0 := 4, ty := .u 1, acc := .cmd, lo := 0, hi := 15 }
def Obj.CAL_LINK_BANDS : ObjRow :=
  { base := 0x6041, ns := 16, ty := .u 1, acc := .ro, lo := 0, hi := 255 }
def Obj.CAL_TRIM_SOAK : ObjRow :=
  { base := 0x6050, ty := .i 2, acc := .rw, df := .val 200, lo := -32768, hi := 32767 }
def Obj.CAL_TRIM_RUN : ObjRow :=
  { base := 0x6050, s0 := 1, ty := .u 1, acc := .cmd, lo := 1, hi := 1 }
def Obj.CAL_TRIM_REASON : ObjRow :=
  { base := 0x6050, s0 := 2, ty := .u 1, acc := .ro, lo := 0, hi := 255 }
def Obj.CAL_TRIM_MAX : ObjRow :=
  { base := 0x6050, s0 := 3, ty := .u 1, acc := .rws, df := .val 8, lo := 1, hi := 20, keep := true }
def Obj.CAL_TRIM_OFFSET : ObjRow :=
  { base := 0x6051, ns := 24, ty := .i 2, acc := .ro, lo := -32768, hi := 32767 }
def Obj.CAL_STORES : ObjRow :=
  { base := 0x6060, ty := .u 4, acc := .ro, lo := 0, hi := 4294967295 }
def Obj.CAL_STORE_FAILS : ObjRow :=
  { base := 0x6060, s0 := 1, ty := .u 4, acc := .ro, lo := 0, hi := 4294967295 }
def Obj.DEV_PART : ObjRow :=
  { base := 0x1000, ty := .str, acc := .ro, lo := 0, hi := 0 }
def Obj.DEV_ORDER_CODE : ObjRow :=
  { base := 0x1000, s0 := 1, ty := .str, acc := .ro, lo := 0, hi := 0 }
def Obj.DEV_STEPPING : ObjRow :=
  { base := 0x1000, s0 := 2, ty := .str, acc := .ro, lo := 0, hi := 0 }
def Obj.DEV_SERIAL : ObjRow :=
  { base := 0x1000, s0 := 3, ty := .u 8, acc := .ro, lo := 0, hi := 18446744073709551615 }
def Obj.DEV_CERT : ObjRow :=
  { base := 0x1000, s0 := 4, ty := .blob, acc := .ro, lo := 0, hi := 0 }
def Obj.DEV_CA_CERT : ObjRow :=
  { base := 0x1000, s0 := 5, ty := .blob, acc := .ro, lo := 0, hi := 0 }
def Obj.ROLE_STATUS : ObjRow :=
  { base := 0x1010, ty := .u 1, acc := .ro, lo := 0, hi := 255 }
def Obj.SEC_CLIENT_ANCHOR : ObjRow :=
  { base := 0x1130, ns := 2, ty := .blob, acc := .rw, lo := 0, hi := 0, keep := true }
def Obj.SEC_CLIENT_ROLES : ObjRow :=
  { base := 0x1131, ns := 2, ty := .u 1, acc := .rw, df := .val 14, lo := 0, hi := 255, keep := true }
def Obj.SEC_SENDER_ALLOW : ObjRow :=
  { base := 0x1132, ns := 8, ty := .u 8, acc := .rw, lo := 0, hi := 18446744073709551615, role := .tile, keep := true }
def Obj.SEC_OPEN_FAILS : ObjRow :=
  { base := 0x1133, ty := .u 4, acc := .ro, lo := 0, hi := 4294967295 }
def Obj.SEC_FW_REVOKED : ObjRow :=
  { base := 0x1133, s0 := 1, ty := .u 1, acc := .ro, lo := 0, hi := 255 }
def Obj.SEC_FW_REVOKE : ObjRow :=
  { base := 0x1133, s0 := 2, ty := .u 1, acc := .cmd, lo := 0, hi := 3, who := .vendor }
def Obj.SEC_SAFETY_ANCHOR : ObjRow :=
  { base := 0x22C1, ns := 2, ty := .blob, acc := .rw, lo := 0, hi := 0, who := .safety, role := .sender, keep := true }
def Obj.MOD_ENABLE : ObjRow :=
  { base := 0x6100, ty := .u 2, acc := .rws, lo := 0, hi := 65535, role := .tile, keep := true }
def Obj.MOD_SCK : ObjRow :=
  { base := 0x6100, s0 := 1, ty := .u 2, acc := .rws, df := .val 50000, lo := 1000, hi := 50000, role := .tile, keep := true }
def Obj.MOD_DOSE_SAVE : ObjRow :=
  { base := 0x6100, s0 := 2, ty := .u 4, acc := .rws, df := .val 3600, lo := 3600, hi := 86400, role := .tile, keep := true }
def Obj.MOD_LIFE_WARN : ObjRow :=
  { base := 0x6100, s0 := 3, ty := .u 1, acc := .rws, df := .val 90, lo := 50, hi := 100, role := .tile, keep := true }
def Obj.MOD_HEADROOM_MIN : ObjRow :=
  { base := 0x6100, s0 := 4, ty := .u 2, acc := .rws, df := .val 50, lo := 0, hi := 1000, role := .tile, keep := true }
def Obj.MOD_SERVICE : ObjRow :=
  { base := 0x6100, s0 := 5, ty := .u 2, acc := .cmd, lo := 0, hi := 65535, role := .tile }
def Obj.MOD_ANCHOR : ObjRow :=
  { base := 0x6101, ns := 4, ty := .blob, acc := .rw, lo := 0, hi := 0, role := .tile, keep := true }
def Obj.MOD_X0 : ObjRow :=
  { base := 0x6110, stride := 1, ni := 16, ty := .u 2, acc := .rws, lo := 0, hi := 511, role := .tile, keep := true }
def Obj.MOD_Y0 : ObjRow :=
  { base := 0x6110, stride := 1, ni := 16, s0 := 1, ty := .u 2, acc := .rws, lo := 0, hi := 511, role := .tile, keep := true }
def Obj.MOD_STATE : ObjRow :=
  { base := 0x6110, stride := 1, ni := 16, s0 := 2, ty := .u 1, acc := .ro, lo := 0, hi := 255, role := .tile }
def Obj.MOD_SERIAL : ObjRow :=
  { base := 0x6110, stride := 1, ni := 16, s0 := 3, ty := .u 8, acc := .ro, lo := 0, hi := 18446744073709551615, role := .tile }
def Obj.MOD_SIZE : ObjRow :=
  { base := 0x6110, stride := 1, ni := 16, s0 := 4, ty := .u 4, acc := .ro, lo := 0, hi := 4294967295, role := .tile }
def Obj.MOD_BURN : ObjRow :=
  { base := 0x6110, stride := 1, ni := 16, s0 := 5, ty := .u 8, acc := .ro, lo := 0, hi := 18446744073709551615, role := .tile }
def Obj.MOD_RATED : ObjRow :=
  { base := 0x6110, stride := 1, ni := 16, s0 := 6, ty := .u 4, acc := .ro, lo := 0, hi := 4294967295, role := .tile }
def Obj.MOD_HEADROOM : ObjRow :=
  { base := 0x6110, stride := 1, ni := 16, s0 := 7, ty := .u 2, acc := .ro, lo := 0, hi := 65535, role := .tile }
def Obj.MOD_BINDS : ObjRow :=
  { base := 0x6110, stride := 1, ni := 16, s0 := 8, ty := .u 4, acc := .ro, lo := 0, hi := 4294967295, role := .tile }
def Obj.MOD_PKG_DIGEST : ObjRow :=
  { base := 0x6110, stride := 1, ni := 16, s0 := 9, ty := .blob, acc := .ro, lo := 0, hi := 0, role := .tile }
def Obj.THERM_WARN : ObjRow :=
  { base := 0x7000, ty := .i 2, acc := .rws, df := .val 760, lo := 480, hi := 960, keep := true }
def Obj.THERM_THROTTLE_START : ObjRow :=
  { base := 0x7000, s0 := 1, ty := .i 2, acc := .rws, df := .val 800, lo := 480, hi := 960, keep := true }
def Obj.THERM_THROTTLE_FULL : ObjRow :=
  { base := 0x7000, s0 := 2, ty := .i 2, acc := .rws, df := .val 880, lo := 480, hi := 960, keep := true }
def Obj.THERM_HYST : ObjRow :=
  { base := 0x7000, s0 := 3, ty := .u 1, acc := .rws, df := .val 24, lo := 8, hi := 80, keep := true }
def Obj.THERM_SPREAD_MAX : ObjRow :=
  { base := 0x7000, s0 := 4, ty := .u 2, acc := .rws, df := .val 320, lo := 80, hi := 800, keep := true }
def Obj.THERM_STAGE : ObjRow :=
  { base := 0x7000, s0 := 5, ty := .u 1, acc := .ro, lo := 0, hi := 255 }
def Obj.THERM_HOTTEST : ObjRow :=
  { base := 0x7000, s0 := 6, ty := .u 1, acc := .ro, lo := 0, hi := 255 }
def Obj.THERM_BROKEN : ObjRow :=
  { base := 0x7000, s0 := 7, ty := .u 4, acc := .ro, lo := 0, hi := 4294967295 }
def Obj.THERM_MOD_SHIFT : ObjRow :=
  { base := 0x7000, s0 := 8, ty := .u 1, acc := .rws, df := .val 4, lo := 0, hi := 8, role := .tile, keep := true }
def Obj.THERM_MOD_STALE : ObjRow :=
  { base := 0x7000, s0 := 9, ty := .u 2, acc := .rws, df := .val 1000, lo := 100, hi := 10000, role := .tile, keep := true }
def Obj.THERM_SD_TRIM : ObjRow :=
  { base := 0x7001, ns := 8, ty := .u 2, acc := .rws, lo := 0, hi := 65535, keep := true }
def Obj.THERM_SITE_TEMP : ObjRow :=
  { base := 0x7010, ns := 24, ty := .i 2, acc := .ro, lo := -32768, hi := 32767 }
def Obj.THERM_SITE_MAX : ObjRow :=
  { base := 0x7011, ns := 24, ty := .i 2, acc := .ro, df := .val (-440), lo := -32768, hi := 32767 }
def Obj.THERM_ZONE_SITES : ObjRow :=
  { base := 0x7020, stride := 1, ni := 8, ty := .u 4, acc := .rws, df := .val 16777215, lo := 0, hi := 4294967295, role := .tile, keep := true }
def Obj.THERM_DIE_OFFSET : ObjRow :=
  { base := 0x7020, stride := 1, ni := 8, s0 := 1, ty := .i 2, acc := .rws, df := .val (-160), lo := -800, hi := 0, role := .tile, keep := true }
def Obj.THERM_ZONE_FULL : ObjRow :=
  { base := 0x7020, stride := 1, ni := 8, s0 := 2, ty := .i 2, acc := .rws, df := .val 720, lo := -32768, hi := 32767, role := .tile, keep := true }
def Obj.THERM_ZONE_TEMP : ObjRow :=
  { base := 0x7020, stride := 1, ni := 8, s0 := 3, ty := .i 2, acc := .ro, lo := -32768, hi := 32767, role := .tile }
def Obj.THERM_MOD_OFFSET : ObjRow :=
  { base := 0x7030, stride := 1, ni := 16, ty := .i 2, acc := .rws, lo := -240, hi := 240, role := .tile, keep := true }
def Obj.THERM_MOD_TEMP : ObjRow :=
  { base := 0x7030, stride := 1, ni := 16, s0 := 1, ty := .i 2, acc := .ro, lo := -32768, hi := 32767, role := .tile }
def Obj.THERM_MOD_STATE : ObjRow :=
  { base := 0x7030, stride := 1, ni := 16, s0 := 2, ty := .u 1, acc := .ro, lo := 0, hi := 255, role := .tile }
def Obj.FLT_CFG : ObjRow :=
  { base := 0x7100, ns := 128, ty := .u 4, acc := .rws, df := .fltCfg, lo := 0, hi := 4294967295, keep := true }
def Obj.FLT_QUIET : ObjRow :=
  { base := 0x7101, ns := 128, ty := .u 2, acc := .rws, df := .fltQuiet, lo := 0, hi := 3600, keep := true }
def Obj.FLT_STATE : ObjRow :=
  { base := 0x7102, ns := 128, ty := .u 1, acc := .ro, lo := 0, hi := 255, rom := true }
def Obj.FLT_EVENTS : ObjRow :=
  { base := 0x7103, ns := 128, ty := .u 4, acc := .ro, lo := 0, hi := 4294967295 }
def Obj.FLT_SHADOW_COUNT : ObjRow :=
  { base := 0x7104, ns := 128, ty := .u 4, acc := .ro, lo := 0, hi := 4294967295 }
def Obj.FLT_ASH : ObjRow :=
  { base := 0x7110, ty := .blob, acc := .ro, lo := 0, hi := 0, rom := true }
def Obj.FLT_ASH_SEQ : ObjRow :=
  { base := 0x7110, s0 := 1, ty := .u 4, acc := .ro, lo := 0, hi := 4294967295, rom := true }
def Obj.FLT_ASH_PREV : ObjRow :=
  { base := 0x7110, s0 := 2, ty := .blob, acc := .ro, lo := 0, hi := 0, rom := true }
def Obj.FLT_CLEAR : ObjRow :=
  { base := 0x7111, ty := .u 2, acc := .cmd, lo := 0, hi := 65535, who := .operator }
def Obj.FLT_INJECT : ObjRow :=
  { base := 0x7111, s0 := 1, ty := .u 4, acc := .cmd, lo := 0, hi := 4294967295 }
def Obj.FLT_INJECT_CLEAR : ObjRow :=
  { base := 0x7111, s0 := 2, ty := .u 1, acc := .cmd, lo := 1, hi := 1 }
def Obj.FLT_UNCLEARED : ObjRow :=
  { base := 0x7111, s0 := 3, ty := .u 1, acc := .ro, lo := 0, hi := 255 }
def Obj.FLT_ALM_STATE : ObjRow :=
  { base := 0x7111, s0 := 4, ty := .u 1, acc := .ro, lo := 0, hi := 255 }
def Obj.FLT_LOG_GAP : ObjRow :=
  { base := 0x7111, s0 := 5, ty := .u 2, acc := .rws, df := .val 1000, lo := 100, hi := 60000, keep := true }
def Obj.FLT_REPORT_DROPS : ObjRow :=
  { base := 0x7111, s0 := 6, ty := .u 4, acc := .ro, lo := 0, hi := 4294967295, role := .tile }
def Obj.FLT_WALL_LOG : ObjRow :=
  { base := 0x7120, ty := .blob, acc := .ro, lo := 0, hi := 0, role := .sender }
def Obj.FLT_WALL_SEQ : ObjRow :=
  { base := 0x7120, s0 := 1, ty := .u 4, acc := .ro, lo := 0, hi := 4294967295, role := .sender }
def Obj.FLT_WALL_ALARM : ObjRow :=
  { base := 0x7121, ns := 16, ty := .u 8, acc := .ro, lo := 0, hi := 18446744073709551615, role := .sender }
def Obj.UPD_STATE : ObjRow :=
  { base := 0x8000, ty := .u 1, acc := .ro, lo := 0, hi := 255, rom := true }
def Obj.UPD_BEGIN : ObjRow :=
  { base := 0x8000, s0 := 1, ty := .u 1, acc := .cmd, lo := 1, hi := 1, rom := true }
def Obj.UPD_IMAGE : ObjRow :=
  { base := 0x8000, s0 := 2, ty := .blob, acc := .wo, lo := 0, hi := 0, rom := true }
def Obj.UPD_VERIFY : ObjRow :=
  { base := 0x8000, s0 := 3, ty := .u 1, acc := .cmd, lo := 1, hi := 1, rom := true }
def Obj.UPD_VERIFY_RESULT : ObjRow :=
  { base := 0x8000, s0 := 4, ty := .u 1, acc := .ro, lo := 0, hi := 255, rom := true }
def Obj.UPD_ACTIVATE : ObjRow :=
  { base := 0x8000, s0 := 5, ty := .u 8, acc := .cmd, lo := 0, hi := 2251799813685247 }
def Obj.UPD_CONFIRM_WINDOW : ObjRow :=
  { base := 0x8000, s0 := 6, ty := .u 2, acc := .rws, df := .val 120, lo := 60, hi := 3600, keep := true }
def Obj.UPD_CONFIRM_LEFT : ObjRow :=
  { base := 0x8000, s0 := 7, ty := .u 2, acc := .ro, lo := 0, hi := 65535 }
def Obj.UPD_FALLBACK : ObjRow :=
  { base := 0x8000, s0 := 8, ty := .u 1, acc := .cmd, lo := 1, hi := 1 }
def Obj.BOOT_ACTIVE_SLOT : ObjRow :=
  { base := 0x8010, ns := 3, ty := .u 1, acc := .ro, lo := 0, hi := 255, rom := true }
def Obj.BOOT_VERSION : ObjRow :=
  { base := 0x8011, ns := 3, ty := .u 4, acc := .ro, lo := 0, hi := 4294967295, rom := true }
def Obj.BOOT_SVN_FUSED : ObjRow :=
  { base := 0x8012, ns := 3, ty := .u 1, acc := .ro, lo := 0, hi := 255, rom := true }
def Obj.BOOT_CFG_AREA : ObjRow :=
  { base := 0x8013, ty := .u 1, acc := .ro, lo := 0, hi := 255 }
def Obj.BOOT_CFG_FORMAT : ObjRow :=
  { base := 0x8013, s0 := 1, ty := .u 1, acc := .ro, lo := 0, hi := 255 }
def Obj.BOOT_REASON : ObjRow :=
  { base := 0x8013, s0 := 2, ty := .u 1, acc := .ro, lo := 0, hi := 255, rom := true }
def Obj.BOOT_RESET : ObjRow :=
  { base := 0x8013, s0 := 3, ty := .u 1, acc := .cmd, lo := 1, hi := 1 }
def Obj.BOOT_RELEASE_M : ObjRow :=
  { base := 0x8013, s0 := 4, ty := .u 1, acc := .cmd, lo := 1, hi := 1, rom := true }
def Obj.SVC_FRAMES : ObjRow :=
  { base := 0x8020, ty := .u 4, acc := .ro, lo := 0, hi := 4294967295, rom := true }
def Obj.SVC_CRC_ERRORS : ObjRow :=
  { base := 0x8020, s0 := 1, ty := .u 4, acc := .ro, lo := 0, hi := 4294967295, rom := true }
def Obj.SVC_DROPS : ObjRow :=
  { base := 0x8020, s0 := 2, ty := .u 4, acc := .ro, lo := 0, hi := 4294967295, rom := true }

def objTable4a : List ObjRow := [
  Obj.CAL_TARGET_PRIM,
  Obj.CAL_TARGET_WHITE,
  Obj.CAL_TARGET_Y,
  Obj.CAL_L4_WEIGHT,
  Obj.CAL_MODULE,
  Obj.CAL_KIND,
  Obj.CAL_OPEN,
  Obj.CAL_RUN,
  Obj.CAL_ABORT,
  Obj.CAL_STATE,
  Obj.CAL_REASON,
  Obj.CAL_SET_INDEX,
  Obj.CAL_SET_TEMP,
  Obj.CAL_PX_FAILED,
  Obj.CAL_PX_SKIPPED,
  Obj.CAL_PROGRESS,
  Obj.CAL_PATTERN_SHOW,
  Obj.CAL_PATTERN_LEVEL,
  Obj.CAL_CHECK_LEVEL,
  Obj.CAL_MEAS_CLEAR,
  Obj.CAL_TEMP_TOL,
  Obj.CAL_TEMP_DRIFT,
  Obj.CAL_FAIL_LIMIT,
  Obj.CAL_COEF_MAX]

def objTable4b : List ObjRow := [
  Obj.CAL_GAIN_MIN,
  Obj.CAL_COND_MAX,
  Obj.CAL_RESID_UV_MAX,
  Obj.CAL_RESID_Y_MAX,
  Obj.CAL_SHOWN_FROM,
  Obj.CAL_SHOWN_TO,
  Obj.CAL_SHOWN_TEMP,
  Obj.CAL_MEAS_DATA,
  Obj.CAL_MEAS_STATE,
  Obj.CAL_RESIDUAL,
  Obj.CAL_HIST,
  Obj.CAL_FIELD_REVERT,
  Obj.CAL_MOD_HIST,
  Obj.CAL_BULK_DEST,
  Obj.CAL_BULK_DATA,
  Obj.CAL_LINK_RUN,
  Obj.CAL_LINK_REASON,
  Obj.CAL_LINK_AUTO,
  Obj.CAL_LINK_EYE_MIN,
  Obj.CAL_LINK_CLEAR,
  Obj.CAL_LINK_BANDS,
  Obj.CAL_TRIM_SOAK,
  Obj.CAL_TRIM_RUN,
  Obj.CAL_TRIM_REASON]

def objTable4c : List ObjRow := [
  Obj.CAL_TRIM_MAX,
  Obj.CAL_TRIM_OFFSET,
  Obj.CAL_STORES,
  Obj.CAL_STORE_FAILS,
  Obj.DEV_PART,
  Obj.DEV_ORDER_CODE,
  Obj.DEV_STEPPING,
  Obj.DEV_SERIAL,
  Obj.DEV_CERT,
  Obj.DEV_CA_CERT,
  Obj.ROLE_STATUS,
  Obj.SEC_CLIENT_ANCHOR,
  Obj.SEC_CLIENT_ROLES,
  Obj.SEC_SENDER_ALLOW,
  Obj.SEC_OPEN_FAILS,
  Obj.SEC_FW_REVOKED,
  Obj.SEC_FW_REVOKE,
  Obj.SEC_SAFETY_ANCHOR,
  Obj.MOD_ENABLE,
  Obj.MOD_SCK,
  Obj.MOD_DOSE_SAVE,
  Obj.MOD_LIFE_WARN,
  Obj.MOD_HEADROOM_MIN,
  Obj.MOD_SERVICE]

def objTable4d : List ObjRow := [
  Obj.MOD_ANCHOR,
  Obj.MOD_X0,
  Obj.MOD_Y0,
  Obj.MOD_STATE,
  Obj.MOD_SERIAL,
  Obj.MOD_SIZE,
  Obj.MOD_BURN,
  Obj.MOD_RATED,
  Obj.MOD_HEADROOM,
  Obj.MOD_BINDS,
  Obj.MOD_PKG_DIGEST,
  Obj.THERM_WARN,
  Obj.THERM_THROTTLE_START,
  Obj.THERM_THROTTLE_FULL,
  Obj.THERM_HYST,
  Obj.THERM_SPREAD_MAX,
  Obj.THERM_STAGE,
  Obj.THERM_HOTTEST,
  Obj.THERM_BROKEN,
  Obj.THERM_MOD_SHIFT,
  Obj.THERM_MOD_STALE,
  Obj.THERM_SD_TRIM,
  Obj.THERM_SITE_TEMP,
  Obj.THERM_SITE_MAX]

def objTable4e : List ObjRow := [
  Obj.THERM_ZONE_SITES,
  Obj.THERM_DIE_OFFSET,
  Obj.THERM_ZONE_FULL,
  Obj.THERM_ZONE_TEMP,
  Obj.THERM_MOD_OFFSET,
  Obj.THERM_MOD_TEMP,
  Obj.THERM_MOD_STATE,
  Obj.FLT_CFG,
  Obj.FLT_QUIET,
  Obj.FLT_STATE,
  Obj.FLT_EVENTS,
  Obj.FLT_SHADOW_COUNT,
  Obj.FLT_ASH,
  Obj.FLT_ASH_SEQ,
  Obj.FLT_ASH_PREV,
  Obj.FLT_CLEAR,
  Obj.FLT_INJECT,
  Obj.FLT_INJECT_CLEAR,
  Obj.FLT_UNCLEARED,
  Obj.FLT_ALM_STATE,
  Obj.FLT_LOG_GAP,
  Obj.FLT_REPORT_DROPS,
  Obj.FLT_WALL_LOG,
  Obj.FLT_WALL_SEQ]

def objTable4f : List ObjRow := [
  Obj.FLT_WALL_ALARM,
  Obj.UPD_STATE,
  Obj.UPD_BEGIN,
  Obj.UPD_IMAGE,
  Obj.UPD_VERIFY,
  Obj.UPD_VERIFY_RESULT,
  Obj.UPD_ACTIVATE,
  Obj.UPD_CONFIRM_WINDOW,
  Obj.UPD_CONFIRM_LEFT,
  Obj.UPD_FALLBACK,
  Obj.BOOT_ACTIVE_SLOT,
  Obj.BOOT_VERSION,
  Obj.BOOT_SVN_FUSED,
  Obj.BOOT_CFG_AREA,
  Obj.BOOT_CFG_FORMAT,
  Obj.BOOT_REASON,
  Obj.BOOT_RESET,
  Obj.BOOT_RELEASE_M,
  Obj.SVC_FRAMES,
  Obj.SVC_CRC_ERRORS,
  Obj.SVC_DROPS]

/-- The rows of chapters 14 to 18, in the tables' order. -/
def objTable4 : List ObjRow :=
  objTable4a ++ objTable4b ++ objTable4c ++ objTable4d ++ objTable4e ++ objTable4f

end Sys2Proof.Machine
end

