-- ==== Sys2Proof/Machine/Objects.lean ====
section
/-! DEFINITION. The whole object table and its lookups. -/

namespace Sys2Proof.Machine

/-- Every object of the manual. -/
def objTable : List ObjRow := objTable1 ++ objTable2 ++ objTable3 ++ objTable4

def findIn (ix sub : Nat) : List ObjRow → Option (ObjRow × Nat × Nat)
  | [] => none
  | r :: rs => match r.locate ix sub with
    | some (i, j) => some (r, i, j)
    | none => findIn ix sub rs

/-- The row, instance and element at an address; none: NO_OBJECT (R31). -/
def findObj (ix sub : Nat) : Option (ObjRow × Nat × Nat) := findIn ix sub objTable

/-- The row at a key. -/
def rowOfKey (key : Nat) : Option (ObjRow × Nat × Nat) := findObj (key / 256) (key % 256)

/-- The default at a key. -/
def defaultOfKey (key : Nat) : Int :=
  match rowOfKey key with
  | some (r, _, j) => r.default j
  | none => 0

/-- Rows with the limits of FLT_CFG, LAYER_FILL and others that two numbers do not say (check 6 of R37). -/
def chainCodes (v : Nat) : Bool := [0, 1, 2].all fun i => decide (v / 65536 ^ i % 65536 ≤ 0xCFFF)
def fieldsOk (r : ObjRow) (v : Nat) : Bool :=
  if r = Obj.COMMIT_SCOPE then v / 4 % 2 == 0 && decide (v < 2 ^ 22)
  else if r = Obj.ING_PORT ∨ r = Obj.CHIM_PORT_A ∨ r = Obj.CHIM_PORT_B then decide (v < 16) || v == 0xFF
  else if r = Obj.LAYER_BIND then decide (v < 8) || v == 0x10 || v == 0xFF
  else if r = Obj.LAYER_STILL_FORMAT then decide (v < 32) && v % 4 != 3 && v / 4 % 4 != 3
  else if r = Obj.LAYER_FILL ∨ r = Obj.COMP_BACKGROUND then chainCodes v
  else if r = Obj.TILE_WIDTH then v % 4 == 0
  else if r = Obj.LOOP_IN then decide (v < 0x50) || v == 0xFF
  else if r = Obj.LOOP_OUT then decide (v < 8) || decide (0x10 ≤ v ∧ v < 0x28) || v == 0xFF
  else if r = Obj.FLT_CFG then v / 2 ^ 24 != 0 && v / 256 % 65536 != 0
  else if r = Obj.CAL_PATTERN_SHOW then decide (v ≤ 32) || v == 0xFF
  else if r = Obj.SCAN_OPEN_CLEAR then decide (v < 256) || v == 0xFFFF
  else if r.ty = .time96 then decide (v / 2 ^ 18 % 2 ^ 30 ≤ 999999999)
  else true

/-- Check 6 of R37 on one value. -/
def ObjRow.inRange (r : ObjRow) (v : Int) : Bool := decide (r.lo ≤ v) && decide (v ≤ r.hi) && fieldsOk r v.toNat

/-- Every key of a row. -/
def ObjRow.keys (r : ObjRow) : List Nat :=
  (List.range r.ni).flatMap fun i => (List.range r.ns).map fun j => r.key i j

end Sys2Proof.Machine
end

