-- ==== Sys2Proof/Machine/StateSys.lean ====
section
/-! DEFINITION. State of the management side: power, clocks, pairs, engines, arbiters, sessions, commits, locks,
faults, boot flash, update and the service string (chapters 1, 2, 17 to 19). -/

namespace Sys2Proof.Machine

/-- Where the device stands in Table 18-2: PORST_N asserted (or a rail below its threshold), the boot ROM's service
responder without management firmware (R416, R420), or management firmware running. -/
inductive Phase where
  | inReset | responder | running
deriving DecidableEq, Repr

/-- The role latched under R1. -/
inductive DevRole where
  | tile | sender
deriving DecidableEq, Repr

/-- A running clock: `base` is its value at `at_`, in 2^-46 ns, and it gains `rate` (the ADDEND of R213, R214) per
time-base cycle. -/
structure Clock where
  base : Nat := 0
  at_ : Cyc := 0
  rate : Nat := 46912496118443
deriving DecidableEq, Repr

/-- A lockstep pair's restart record (R11, R14, R15): stamps of its recent restarts, and whether it still restarts and
when it last came back. DEV_PAIR_*_STATE and _RESTARTS are dictionary objects. -/
structure PairRec where
  recent : List Cyc := []
  since : Cyc := 0
deriving DecidableEq, Repr

/-- An engine retired during frame `frame` whose share `spare` takes over at the first boundary at least 20 us after
`at_` (R19); none where no spare is left (R22). -/
structure Takeover where
  pe : Nat
  spare : Option Nat
  at_ : Cyc
  frame : Nat
deriving DecidableEq, Repr

/-- One arbiter (R26, R27): the grant count, the owner, the raise time of each raised input, and when each was last served. -/
structure Arb where
  count : Nat := 0
  owner : Option Nat := none
  raised : List (Nat × Cyc) := []
  served : List (Nat × Cyc) := []
deriving DecidableEq, Repr

/-- Power, clocks, pairs, engines, arbiters and JTAG. `pllLost` lists the PLLs out of lock with the instant of loss;
`tbStart` is when the time base started (counter 0); `grantAtC` and `heldGrants` are captured when pair C enters reset (R12):
the tile grant in force and the zone grants staged, (mW, charge units) by zone; `loading` says that pair M starts and has
not yet loaded a configuration (R417); `porstLow` and `railLow` are the two causes of reset, and `ioLow` says that
VDDIO_1V8 is among the rails below their threshold (R451), `testEn` that TEST_EN is high, which holds the device in reset
(R443); `channels` gives each channel of the external memory the density that trained, none where it did not (R92). -/
structure Sys where
  phase : Phase := .inReset
  porstLow : Bool := true
  railLow : Bool := false
  ioLow : Bool := false
  testEn : Bool := false
  straps : Nat := 0
  serviceHold : Bool := false
  loading : Bool := false
  pllLost : List (Pll × Cyc) := []
  tbStart : Cyc := 0
  pairM : PairRec := {}
  pairC : PairRec := {}
  grantAtC : Nat := 0
  heldGrants : List (Nat × Nat) := []
  configAt : Option Cyc := none
  engineCe : List (Nat × Nat) := []
  takeovers : List Takeover := []
  uncovered : List Nat := []
  arbs : List (Nat × Arb) := []
  jtag : Nat := 3
  channels : List (Option Nat) := []
  composing : Bool := false
  dataPlane : Bool := false
deriving DecidableEq, Repr

/-- A value of a READ reply in its wire form (Table 2-1): `width` bytes of a number, a STR, a BLOB window. -/
inductive RVal where
  | num (width : Nat) (v : Int)
  | str (b : List Byte)
  | window (off : Nat) (b : List Byte)
deriving DecidableEq, Repr

/-- A reply as sent: header status and payload entries, or what a DESCRIBE or an OPEN answers, and the commit ID that a
COMMIT assigns. -/
structure Reply where
  status : Nat
  payload : List (Nat × Option RVal) := []
  info : List Int := []
  id : Nat := 0
deriving DecidableEq, Repr

/-- A session slot (R39 to R46). `st` is Table 2-6's STATE; `seq` the last SEQ accepted, `oneWay` the last taken of
the messages without reply; `own` the device's own SEQ; `anchor` the issuer key it was verified with; the commit
objects 0x1F00.00 to .03 are held per session (Table 2-10). `busy` is a request whose reply waits for an event, with its
opcode and the reply prepared; `closing` a session that accepts only CLOSE (R45). -/
structure Session where
  st : Nat := 0
  role : SessRole := .observer
  transport : Transport := .mgmt
  epoch : Nat := 0
  cert : Nat := 0
  anchor : Nat := 0
  seq : Nat := 0
  oneWay : Nat := 0
  own : Nat := 0
  cached : Option (Nat × Reply) := none
  busy : Option (Nat × Reply) := none
  closing : Bool := false
  lastMsg : Cyc := 0
  keys : Nat × Nat := (0, 0)
  scope : Nat := 0
  chims : Nat := 0
  flags : Nat := 4
  target : Nat := 0
deriving DecidableEq, Repr

/-- An armed set (R48, R50): the snapshot of the shadows of every RWS object of its scope. -/
structure ArmedSet where
  id : Nat
  scope : Nat
  target : Nat
  gen : Nat
  nums : List (Nat × Int)
  blobs : List Host.Cell
  size : Nat
deriving DecidableEq, Repr

/-- The sender's wall-wide commit (R52, R53): whether it may still apply, the tiles that have not replied, those that have
replied ARMED, and those left out. -/
structure WallCommit where
  id : Nat
  scope : Nat
  mask : Nat
  target : Nat
  gen : Nat
  live : Bool
  waiting : List (Nat × Nat)
  armed : List (Nat × Nat)
  leftOut : List (Nat × Nat)
deriving DecidableEq, Repr

/-- ABORT copies still to send (R52 step 6), with the SEQ that every copy on a chimney carries. -/
structure AbortRun where
  id : Nat
  seqs : List (Nat × Nat)
  left : Nat
  next : Cyc
deriving DecidableEq, Repr

/-- A LOCK forwarded and granted for a client certificate (R63): chimney, tile, the session at the tile, and area. -/
structure FwdLock where
  cert : Nat
  chim : Nat
  tile : Nat
  session : Nat
  area : Nat
deriving DecidableEq, Repr

/-- A forwarded request whose reply changes the locks of R63: a LOCK, UNLOCK or CLOSE (opcode 0x30, 0x31, 0x02), also where
a write of a LOCK_CTRL entry carries it; `pos` is the byte of the reply that holds its status. -/
structure FwdAsk where
  op : Nat
  chim : Nat
  tile : Nat
  session : Nat
  area : Nat
  pos : Nat
deriving DecidableEq, Repr

/-- Sessions, commits, locks and saves. `nextId` numbers the commits; `waitExcept` lists the tiles whose 0x1F02 bit clears
with their STATUS (R472); `discarded` the keys of saved values that no range admits (R65); `fwd` are the locks of R63, `fwdOpen` the OPENs forwarded as (chimney, tile, certificate) without
their reply, `fwdSess` the certificate of each session at a tile, keyed by chimney * 2^16 + tile * 2^8 + session, `fwdAsk` the
requests whose reply is awaited; `saveAgain` is a save requested while one runs (R66); `autoDue` a change waiting for the
automatic save and `lastSave` when the last save began; `genAt` the boundary at which a wall-wide commit last set the
generation of a sender (R54). -/
structure Sess where
  slots : List (Nat × Session) := []
  armed : List ArmedSet := []
  nextId : Nat := 0
  walls : List WallCommit := []
  aborts : List AbortRun := []
  fwd : List FwdLock := []
  fwdOpen : List (Nat × Nat × Nat) := []
  fwdSess : List (Nat × Nat) := []
  fwdAsk : List FwdAsk := []
  waitExcept : List (Nat × Nat) := []
  saveAgain : Bool := false
  autoDue : Bool := false
  lastSave : Cyc := 0
  genAt : Nat := 0
  discarded : List Nat := []
deriving DecidableEq, Repr

/-- A fault event waiting in the collector (R395): `wall` is the wall time of the stamp in 2^-18 ns. -/
structure FEvent where
  src : Nat
  unit : Nat
  value : Nat
  at_ : Cyc
  wall : Nat
  injected : Bool
deriving DecidableEq, Repr

/-- An Ash log entry (Table 17-3). -/
structure AshEntry where
  seconds : Nat
  tq : Nat
  ns : Nat
  injected : Bool
  source : Nat
  coincident : Bool
  severe : Bool
  wouldAct : Bool
  acted : Bool
  clear : Bool
  alarm : Bool
  chimney : Nat
  origin : Nat
  count : Nat
  unit : Nat
  value : Nat
deriving DecidableEq, Repr

/-- One side (real or shadow) of a source (R397, R403, R405): the state 0 clear, 1 raised, 2 severe; the last N stamps,
newest first, in 2^-18 ns; the last event; the last entry logged and the events since; the unit and the instant of the
severe event; and whether its reactions were started. -/
structure Side where
  state : Nat := 0
  ring : List Nat := []
  last : Cyc := 0
  logged : Option Cyc := none
  count : Nat := 0
  unit : Nat := 0
  since : Cyc := 0
  acts : Bool := false
deriving DecidableEq, Repr

/-- A FAULT entry waiting (R406), and whether each port has sent it. -/
structure Report where
  entry : AshEntry
  at_ : Cyc
  sent0 : Bool := false
  sent1 : Bool := false
deriving DecidableEq, Repr

/-- The collector (R394 to R407). Sources are keyed by number; `conds` lists the held conditions as source * 65536 +
unit; `queue` the events not yet handled; `reports` the FAULT entries waiting (R406); `recent` the FAULT packets taken
in the last 10 ms (R407) as (chimney * 256 + SRC, entry, instant); `wallSeen` the last ALARM entry of each tile,
chimney * 256 + tile; `prev` the saved log found at power-on; `alarmAt` the start or last repeat of the alarm. -/
structure Flt where
  running : Bool := false
  real : List (Nat × Side) := []
  shadow : List (Nat × Side) := []
  conds : List Nat := []
  queue : List FEvent := []
  ash : List AshEntry := []
  lastAlarm : List (Nat × AshEntry) := []
  reports : List Report := []
  wallLog : List AshEntry := []
  recent : List (Nat × Nat × Cyc) := []
  wallSeen : List (Nat × Cyc) := []
  ashSaved : Option Cyc := none
  ashDue : Bool := false
  shutLogged : Bool := false
  fltN : Bool := false
  almAlarm : Bool := true
  haltStrands : List Nat := []
  haltAll : Bool := false
  prev : Option (Nat × List AshEntry) := none
  alarmAt : Cyc := 0
deriving DecidableEq, Repr

/-- The kinds of stored record (Table 14-6) as this model keeps their payloads: a boot record (ACTIVE, PREVIOUS, STATE
of three components), a configuration (FORMAT, numbers, blobs, Hearth image), link bands, trim
offsets, an Ash log, and the module records of chapters 14 and 15. Their bytes are those of Record.lean. -/
inductive Payload where
  | boot (c : List (Nat × Nat × Nat))
  | config (format : Nat) (nums : List (Nat × Int)) (blobs : List Host.Cell)
      (hearth : List Host.Cell)
  | link (bands : List Nat)
  | trim (offsets : List Int)
  | ash (seq : Nat) (log : List AshEntry)
  | field (set : Nat) (f : FieldSet)
  | dose (serial : Nat) (d : List Nat)
  | burn (serial burn powered : Nat)
deriving DecidableEq, Repr

/-- A slot of a slot pair (R355, R356): its GEN and record; none where not valid. -/
abbrev Slot := Option (Nat × Payload)

/-- A store on a flash device (R356): the pair it writes, the slot where it is fixed beforehand (R424), the record. -/
structure Store where
  region : Nat
  slot : Option Nat
  payload : Payload
deriving DecidableEq, Repr

/-- An image slot's component: its header fields and the body digest check (Table 18-3). -/
structure ImageHdr where
  component : Nat
  key : Nat
  svn : Nat
  cfgFormat : Nat
  version : Nat
  length : Nat
deriving DecidableEq, Repr

/-- Non-volatile memory: slot pairs by region (1 boot record, 2 link, 3 trim, 4 Ash, 5 configuration, and 16 + 8 m + k
for the store of module m), image bytes by slot, the valid component images, fuses, revoked keys, whether the retired
list clears at the next power-on, and the stores in progress and waiting by device (0 boot flash, 1 + m module m). -/
structure Nv where
  slots : List (Nat × Slot × Slot) := []
  images : List Host.Cell := []
  valid : List (Nat × ImageHdr) := []
  fuses : List Nat := [0, 0, 0]
  revoked : Nat := 0
  retired : List Nat := []
  clearRetired : Bool := false
  busy : List (Nat × Store) := []
  waiting : List (Nat × Store) := []
deriving DecidableEq, Repr

/-- Update in progress (R421 to R425): the mask, the kernel target, loading progress and the first frame on the new
set, when UPD_ACTIVATE came, the clean kernel frames, and which components have met or restarted since. `running` is the slot of each component. -/
structure Upd where
  running : List Nat := [0, 0, 0]
  mask : Nat := 0
  target : Nat := 0
  loaded : Bool := false
  swapped : Bool := false
  swapAt : Nat := 0
  started : Cyc := 0
  cleanFrames : Nat := 0
  runC : Option Cyc := none
  runM : Option Cyc := none
  savedOwn : Bool := false
  window : Bool := false
  revertKernel : Bool := false
  svc : List Cyc := []
deriving DecidableEq, Repr

end Sys2Proof.Machine
end

