-- ==== Sys2Proof/Machine/StateFlue.lean ====
section
/-! DEFINITION. State of the Flue ports, chimneys and paths (chapters 6 to 8). -/

namespace Sys2Proof.Machine

/-- What a transmitter answers to a lane's coefficient requests (Table 6-3): PRE_STAT, POST_STAT, PRESET_DONE. -/
structure CoefStat where
  pre : Nat := 0
  post : Nat := 0
  preset : Bool := false
deriving DecidableEq, Repr

/-- A packet that waits for egress: class, blocks (1 + LEN), destination, when it was queued, TYPE and fields; `last` the
session whose reply waits until it has left both ports (R341), `path` a PATH bit that is not the port's own (R219). -/
structure OutPkt where
  cls : Nat
  blocks : Nat
  dst : Nat
  at_ : Cyc
  typ : Nat
  words : List Int
  path : Option Bool := none
  last : Option Nat := none
deriving DecidableEq, Repr

/-- One Flue port. Transmission: since when the lanes carry blocks (SEQ and TX_CMD 3 count from there), whether it wakes from
standby, and whether TX_CMD has put it in the far-end loop (R160). Training (R147 to R157): when the stage began and its
groups, the retry, consecutive failures, lanes with block lock, the far receiver's state and since when it is ready, the last
valid training block, the answers to the far receiver's coefficient requests and the port's own requests (R152), the last
eye, and a wake from standby. Line code (R140, R161): each physical lane's last 58 line bits, and each lane's PRBS31
reference with the blocks seen. Clocking (R142 to R145): clock lane lost, each lane's last phase step, and a frame lost to a
realignment. Framing (R169 to R173): runs of good and bad MARKERs, the last FSEQ, the TYPE of the packet in progress with
the data blocks it still needs and whether the tile takes it, the residence time to add to its CORR, the run of ERROR positions and R196's
broken mark. -/
structure Port where
  txSince : Cyc := 0
  txWake : Bool := false
  byCmd : Bool := false
  stageAt : Cyc := 0
  groups : Nat := 0
  inFrame : Bool := false
  retryAt : Option Cyc := none
  fails : Nat := 0
  locks : List Nat := []
  farState : Option Nat := none
  farReady : Option Cyc := none
  lastTrain : Cyc := 0
  stats : List (Nat × CoefStat) := []
  asks : List (Nat × CoefAsk) := []
  eye : Nat := 0
  wakeAt : Option Cyc := none
  upSince : Option Cyc := none
  scr : List (Nat × Nat) := []
  prbs : List (Nat × Nat × Nat) := []
  clockLost : Bool := false
  stepAt : List (Nat × Cyc) := []
  eyeAt : List (Nat × Cyc) := []
  spoilt : Bool := false
  good : Nat := 0
  bad : Nat := 0
  fseq : Option Nat := none
  typ : Nat := 0
  need : Nat := 0
  mine : Bool := false
  tileSrc : Bool := false
  corr : Option Int := none
  errRun : Nat := 0
  broken : Bool := false
deriving DecidableEq, Repr

/-- A port's egress side. At a sender (R180 to R185): packets waiting, the link busy until, the end of the last line packet,
the allowance (below 0 where classes 6 and 7 have taken more) with the ticks that it counts since the boundary at `since`, the
start of the last gap, the next line packet, and the last class-7 start. At a tile (R186 to R188): the checked positions that
wait in the relay, the sent positions of the current link frame, its FSEQ, each lane's last 58 line bits, positions still to
add or delete, gaps since one was used, and the frames since the last training group. -/
structure Egress where
  queue : List OutPkt := []
  busy : Cyc := 0
  lineEnd : Option Cyc := none
  allow : Int := 0
  ticks : Nat := 0
  since : Cyc := 0
  gapAt : Option Cyc := none
  lineAt : Nat := 0
  last7 : Option Cyc := none
  relay : List (Bool × Nat) := []
  part : List (Bool × Nat) := []
  fseq : Nat := 0
  scr : List (Nat × Nat) := []
  owed : Int := 0
  sinceGap : Nat := 127
  sinceGroup : Nat := 64
deriving DecidableEq, Repr

/-- A link calibration run (R352): its start, band, takeovers and realignments at the start, and per lane the fresh
eyes taken and the least; whether it started by itself, `next` the earliest automatic retry, and since when the
direction is up in forwarded clocking within one band (R353). -/
structure LinkRun where
  active : Bool := false
  start : Cyc := 0
  band : Nat := 0
  ok : Bool := true
  clockOk : Bool := true
  bandOk : Bool := true
  eyes : List (Nat × Nat) := []
  least : List (Nat × Nat) := []
  auto : Bool := false
  next : Cyc := 0
  steady : Cyc := 0
deriving DecidableEq, Repr

/-- The sender's view of a mapped tile (R185, R209, R331 to R336, R367): the latest STATUS and when it came; packets
sent and freed per counter (a7 a6 a0 b7 b6 b0); when its map entry came into force; whether it has been reachable;
session 0 as the sender knows it; the latest POWER_REPORT. -/
structure TileView where
  status : Option StatusPkt := none
  statusAt : Cyc := 0
  sent : List Nat := [0, 0, 0, 0, 0, 0]
  freed : List Nat := [0, 0, 0, 0, 0, 0]
  entryAt : Option Cyc := none
  reached : Bool := false
  lost : Bool := false
  silent : Bool := false
  s0open : Bool := false
  s0epoch : Nat := 0
  s0seq : Nat := 0
  report : Option PowerReport := none
  reportWfc : Nat := 0
  reportMissing : Bool := false
  ct : Nat := 0
deriving DecidableEq, Repr

/-- A chimney at the sender: the path A ASSIGN that has left and not returned, the last assignment, forwarded messages
waiting with their segments (R183), segments sent this frame, line packets to withhold (late or by R19, R22) in the
current frame, and the sender's last SEQ in session 0 of its tiles (R45). -/
structure Chim where
  left : Option Cyc := none
  lastAssign : Option Cyc := none
  fwd : List (Nat × Msg × Nat) := []
  segs : Nat := 0
  skip : List (Nat × Nat) := []
  seq : Nat := 0
deriving DecidableEq, Repr

/-- One copy of a line (R199, R200): 0 pending, 1 intact, 2 damaged, 3 absent, with its deadline and content. -/
structure Copy where
  st : Nat := 0
  at_ : Cyc := 0
  spans : List (Nat × Nat) := []
  px : List (Nat × Nat × Nat) := []
deriving DecidableEq, Repr

/-- A line of an open frame: its two copies, the deadline of a failed preferred copy, and the decision (0 path A, 1 path B,
2 lost on both). -/
structure LineRx where
  a : Copy := {}
  b : Copy := {}
  failAt : Option Cyc := none
  pick : Option Nat := none
deriving DecidableEq, Repr

/-- A frame open for reception (R198). -/
structure RxFrame where
  k : Nat
  closeAt : Cyc
  lines : List (Nat × LineRx) := []
deriving DecidableEq, Repr

/-- A line's held content (R202) and the close of the last frame in which a copy was selected (R206). -/
structure HeldLine where
  spans : List (Nat × Nat) := []
  px : List (Nat × Nat × Nat) := []
  selAt : Option Cyc := none
deriving DecidableEq, Repr

/-- The tile's paths (chapter 8): A- and B-address (R124), the enabled-entry bit delivered with the address, a change
waiting for the boundary, the usable marks last seen, preference, hold-off, returns, open frames, held lines and the frame
from which they start black (R202), path state, skews in cycles, STATUS timing (R208), BOOT and unaddressed reports, credits freed and last sent (R185). -/
structure Paths where
  aAddr : Option Nat := none
  bAddr : Option Nat := none
  aOn : Bool := false
  bOn : Bool := false
  usableA : Bool := false
  usableB : Bool := false
  prefB : Bool := false
  holdoff : Option (Cyc × Nat) := none
  returns : List Cyc := []
  frames : List RxFrame := []
  lines : List (Nat × HeldLine) := []
  blackFrom : Option Nat := none
  hold : Bool := false
  fade : Bool := false
  dark : Bool := false
  skews : List Int := []
  statusAt : Option Cyc := none
  statusDue : Bool := false
  bootUntil : Option Cyc := none
  booted : Bool := false
  unaddrAt : Option Cyc := none
  freed : List Nat := [0, 0, 0, 0, 0, 0]
  creditSent : List Nat := [0, 0, 0, 0, 0, 0]
  creditDue : Option Cyc := none
  closed : Nat := 0
  closedAny : Bool := false
deriving DecidableEq, Repr

/-- A message under reassembly (R175). -/
structure Asm where
  src : Nat
  pathB : Bool
  msgId : Nat
  next : Nat
  start : Cyc
  bytes : List Byte
deriving DecidableEq, Repr

/-- Ports, chimneys, the sender's views of tiles (chimney * 256 + address), paths, and CTRL reassembly: copies being
assembled, copies whose first segment was refused, messages passed to pair M lately, and copies lost. -/
structure Flue where
  ports : List (Nat × Port) := []
  egress : List (Nat × Egress) := []
  runs : List (Nat × LinkRun) := []
  chims : List (Nat × Chim) := []
  tiles : List (Nat × TileView) := []
  paths : Paths := {}
  asm : List Asm := []
  refused : List (Nat × Bool × Nat) := []
  passed : List (Nat × Nat × Cyc) := []
  failed : List (Nat × Nat × Cyc) := []
  received : List (Nat × Nat × List Byte) := []
  msgId : Nat := 0
deriving DecidableEq, Repr

end Sys2Proof.Machine
end

