-- ==== Sys2Proof/Machine/StateLight.lean ====
section
/-! DEFINITION. State of the lamps: lamp correction, strands, scan, loops, Damper and power (chapters 10 to 13). -/

namespace Sys2Proof.Machine

/-- A drive code (R246, R268): width, step and PROBE. -/
structure Code where
  w : Nat := 0
  s : Nat := 7
  probe : Bool := false
deriving DecidableEq, Repr

/-- What a tile keeps for one lamp: the state word of Table 10-4 (residual, previous step, PULSE_AGE), the aging gain in
Q2.14, the dose accumulator in 2^-24 full-scale seconds and the folded dose in whole seconds (R244, R378). -/
structure Lamp where
  res : Int := 0
  step : Nat := 7
  age : Nat := 0
  gain : Nat := 16384
  dose : Nat := 0
  table : Nat := 0
deriving DecidableEq, Repr

/-- A drive buffer (R254): its frame, the code of each lamp (keyed by `lampKey`), and the plan it was computed under. -/
structure DriveBuf where
  frame : Option Nat := none
  codes : List (Nat × Code) := []
  rate : Nat := 8
  scan : Nat := 3
deriving DecidableEq, Repr

/-- What a frame takes at its boundary (R235): ceilings, zone grants in charge units, tile grant and its GSEQ, and the
configuration in force, from which its plan comes; `pattern` is the module and index of a pattern shown (R340). -/
structure Latch where
  frame : Nat
  at_ : Cyc
  ceil : List Nat
  grants : List Nat
  tileGrant : Nat
  gseq : Nat
  conf : List (Nat × Int)
  pattern : Option (Nat × Nat) := none
deriving DecidableEq, Repr

/-- One pixel of a frame in processing: place, zone, protected mark, bound module, repeat of the previous codes (R19,
R242), in service (R381), pattern shown on it (R340), the targets after stage 4 and whether stage 3 left 0. -/
structure PxItem where
  x : Nat
  y : Nat
  zone : Option Nat
  prot : Bool
  mod : Option Nat
  again : Bool
  dark : Bool
  pattern : Option Nat
  t : List Nat
  zero : List Bool
deriving DecidableEq, Repr

/-- The outcome of a pass for one pixel: codes, final demands v, and the lamps clipped. -/
structure PxOut where
  codes : List Code
  v : List Int
  clips : Nat
deriving DecidableEq, Repr

/-- The pixels of one content with the pass kept for each, the zones' first-pass demands (total, protected), and the clips
of every stage and pass so far. -/
structure LampRes where
  items : List PxItem
  outs : List PxOut
  demand : List (Nat × Nat)
  scale : List (Option (Nat × Nat))
  clips : Nat
deriving DecidableEq, Repr

/-- A frame in processing (R235): its latch, the working sets it reads, each with its module and the width of its rectangle, the new content and, during a rate-change hold,
the held content; `first` when the first pass is done. -/
structure LampJob where
  latch : Latch
  start : Cyc
  sets : List (Nat × Nat × TempSet)
  fresh : LampRes
  held : Option LampRes
  first : Bool
  done : Bool
deriving DecidableEq, Repr

/-- The lamp engines. `content` keeps the settled lines of the last frame closed and `before` of the one before it (the
two frame buffers); `hold` is a rate-change hold (R131): its target k and the content of frame k - 1. `deadline` is
the last frame whose drive deadline passed, `computed` the last frame for which zone grants were computed, `trimmedQ`
the zone demand after the zone check by frame, `lastDemand` the newest processed frame with its Q_z and Q_p; `quota` the
working-set builds that this frame period may start (R241) and `starts` those that it has started. -/
structure LampSt where
  lamps : List (Nat × Lamp) := []
  bufs : List (Nat × DriveBuf) := []
  latches : List Latch := []
  job : Option LampJob := none
  content : List (Nat × HeldLine) := []
  before : List (Nat × HeldLine) := []
  hold : Option (Nat × List (Nat × HeldLine)) := none
  deadline : Option Nat := none
  trimmedQ : List (Nat × List Nat) := []
  lastDemand : Option (Nat × List (Nat × Nat)) := none
  lastTrim : List Nat := []
  resolved : Bool := false
  sweepAt : Cyc := 0
  foldAt : Cyc := 0
  starts : Nat := 0
  quota : Nat := 2
  errors : List (Nat × Nat) := []
  capSeen : List Nat := []
deriving DecidableEq, Repr

/-- The cell shapes of Table 11-1. -/
inductive Cell where
  | z | m | o
deriving DecidableEq, Repr

/-- A visit of a pass as the scan sequencer drives it: its row, the symbol in the slot after it, and the SCN edges of the row
in ps after the visit's first cell leaves STO, none where there is no such edge (R288 to R290). -/
structure Visit where
  row : Nat
  slot : List Cell
  rise : Option Int
  fall : Option Int
deriving DecidableEq, Repr

/-- A strand frame that is out: its frame number, when its lead left, its shares, and its cells (R266). -/
structure SentFrame where
  frame : Nat
  at_ : Cyc
  drivers : Nat
  cells : Nat
deriving DecidableEq, Repr

/-- One strand at the tile (chapter 11): the strand frame out that has not returned; whether a frame with valid codes went
since the last HALT; when the ENUM that is out was called for, whether it waits for its place (R262), and whether an ENUM has
returned; the CMD out (its payload, whether from STR_DRV_GO, when) and CMDs waiting; when STO is free of the symbols placed on
it (2^-18 ns); HALT in force; broken, and a BREAK seen since the frame left. -/
structure Strand where
  sent : Option SentFrame := none
  shown : Bool := false
  enumAt : Option Cyc := none
  enumWait : Bool := false
  known : Bool := false
  cmd : Option (Nat × Bool × Cyc) := none
  queue : List (Nat × Bool) := []
  free : Int := 0
  halted : Bool := false
  broken : Bool := false
  broke : Bool := false
deriving DecidableEq, Repr

/-- The scan sequencer (R229, R305, R306): the boundary whose scan runs, the frame presented, its plan and configuration,
the scan start (2^-18 ns), the passes started, SCN held inactive, and the last enumeration. -/
structure Scan where
  boundary : Option Nat := none
  frame : Option Nat := none
  rate : Nat := 8
  ratio : Nat := 3
  conf : List (Nat × Int) := []
  start : Int := 0
  pass : Nat := 0
  off : Bool := false
  enumAt : Option Cyc := none
deriving DecidableEq, Repr

/-- A loop slot (R311 to R325): section states (s1, s2), acc, out and set-point in Q4.44, the last input; a restart
waiting for the next sample with its start value (R318), a resume (R324) and a swap (R325) waiting for it; the
instant of the last sample (2^-18 ns) and the destination that it drove. -/
structure LoopSlot where
  sec : List (Int × Int) := []
  acc : Int := 0
  out : Int := 0
  sp : Int := 0
  y : Int := 0
  restart : Option Int := none
  resume : Bool := false
  swap : Bool := false
  last : Option Nat := none
  dest : Nat := 255
deriving DecidableEq, Repr

/-- A supply zone (R319 to R335): operator path in Q4.44, ceiling staged and in force, grants in mW and in charge units
staged and in force, the greatest voltage code of this frame period and of the last, current codes (sum, count) of this
frame period and of this scan and, of a finished scan, with its frame; the current input of R313; headroom collection of
this scan, run of frames without a status, whether the input is held; light and temperature inputs in Q4.44. -/
structure Zone where
  op : Int := 2 ^ 44
  staged : Nat := 32768
  inForce : Nat := 32768
  grantMw : Nat := 0
  grantQ : Nat := 0
  stagedMw : Nat := 0
  stagedQ : Nat := 0
  vNow : Nat := 0
  vLast : Nat := 0
  iFrame : Nat × Nat := (0, 0)
  iScan : Nat × Nat := (0, 0)
  iDone : Option (Nat × Nat × Nat) := none
  cur : Int := 0
  waiting : List Nat := []
  least : Option Nat := none
  noStatus : Nat := 0
  held : Bool := false
  light : Int := 0
  temp : Int := 0
deriving DecidableEq, Repr

/-- Loops, Damper and the power arbiter. `pwm` holds the code that a slot gave each TRIM output,
and the output's carried remainder, `pwmAt` when its last period started, and `driven` the outputs whose slot has sampled (R317). At a tile:
the pending grant (GSEQ, TARGET, mW), the newest GSEQ seen, the grant adopted for a coming frame, whether a sender grant
has been in force, the last frame whose zone grants were computed, and boundaries since the last POWER_GRANT; at a
sender: the GSEQ of each chimney, and the grants sent as (chimney, GSEQ, grants), newest first. -/
structure Power where
  slots : List (Nat × LoopSlot) := []
  zones : List (Nat × Zone) := []
  pwm : List (Nat × Nat × Nat) := []
  pwmAt : List (Nat × Cyc) := []
  driven : List Nat := []
  opAt : Cyc := 0
  monNext : Nat := 0
  monAt : Cyc := 0
  pendingGrant : Option (Nat × Nat × Nat) := none
  newest : Option Nat := none
  adopted : Option (Nat × Nat × Nat) := none
  granted : Bool := false
  computed : Option Nat := none
  sinceMsg : Nat := 0
  gseq : List (Nat × Nat) := []
  sentGrants : List (Nat × Nat × List Nat) := []
  zoneTempAt : Cyc := 0
deriving DecidableEq, Repr

end Sys2Proof.Machine
end

