-- ==== Sys2Proof/Machine/StateMod.lean ====
section
/-! DEFINITION. State of calibration, modules, identity and thermal protection (chapters 14 to 16). -/

namespace Sys2Proof.Machine

/-- A module position (R374 to R381, R240 to R243, R387): what the last poll found; the verified package in use with its
sets, field sets and stored histogram; the working set in force and the one being built; builds due; the temperature
(R387, 8 fraction bits below 0.125 degC), the driver temperatures of this scan, the last valid one; whether the package stands
as it was last polled, when that was, and the polls since binding; service (records to store, then dark); the rectangle dark; seconds bound, saves. `serial` is the serial bound or last bound. -/
structure Module where
  found : Option ModuleFound := none
  bound : Bool := false
  serial : Nat := 0
  digest : Nat := 0
  sets : List TempSet := []
  fields : List (Option FieldSet) := [none, none, none]
  badSets : List Nat := []
  active : Option TempSet := none
  building : Option TempSet := none
  due : Bool := false
  builtAt : Cyc := 0
  theta : Option Int := none
  temps : List (Nat × Int) := []
  tempAt : Option Cyc := none
  lost : Bool := false
  polled : Bool := false
  pollAt : Option Cyc := none
  firstPoll : Bool := false
  service : Bool := false
  dark : Bool := false
  boundAt : Cyc := 0
  secs : Nat := 0
  savedAt : Cyc := 0
  stores : Nat := 0
  slot : Option Nat := none
  noDose : Bool := false
deriving DecidableEq, Repr

/-- A recorded showing of a pattern (R340): scan start of its first frame (2^-18 ns), end of the last pass of its last
one, least and greatest temperature in 2^-8 of 0.125 degC, and whether a zone was trimmed. -/
structure Showing where
  start : Nat
  stop : Option Nat
  least : Int
  most : Int
  trimmed : Bool
deriving DecidableEq, Repr

/-- The photometric run (R339 to R350): the session slot and epoch that opened it; its module and kind; the pattern that frames
take from their boundary; showings by index, and the index whose showing runs; the frames whose zone check trimmed;
the pixels protected while a pattern was shown (as y * 512 + x); the codes of the white check and the doses at the
showing of a lamp's own colour, by `lampKey`; buffers as bytes at index * 2^20 + offset (unlisted: not written); pixels
solved; results (reason code, residual figure) by y * 512 + x; its histogram, and the end asked for by an abort or a
change. Trim runs: the start and the soak temperature. -/
structure Cal where
  opener : Option (Nat × Nat) := none
  module : Nat := 0
  kind : Nat := 1
  pattern : Option Nat := none
  shown : List (Nat × Showing) := []
  showing : Option Nat := none
  trims : List Nat := []
  prot : List Nat := []
  white : List (Nat × Code) := []
  doses : List (Nat × Nat) := []
  bufs : List Host.Cell := []
  solved : Nat := 0
  results : List (Nat × Nat × Nat) := []
  hist : List Nat := []
  stop : Option Nat := none
  trimAt : Option Cyc := none
  soak : Int := 200
deriving DecidableEq, Repr

/-- The thermal hardware (R384 to R391): sites' last readings and when they were converted (none before the first conversion), consecutive far
conversions, votes; the stage that pair C has applied and since when runs are paused (R386); the latched shutdown; weak protection. -/
structure Thermal where
  last : List (Nat × Int) := []
  convAt : Option Cyc := none
  far : List (Nat × Nat) := []
  votes : List (Nat × Nat) := []
  applied : Nat := 0
  shutdown : Bool := false
  weak : Bool := false
  stageAt : Cyc := 0
  pausedAt : Option Cyc := none
deriving DecidableEq, Repr

/-- Modules, calibration, thermal, kept dose by serial (R379), OPENs of the last second (R365), and whether the tile
lights its lamps (R418). -/
structure Mods where
  mods : List (Nat × Module) := []
  cal : Cal := {}
  thermal : Thermal := {}
  kept : List (Nat × List (Nat × Nat)) := []
  opens : List Cyc := []
  lit : Bool := false
  lineSeen : Bool := false
deriving DecidableEq, Repr

end Sys2Proof.Machine
end

