-- ==== Sys2Proof/Machine/StateTime.lean ====
section
/-! DEFINITION. State of wall time and frame lock (chapter 9). Stamps, offsets and delays are in 2^-18 ns. -/

namespace Sys2Proof.Machine

/-- A tile's measurement of one path (R223, R224): A and HOPS of the last SYNC, its SEQ and when it came, HOPS of the last
DELAY_RESP, the last 16 sums (A + B), the last offset with its SEQ, and whether the path is fit. -/
structure TimePath where
  a : Option Int := none
  syncHops : Nat := 0
  last : Option (Nat × Cyc) := none
  respHops : Option Nat := none
  sums : List Int := []
  theta : Option (Nat × Int) := none
  fit : Bool := false
deriving DecidableEq, Repr

/-- The schedule (R226): anchor and rate code. -/
structure Schedule where
  k : Nat
  t : Int
  rate : Nat
deriving DecidableEq, Repr

/-- A foreign master (R216): its last Announce and when it came. -/
structure Foreign where
  ann : PtpAnnounce
  at_ : Cyc
deriving DecidableEq, Repr

/-- The PTP engine (R216): foreign masters, the one selected, a two-step Sync that waits for its Follow_Up (SEQ and
ingress stamp), the last Sync with its interval, Delay_Req sent (SEQ and egress stamp), the latest (t2 - t1), and the
master's Delay_Req interval. -/
structure Ptp where
  masters : List Foreign := []
  selected : Option Nat := none
  twoStep : Option (Nat × Nat × Int) := none
  syncAt : Option Cyc := none
  syncLog : Int := 0
  req : Option (Nat × Nat) := none
  seq : Nat := 0
  reqAt : Option Cyc := none
  masterLog : Int := -7
  forth : Option Int := none
  meanDelay : Option Int := none
deriving DecidableEq, Repr

/-- One time pulse output (R232): the settings in force, a change waiting for the end of a pulse, the instant after
which the next edge lies, and the end of the pulse running. -/
structure Tpo where
  mode : Nat := 0
  start : Nat := 0
  period : Nat := 0
  width : Nat := 0
  div : Nat := 1
  offset : Int := 0
  falling : Bool := false
  waiting : Bool := false
  after : Nat := 0
  pulse : Option Cyc := none
deriving DecidableEq, Repr

/-- Wall time and frame lock. When the last frame boundary was performed, and its instant in wall time; the schedule in force, the first boundary to perform after an adoption, the announced
schedules by target, one that replaces it at the next boundary (R228), and the ANCHOR
copies still to send, as (target, copies, next instant); the sender's source (consecutive good measurements, whether its
first offset may step, the pending steps with the sessions that wait for them, the frequency estimate, the FREF record); its
SYNC and ANCHOR sending (when each port last sent SYNC, the SEQ of SYNC and the ports that have sent it, the SEQ of ANCHOR, and the
WFC plus 1 at which each chimney last had the schedule in force); and the tile's paths, requests, differences, state counters and scan-phase counters. -/
structure Time where
  boundaryAt : Option Cyc := none
  boundary : Nat := 0
  sched : Option Schedule := none
  first : Option Nat := none
  announced : List Schedule := []
  replace : Option Schedule := none
  repeats : List (Nat × Nat × Cyc) := []
  good : Nat := 0
  mayStep : Bool := false
  filtered : Int := 0
  steps18 : List (Int × Cyc × Option Nat) := []
  estimate : Nat := 46912496118443
  ptp : Ptp := {}
  edgeAt : Option Int := none
  missed : Nat := 0
  placed : Bool := false
  syncAt : List (Nat × Cyc) := []
  syncSeq : Nat := 0
  syncPorts : List Nat := []
  anchorSeq : Nat := 0
  anchorSent : List (Nat × Nat) := []
  a : TimePath := {}
  b : TimePath := {}
  chimN : Nat := 0
  reqs : List (Nat × Nat × Nat) := []
  reqSeq : Nat := 0
  reqAt : Option Cyc := none
  diffs : List Int := []
  lastDiff : Option Nat := none
  steps : Option Nat := none
  far : Nat := 0
  stepped : Bool := false
  byAnchor : Bool := false
  phaseGood : Nat := 0
  phaseFar : Nat := 0
  fitSync : Option Cyc := none
  gap : Cyc := 0
  left : Nat := 0
  holdAt : Cyc := 0
  tpo : List (Nat × Tpo) := []
deriving DecidableEq, Repr

end Sys2Proof.Machine
end

