-- ==== Sys2Proof/Machine/StateVideo.lean ====
section
/-! DEFINITION. State of ingest, layers, composition and the Hearth layer (chapters 3 and 4). -/

namespace Sys2Proof.Machine

/-- A DATA packet held at a fence (R84), with its place in its plane and its CONSUMED. -/
structure HeldData where
  consumed : Nat
  buf : Nat
  gen : Nat
  plane : Nat
  line : Nat
  offset : Nat
  bytes : List Byte
deriving DecidableEq, Repr

/-- A PUBLISH waiting for the packets before it (R79). -/
structure PubWait where
  port : Nat
  seq : Nat
  buf : Nat
  gen : Nat
  frameNo : Nat
deriving DecidableEq, Repr

/-- A source slot (R74 to R89). `gens` holds each buffer's GEN; `order` the published buffers, oldest first, whose last
is the newest published; `fetching` the buffers whose fetch is incomplete (R83); `fault` the PUBLISH_NAK reason that the
open buffer has earned; `waiting` the PUBLISHes that wait for held packets before them (R79); `accepted` the GEN of each
buffer's last accepted PUBLISH; `newAt` the publishes that no boundary has counted yet, with their instants (R85); `epoch`
counts the configurations (R89), and `leaving` lists buffers of earlier ones whose fetch is incomplete, as (epoch, buffer). -/
structure IngSlot where
  streaming : Bool := false
  opened : Option Nat := none
  gens : List (Nat × Nat) := []
  order : List Nat := []
  fetching : List Nat := []
  consumed : Nat := 0
  freed : Nat := 0
  creditSent : Nat := 0
  creditAt : Cyc := 0
  fault : Option Nat := none
  written : Nat := 0
  taken : Bool := false
  held : List HeldData := []
  waiting : List PubWait := []
  accepted : List (Nat × Nat) := []
  lastPub : Option Cyc := none
  newAt : List (Nat × Cyc) := []
  epoch : Nat := 0
  leaving : List (Nat × Nat) := []
  stale : Bool := false
deriving DecidableEq, Repr

/-- A still layer (R88): its front buffer (0 or 1), the back buffer being the other; whether the front was published
since the format was committed; a publish waiting for the boundary; writes held at a fence (session, buffer, offset, bytes); and the
buffers whose fetch is incomplete. `epoch` counts reallocations: a new one has undefined content (R89). -/
structure Still where
  front : Nat := 0
  shown : Bool := false
  publish : Bool := false
  held : List (Nat × Nat × Nat × List Byte) := []
  fetching : List Nat := []
  epoch : Nat := 0
deriving DecidableEq, Repr

/-- What a layer shows in the frame being composed (R85, R86, R106): nothing, or the buffer `buf` with GEN `gen`;
`dead` lists the 64-byte units lost under R107 as (plane, line, unit); `notReadySeen` is R86's first-frame latch. -/
structure LayerRun where
  showing : Option Nat := none
  fill : Bool := false
  dead : List (Nat × Nat × Nat) := []
  notReadySeen : Bool := false
deriving DecidableEq, Repr

/-- The Hearth layer's images as sparse bytes (R108; an unlisted byte reads as a fully transparent image, log 11), front in two copies. `written` is a back image written since
the last swap; `copying` the copy after a swap; `held` image writes waiting for it; `bad` damaged words as copy * 2^20 +
word; `lost` words uncorrectable in both copies. -/
structure Hearth where
  front : List Host.Cell := []
  back : List Host.Cell := []
  written : Bool := false
  copying : Bool := false
  held : List (Nat × Nat × List Byte) := []
  bad : List Nat := []
  lost : List Nat := []
deriving DecidableEq, Repr

/-- Ingest and layers: slots 0 to 7, still layers and layers 0 to 14 by number, and the external memory that holds
buffers and still images (R71), one byte per physical address (`State.place`). -/
structure Video where
  slots : List (Nat × IngSlot) := []
  stills : List (Nat × Still) := []
  layers : List (Nat × LayerRun) := []
  mem : List Host.Cell := []
  hearth : Hearth := {}
deriving DecidableEq, Repr

end Sys2Proof.Machine
end

