-- ==== Sys2Proof/Machine/State.lean ====
section
/-! DEFINITION. The state of the XJ5120, the outcomes' reasons, and the machine right after reset. -/

namespace Sys2Proof.Machine

/-- Output pins whose edges this model records. -/
inductive Pin where
  | tpo (n : Nat) | trim (n : Nat) | sd (n : Nat) | fltN | alm
deriving DecidableEq, Repr

/-- What the device sends, as far as the manual gives it (log 2): replies and messages, ingest packets with their fields, Flue
packets and line packets block by block, link frames as they stand on the lanes, training blocks one slot at a time, strand
frames, SVC frames, PTP messages, and pin levels. -/
inductive Tx where
  | reply (via : Transport) (slot seq op : Nat) (r : Reply)
  | untagged (op status : Nat) (m : Msg)
  | fromTile (chim tile : Nat) (message : List Byte)
  | forward (op : Nat) (m : Msg)
  | toTiles (chim tile op seq : Nat) (words : List Int)
  | toSender (op : Nat) (words : List Int)
  | notify (slot event addr : Nat)
  | openTile (chim tile : Nat)
  | ingest (port typ buf gen val : Nat) (words : List Nat)
  | packet (port : Nat) (blocks : List (Bool × Nat))
  | line (port : Nat) (words : List Nat)
  | lanes (port : Nat) (blocks : List (List LaneBlock))
  | faultPkt (port origin : Nat) (e : AshEntry)
  | training (port : Nat) (slot : List Nat)
  | strand (n : Nat) (start : Int) (cells : List Cell)
  | scan (pass : Nat) (step tail : Int) (level : Nat) (visits : List Visit)
  | scnOff (start : Int)
  | svc (hop : Nat) (message : List Byte)
  | svcFwd (f : SvcFrame)
  | ptp (kind : Nat) (words : List Int)
  | pin (p : Pin) (level : Int)
  | jtag (code register : Nat)
  | flashErase (dev addr len : Nat)
  | flashWrite (dev addr : Nat) (bytes : List Byte)
deriving DecidableEq, Repr

/-- The machine stops with a fault. The manual gives every command an effect, so no meaning of this model raises it
(safe: a stop would only leave claims unproved). -/
inductive Fault where
  /-- Raised by no command. -/
  | none
deriving DecidableEq, Repr

/-- A command has no meaning. -/
inductive Refusal where
  /-- A command that this model does not yet give a meaning; raised by `exec` alone (safe). -/
  | notModelled (mnemonic : String)
deriving DecidableEq, Repr

/-- The whole machine. `dict` and `shadow` hold object values that differ from their defaults, keyed by index * 256 +
subindex; `blob` and `shadowBlob` the bytes of BLOB objects that differ from theirs, at key * 2^32 + offset. `out` is
what the device has sent, newest first, and `free` counts the free values drawn: both are the model's own (log 2, 3).
`pending` is the queue of commands. -/
structure State where
  now : Cyc := 0
  role : DevRole := .tile
  sys : Sys := {}
  clock : Clock := {}
  time : Time := {}
  dict : List (Nat × Int) := []
  shadow : List (Nat × Int) := []
  blob : List Host.Cell := []
  shadowBlob : List Host.Cell := []
  sess : Sess := {}
  flt : Flt := {}
  nv : Nv := {}
  upd : Upd := {}
  video : Video := {}
  flue : Flue := {}
  lamp : LampSt := {}
  strands : List (Nat × Strand) := []
  seq : Scan := {}
  power : Power := {}
  mods : Mods := {}
  out : List (Cyc × Tx) := []
  free : Nat := 0
  pending : List Instr := []
deriving DecidableEq, Repr

/-- The images that the manual takes to be in flash (R416: slot 0 where no boot record is valid) as they leave the
manufacturer: key 0, security version 0, configuration format 1 (log 40). Keys are slot * 4 + component. -/
def factoryImages : List (Nat × ImageHdr) :=
  [(0, { component := 0, key := 0, svn := 0, cfgFormat := 0, version := 0, length := 0 }),
   (1, { component := 1, key := 0, svn := 0, cfgFormat := 0, version := 0, length := 0 }),
   (2, { component := 2, key := 0, svn := 0, cfgFormat := 1, version := 0, length := 0 })]

/-- Right after reset: PORST_N asserted (R410), FLT_N low and ALM_P/N at alarm (R404), every object at its default
(R35), nothing queued and nothing sent. -/
def State.reset : State := { nv := { valid := factoryImages } }

end Sys2Proof.Machine
end

