-- ==== Sys2Proof/Machine/Ops.lean ====
section
/-! DEFINITION. The named operations over the machine's stores, dictionary values, time, faults and outputs.

Every store of the model is a list of (key, value) pairs in one canonical form: keys strictly rising, and no entry
equal to what an unlisted key reads as. -/

namespace Sys2Proof.Machine

/-! ### Stores -/

/-- The value at a key; `d` is what an unlisted key reads as. -/
def look {α : Type} (d : α) (k : Nat) : List (Nat × α) → α
  | [] => d
  | (a, v) :: m => if a = k then v else look d k m

/-- The store without a key. -/
def drop {α : Type} (k : Nat) : List (Nat × α) → List (Nat × α)
  | [] => []
  | (a, v) :: m => if a = k then drop k m else (a, v) :: drop k m

/-- The store with a key, in rising order. -/
def insertAt {α : Type} (k : Nat) (v : α) : List (Nat × α) → List (Nat × α)
  | [] => [(k, v)]
  | (a, w) :: m => if k ≤ a then (k, v) :: (a, w) :: m else (a, w) :: insertAt k v m

/-- A write that keeps the canonical form: writing the default removes the entry. -/
def put {α : Type} [DecidableEq α] (d : α) (k : Nat) (v : α) (m : List (Nat × α)) : List (Nat × α) :=
  if v = d then drop k m else insertAt k v (drop k m)

/-- Keys strictly rising from `lo`. -/
def risingFrom {α : Type} : Nat → List (Nat × α) → Bool
  | _, [] => true
  | lo, (a, _) :: m => decide (lo ≤ a) && risingFrom (a + 1) m

/-- The canonical form: keys strictly rising and no entry equal to its default. -/
def canonical {α : Type} [DecidableEq α] (d : Nat → α) (m : List (Nat × α)) : Bool :=
  risingFrom 0 m && m.all fun p => decide (p.2 ≠ d p.1)

/-! ### Bytes: memories are canonical lists of (address, byte) -/

/-- `n` bytes from an address; `d` gives what unlisted addresses read as. -/
def readBytes (d : Nat → Byte) (m : List Host.Cell) (a : Nat) : Nat → List Byte
  | 0 => []
  | n + 1 => look (d a) a m :: readBytes d m (a + 1) n

/-- Bytes written from an address upward. -/
def writeBytes (d : Nat → Byte) (m : List Host.Cell) (a : Nat) : List Byte → List Host.Cell
  | [] => m
  | b :: bs => writeBytes d (put (d a) a b m) (a + 1) bs

/-- The entries outside `[lo, hi)`. -/
def clearRange {α : Type} (lo hi : Nat) (m : List (Nat × α)) : List (Nat × α) :=
  m.filter fun p => decide (p.1 < lo) || decide (hi ≤ p.1)

/-- A big-endian number of `n` bytes (R32). -/
def toBytes (n v : Nat) : List Byte :=
  (List.range n).map fun i => BitVec.ofNat 8 (v / 256 ^ (n - 1 - i))

/-- The number that bytes spell, most significant first (R32). -/
def ofBytes (bs : List Byte) : Nat := bs.foldl (fun a b => a * 256 + b.toNat) 0

/-! ### Arithmetic -/

/-- ceil(a / b). -/
def ceilDiv (a b : Nat) : Nat := (a + b - 1) / b

/-- round(a / b), half upward, b > 0. -/
def roundDiv (a : Int) (b : Nat) : Int := (2 * a + b) / (2 * b : Nat)

/-- round(a / b) half away from zero (R467). -/
def roundAway (a : Int) (b : Nat) : Int :=
  if 0 ≤ a then (2 * a + b) / (2 * b : Nat) else -((2 * (-a) + b) / (2 * b : Nat))

def clampI (lo hi v : Int) : Int := if v < lo then lo else if hi < v then hi else v

/-- Bit `n` of a number. -/
def bit (v n : Nat) : Bool := v / 2 ^ n % 2 == 1

/-- A number with bit `n` set or cleared. -/
def setBit (v n : Nat) (b : Bool) : Nat :=
  if b then (if bit v n then v else v + 2 ^ n) else (if bit v n then v - 2 ^ n else v)

/-- The bits [hi:lo] of a number. -/
def bits (v hi lo : Nat) : Nat := v / 2 ^ lo % 2 ^ (hi + 1 - lo)

/-- floor(log2 v); 0 for 0. -/
def log2 (v : Nat) : Nat := Nat.log2 v

/-- Insert into a rising list without repeats. -/
def addMember (x : Nat) : List Nat → List Nat
  | [] => [x]
  | y :: ys => if x = y then y :: ys else if x < y then x :: y :: ys else y :: addMember x ys

/-- Element `i` of a list replaced. -/
def setAt {α : Type} : List α → Nat → α → List α
  | [], _, _ => []
  | _ :: xs, 0, y => y :: xs
  | x :: xs, i + 1, y => x :: setAt xs i y

def sumNat (l : List Nat) : Nat := l.foldl (· + ·) 0
def sumInt (l : List Int) : Int := l.foldl (· + ·) 0
def maxNat (l : List Nat) : Nat := l.foldl max 0

/-! ### Durations in time-base cycles of 2/3 ns (log 1) -/

def ms (n : Nat) : Cyc := n * 1500000
def us (n : Nat) : Cyc := n * 1500
def seconds (n : Nat) : Cyc := n * 1500000000

/-! ### Dictionary values -/

/-- The value in force of element `j` of instance `i`. -/
def State.rdAt (s : State) (r : ObjRow) (i j : Nat) : Int := look (r.default j) (r.key i j) s.dict
/-- The value in force of an object that is not an array. -/
def State.rd (s : State) (r : ObjRow) : Int := s.rdAt r 0 0
/-- The same as numbers, for objects whose type is unsigned. -/
def State.natAt (s : State) (r : ObjRow) (i j : Nat) : Nat := (s.rdAt r i j).toNat
def State.nat (s : State) (r : ObjRow) : Nat := (s.rd r).toNat
/-- Whether a BOOL object holds 1. -/
def State.flagAt (s : State) (r : ObjRow) (i j : Nat) : Bool := s.rdAt r i j == 1
def State.flag (s : State) (r : ObjRow) : Bool := s.flagAt r 0 0

/-- The value in force set. -/
def State.wrAt (s : State) (r : ObjRow) (i j : Nat) (v : Int) : State :=
  { s with dict := put (r.default j) (r.key i j) v s.dict }
def State.wr (s : State) (r : ObjRow) (v : Int) : State := s.wrAt r 0 0 v

/-- The shadow, and the shadow set (R47). -/
def State.shAt (s : State) (r : ObjRow) (i j : Nat) : Int := look (r.default j) (r.key i j) s.shadow
def State.setShAt (s : State) (r : ObjRow) (i j : Nat) (v : Int) : State :=
  { s with shadow := put (r.default j) (r.key i j) v s.shadow }

/-- A free value drawn (log 3): the manual leaves the value open. -/
def State.freeVal (s : State) : Nat := Config.freeNat s.free
def State.used (s : State) : State := { s with free := s.free + 1 }

/-- A refusal whose status the manual does not state: free among the codes of Table 2-9 other than OK (log 48). -/
def State.freeRefusal (s : State) : Nat × State := (1 + s.freeVal % 14, s.used)

/-- A count raised by `n`. The manual gives no rule for a count beyond its type's range: the value is then free
within that range (log 4). -/
def State.addTo (s : State) (r : ObjRow) (i j n : Nat) : State :=
  let v := s.rdAt r i j + n
  if v ≤ r.hi then s.wrAt r i j v else (s.wrAt r i j (s.freeVal % (r.hi.toNat + 1) : Nat)).used
def State.bumpAt (s : State) (r : ObjRow) (i j : Nat) : State := s.addTo r i j 1
def State.bump (s : State) (r : ObjRow) : State := s.bumpAt r 0 0

/-! ### Time -/

/-- The clock advanced to `t` in 2^-46 ns. -/
def Clock.read (c : Clock) (t : Cyc) : Nat := c.base + c.rate * (t - c.at_)
/-- WALL_TIME in 2^-18 ns, truncated. -/
def State.wall18 (s : State) : Nat := s.clock.read s.now / 2 ^ 28

/-- A time stamp (R214): the instant at which a block's first bit crosses the pin, within 5 ps on the device's own clock. A command
comes in a whole cycle of the time base; where in its 2/3 ns the crossing lies is free, with the 5 ps (log 148). -/
def State.stamp (s : State) : Int := s.wall18 + (s.freeVal % 177386 : Nat) - 1311

def State.setTime (s : State) (x : Time) : State := { s with time := x }
/-- The TIME96 encoding of an instant in 2^-18 ns (Table 2-1). -/
def time96 (w : Nat) : Nat :=
  w / (1000000000 * 2 ^ 18) * 2 ^ 48 + w % (1000000000 * 2 ^ 18)
/-- An instant in 2^-18 ns from its TIME96. -/
def ofTime96 (v : Nat) : Nat := v / 2 ^ 48 * (1000000000 * 2 ^ 18) + v % 2 ^ 48
/-- Time passes to `t`; an instant in the past changes nothing (log 1). -/
def State.upTo (s : State) (t : Cyc) : State := { s with now := max s.now t }

/-! ### Outputs -/

/-- The device sends something (log 2). -/
def State.send (s : State) (x : Tx) : State := { s with out := (s.now, x) :: s.out }
def State.sendAll (s : State) (l : List Tx) : State := l.foldl State.send s

/-! ### Faults: raising and holding (R394 to R396); the collector's own steps are in Faults.lean -/

/-- The sources that some table of the manual defines (R394). -/
def definedSource (src : Nat) : Bool :=
  decide (src ≤ 0x12) || (decide (0x20 ≤ src) && decide (src ≤ 0x29)) || (decide (0x30 ≤ src) && decide (src ≤ 0x3E))
  || (decide (0x40 ≤ src) && decide (src ≤ 0x55)) || (decide (0x60 ≤ src) && decide (src ≤ 0x67))
  || (decide (0x70 ≤ src) && decide (src ≤ 0x7F))

/-- A rule raises a source: the event joins the collector's queue, stamped with the wall time (R395). Before the
collector runs (Table 18-2) no event is taken. -/
def State.raise (s : State) (src unit value : Nat) : State :=
  if s.flt.running then
    { s with flt := { s.flt with queue := s.flt.queue ++
      [{ src := src, unit := unit, value := value, at_ := s.now, wall := s.wall18, injected := false }] } }
  else s

/-- A source's condition begins or ends for a unit (R396). -/
def State.hold (s : State) (src unit : Nat) (b : Bool) : State :=
  let key := src * 65536 + unit
  let conds := if b then addMember key s.flt.conds else s.flt.conds.filter fun c => decide (c ≠ key)
  { s with flt := { s.flt with conds := conds } }

/-- Whether any unit holds a source's condition. -/
def Flt.held (f : Flt) (src : Nat) : Bool := f.conds.any fun c => c / 65536 == src

/-- Raise and hold together, on entry into a state that lasts. -/
def State.raiseHeld (s : State) (src unit value : Nat) : State := (s.raise src unit value).hold src unit true

/-- The same where the condition's key is finer than the event's unit (a tile of a chimney). -/
def State.raiseFor (s : State) (src key unit value : Nat) : State := (s.raise src unit value).hold src key true

/-! ### Role and power -/

def State.isSender (s : State) : Bool := s.role == .sender
def State.isTile (s : State) : Bool := s.role == .tile

/-- The device is out of reset. -/
def State.live (s : State) : Bool := s.sys.phase != .inReset

/-- Pair M runs (0 running). -/
def State.pairMUp (s : State) : Bool := s.sys.phase == .running && s.rd Obj.DEV_PAIR_M_STATE == 0
def State.pairCUp (s : State) : Bool :=
  s.sys.phase != .inReset && s.rd Obj.DEV_PAIR_C_STATE == 0 && s.rdAt Obj.BOOT_ACTIVE_SLOT 0 1 != 0xFF

/-- A loss of lock of the core or time PLL holds the data plane (R25). -/
def State.held (s : State) : Bool := s.sys.pllLost.any fun q => q.1 == .core || q.1 == .time

/-- The configuration is in force (R417). -/
def State.configured (s : State) : Bool := s.sys.configAt.isSome

/-! ### The form of every meaning -/

/-- What no effect of a command moves: the clock of the model, the queue, and the levels of PORST_N and the rails. -/
def State.fixed (s r : State) : State :=
  { r with now := s.now, pending := s.pending,
           sys := { r.sys with porstLow := s.sys.porstLow, railLow := s.sys.railLow, ioLow := s.sys.ioLow } }

/-- A meaning's answer: time passes to `t` and the effect takes place; the role latch stands (only PORST_RELEASE and
BROWN_OUT_RECOVER sample ROLE_SEL, R2). While PORST_N is asserted nothing takes place (R410). -/
def State.run (s : State) (t : Cyc) (f : State → State) : Host.Outcome State Fault Refusal :=
  let s := s.upTo t
  .next (if s.live then { s.fixed (f s) with role := s.role } else s)

end Sys2Proof.Machine
end

