-- ==== Sys2Proof/Machine/Flags.lean ====
section
/-! DEFINITION. Check codes: the CRC of IEEE 802.3 (R109), and the CRCs that later chapters name by polynomial. -/

namespace Sys2Proof.Machine

/-- One bit of a reflected CRC with polynomial `p`. -/
def crcBitR (p crc : Nat) : Nat := if crc % 2 = 1 then Nat.xor (crc / 2) p else crc / 2

/-- One byte of a reflected CRC. -/
def crcByteR (p crc : Nat) (b : Byte) : Nat :=
  (List.range 8).foldl (fun c _ => crcBitR p c) (Nat.xor crc b.toNat)

/-- CRC-32 of IEEE 802.3: reflected polynomial 0xEDB88320, all ones at the start and inverted at the end (R109). -/
def crc32 (bs : List Byte) : Nat :=
  Nat.xor (bs.foldl (crcByteR 0xEDB88320) 0xFFFFFFFF) 0xFFFFFFFF

/-- A CRC of width `w` and polynomial `p` over bits, most significant first, from `init`, not reflected. -/
def crcBits (w p init : Nat) (bs : List Bool) : Nat :=
  bs.foldl (fun c b =>
    let top := c / 2 ^ (w - 1) % 2 == 1
    let c := c * 2 % 2 ^ w
    if top != b then Nat.xor c p else c) init

/-- The bits of an `n`-bit number, most significant first. -/
def bitsOf (n v : Nat) : List Bool := (List.range n).map fun i => bit v (n - 1 - i)

end Sys2Proof.Machine
end

