-- ==== Sys2Proof/Machine/Sessions.lean ====
section
/-! DEFINITION. Operations over session slots: reading and changing one, answering a request, ending a session. -/

namespace Sys2Proof.Machine

def State.session (s : State) (k : Nat) : Session := look {} k s.sess.slots
def State.setSession (s : State) (k : Nat) (x : Session) : State :=
  { s with sess := { s.sess with slots := put {} k x s.sess.slots } }

/-- The status codes of Table 2-9 that the meanings name. -/
def st.OK : Nat := 0x00
def st.BUSY : Nat := 0x01
def st.DENIED : Nat := 0x02
def st.NO_OBJECT : Nat := 0x03
def st.TYPE : Nat := 0x04
def st.RANGE : Nat := 0x05
def st.ACCESS : Nat := 0x06
def st.LOCKED : Nat := 0x07
def st.ORDER : Nat := 0x08
def st.LATE : Nat := 0x09
def st.REFUSED : Nat := 0x0A
def st.FULL : Nat := 0x0B
def st.SESSIONS_FULL : Nat := 0x0C
def st.UNREACHABLE : Nat := 0x0D
def st.ABORTED : Nat := 0x0E

/-- A session is open. -/
def Session.isOpen (x : Session) : Bool := x.st == 2

/-- Open session slots, lowest first. -/
def State.openSlots (s : State) : List Nat := (List.range 64).filter fun k => (s.session k).isOpen

/-- DICT_SESSIONS_OPEN follows the slots (Table 2-5). -/
def State.countSessions (s : State) : State := s.wr Obj.DICT_SESSIONS_OPEN s.openSlots.length

/-- Owner and owner epoch of an area's lock (Table 2-13); 0xFF: free. -/
def State.lockOwner (s : State) (area : Nat) : Nat := s.natAt Obj.LOCK_CTRL 0 area / 65536
def State.freeLock (s : State) (area : Nat) : State := s.wrAt Obj.LOCK_CTRL 0 area 0x00FF0000
def State.takeLock (s : State) (area slot : Nat) : State :=
  s.wrAt Obj.LOCK_CTRL 0 area (slot * 65536 + (s.session slot).epoch : Nat)

/-- The areas whose lock a session holds. -/
def State.locksOf (s : State) (slot : Nat) : List Nat :=
  (List.range 32).filter fun a => s.lockOwner a == slot

/-- An area is marked suspect, or the mark removed (R61, R62). -/
def State.suspect (s : State) (area : Nat) (b : Bool) : State :=
  s.wr Obj.LOCK_SUSPECT (setBit (s.nat Obj.LOCK_SUSPECT) area b : Nat)

/-- R61: the owner's epoch changed; each of its locks is freed, the area marked and lock-owner-lost logged. -/
def State.loseLocks (s : State) (slot : Nat) : State :=
  (s.locksOf slot).foldl (fun s a => ((s.freeLock a).suspect a true).raise 0x7C a slot) s

/-- The epoch of a slot changes (R42): its locks are freed (R61), and a pattern that its session showed ends (R340). -/
def State.epochChanged (s : State) (slot : Nat) : State :=
  let s := s.loseLocks slot
  let cal := s.mods.cal
  if cal.opener.map (·.1) = some slot then
    { s with mods := { s.mods with cal := { cal with opener := none, pattern := none } } }
  else s

/-- A session ends (R41, R42): an abnormal ending advances the slot's epoch and frees its locks. -/
def State.endSession (s : State) (slot : Nat) (normal : Bool) : State :=
  let x := s.session slot
  if x.st = 0 then s
  else
    let normal := normal && (s.locksOf slot).isEmpty
    let epoch := if normal then x.epoch else (x.epoch + 1) % 65536
    let s := if normal then s else s.epochChanged slot
    (s.setSession slot { epoch := epoch }).countSessions

/-! ### Egress queues, and messages cut into CTRL segments (R175, R180) -/

def State.setFlue (s : State) (f : Flue) : State := { s with flue := f }
def State.egress (s : State) (p : Nat) : Egress := look {} p s.flue.egress
def State.setEgress (s : State) (p : Nat) (x : Egress) : State :=
  { s with flue := { s.flue with egress := put {} p x s.flue.egress } }

/-- A packet joins a port's egress queue. -/
def State.enqueue (s : State) (p : Nat) (k : OutPkt) : State :=
  let e := s.egress p
  s.setEgress p { e with queue := e.queue ++ [k] }

/-- The ports of a chimney in force. -/
def State.chimPorts (s : State) (c : Nat) : List Nat := [s.natAt Obj.CHIM_PORT_A 0 c, s.natAt Obj.CHIM_PORT_B 0 c]

/-- Segments of a message of `n` bytes (R175). -/
def segments (n : Nat) : Nat := max 1 (ceilDiv n 56)

/-- The CTRL packets of a message of `n` bytes: 56 bytes in 7 data blocks each, the last with the rest; their fields are
DST, MSG_ID, SEG and LAST. -/
def ctrlPackets (cls dst id n : Nat) (now : Cyc) : List OutPkt :=
  (List.range (segments n)).map fun i =>
    { cls := cls, blocks := 1 + ceilDiv (min 56 (n - 56 * i)) 8, dst := dst, at_ := now, typ := 0x20,
      words := [(dst : Int), (id : Int), (i : Int), if i + 1 = segments n then 1 else 0] }

/-- A message of `n` bytes takes the originator's next MSG_ID and waits, in segments, on each of the ports. -/
def State.queueCtrl (s : State) (ports : List Nat) (cls dst n : Nat) : State :=
  let ks := ctrlPackets cls dst s.flue.msgId n s.now
  let add (m : List (Nat × Egress)) (p : Nat) : List (Nat × Egress) :=
    let e := look {} p m
    put {} p { e with queue := e.queue ++ ks } m
  s.setFlue { s.flue with msgId := (s.flue.msgId + 1) % 65536, egress := ports.foldl add s.flue.egress }

/-! ### The SVC transmit queue (R419) -/

/-- Wire bytes of a READ value (Table 2-1). -/
def RVal.wire : RVal → Nat
  | .num w _ => w
  | .str b => 1 + b.length
  | .window _ b => 6 + b.length

/-- Payload bytes of a reply's entries: a status byte each, and the value (R469). -/
def Reply.wire (r : Reply) : Nat :=
  r.payload.foldl (fun n e => n + 1 + (e.2.map RVal.wire).getD 0) 0

/-- Bytes of a message that the device sends: 24 of header, the payload (R364, Table 13-4 and R469 give those of the reply
to OPEN, of POWER_REPORT, and of READ and WRITE) and 32 of tag where it carries one (R44, R470); none where the manual
gives no layout. -/
def Tx.bytes : Tx → Option Nat
  | .reply _ _ _ op r =>
    if op = 0x01 then some (24 + 231 + Config.devCert.length)
    else if r.info.isEmpty then some (24 + r.wire + 32) else none
  | .untagged .. => some 24
  | .toSender .. => some (24 + 24 + 32)
  | _ => none

/-- Four frames wait at most; one leaves the queue when its last character has left (log 43). A frame of a message of
`n` bytes has n + 10 characters of 80 ns each. -/
def State.svcQueue (s : State) (n : Nat) (x : Tx) : State :=
  let q := s.upd.svc.filter fun t => decide (s.now < t)
  if 4 ≤ q.length then ({ s with upd := { s.upd with svc := q } }).bump Obj.SVC_DROPS
  else
    let start := q.foldl max s.now
    ({ s with upd := { s.upd with svc := q ++ [start + (n + 10) * 120] } }).send x

/-- A message of `n` bytes goes to a transport: a tile's waits for class 4 on both ports (R44, R188). -/
def State.handTo (s : State) (via : Transport) (n : Nat) (x : Tx) : State :=
  match via with
  | .svc => s.svcQueue n x
  | .flue => (s.queueCtrl [0, 1] 4 0 n).send x
  | .mgmt => s.send x

/-- A message leaves on the transport of its session; where the manual does not give its length, the length is free. -/
def State.sendOn (s : State) (via : Transport) (x : Tx) : State :=
  match x.bytes with
  | some n => s.handTo via n x
  | none => s.used.handTo via (s.freeVal % 1025 + 56) x

/-- The device sends a message of its own in a session. When its SEQ reaches 0xFFFFFFFF the message goes and the
session ends (R45). -/
def State.sendIn (s : State) (slot : Nat) (x : Tx) : State :=
  let own := (s.session slot).own + 1
  let s := (s.setSession slot { s.session slot with own := own }).sendOn (s.session slot).transport x
  if own ≥ 0xFFFFFFFF then s.endSession slot true else s

/-- A reply to the request being executed, kept for a repeat (R45). -/
def State.answer (s : State) (slot op : Nat) (r : Reply) : State :=
  let x := s.session slot
  let s := s.setSession slot { x with cached := some (op, r), busy := none }
  s.sendIn slot (.reply x.transport slot x.seq op r)

/-- The event a deferred reply waited for has come. -/
def State.finish (s : State) (slot : Nat) : State :=
  match (s.session slot).busy with
  | some (op, r) => s.answer slot op r
  | none => s

end Sys2Proof.Machine
end

