-- ==== Sys2Proof/Machine/Faults.lean ====
section
/-! DEFINITION. The fault collector's own state: sides of a source, reactions in force, pins and log entries
(R397 to R406). The commands of chapter 17 are in Collector.lean. -/

namespace Sys2Proof.Machine

def State.setFlt (s : State) (f : Flt) : State := { s with flt := f }
/-- The real (`inj` false) or shadow state of a source. -/
def State.side (s : State) (inj : Bool) (src : Nat) : Side := look {} src (if inj then s.flt.shadow else s.flt.real)
def State.setSide (s : State) (inj : Bool) (src : Nat) (x : Side) : State :=
  if inj then s.setFlt { s.flt with shadow := put {} src x s.flt.shadow }
  else s.setFlt { s.flt with real := put {} src x s.flt.real }

/-- FLT_CFG fields (Table 17-5). -/
def State.fltCfg (s : State) (src : Nat) : Nat := s.natAt Obj.FLT_CFG 0 src
def cfgN (c : Nat) : Nat := max 1 (bits c 31 24)
def cfgWindow18 (c : Nat) : Nat := bits c 23 8 * 1000000 * 2 ^ 18

/-- A reaction bit of a source that exists in the device's role: REPORT, HALT_UNIT and HALT_ALL are a tile's (R401). -/
def State.reactBit (s : State) (src b : Nat) : Bool := bit (s.fltCfg src) b && (s.isTile || !([3, 4, 5].contains b))

/-- A side is severe with its reactions started (R401, R403). -/
def Side.acting (x : Side) : Bool := x.state == 2 && x.acts
/-- The source has reaction `b` in force. -/
def State.reacts (s : State) (src b : Nat) : Bool :=
  ((s.side false src).acting || (s.side true src).acting) && s.reactBit src b
/-- The device's own alarm state (R404). -/
def State.ownAlarm (s : State) : Bool :=
  s.mods.thermal.shutdown || (s.flt.real ++ s.flt.shadow).any fun q => s.reacts q.1 2
/-- Any bit of FLT_WALL_ALARM. -/
def State.wallAlarm (s : State) : Bool := (List.range 16).any fun j => s.natAt Obj.FLT_WALL_ALARM 0 j != 0

/-- FLT_UNCLEARED, FLT_N and ALM_P/N follow the states (R404). -/
def State.showPins (s : State) : State :=
  let n := (s.flt.real.filter fun q => q.2.state != 0).length
  let high := s.flt.running && n == 0 && !s.mods.thermal.shutdown
  let alarm := !s.flt.running || s.ownAlarm || (s.isSender && s.wallAlarm)
  let f := s.flt
  let s := (s.wr Obj.FLT_UNCLEARED n).wr Obj.FLT_ALM_STATE (if alarm then 1 else 0)
  let s := if high == f.fltN then s else s.send (.pin .fltN (if high then 1 else 0))
  let s := if alarm == f.almAlarm then s else s.send (.pin .alm (if alarm then 0 else 1))
  s.setFlt { s.flt with fltN := high, almAlarm := alarm, alarmAt := if alarm && !f.almAlarm then s.now else f.alarmAt }

/-! ### Log entries (Table 17-3) -/

/-- TQ from TIME_STATE. -/
def State.timeQuality (s : State) : Nat :=
  let st := s.nat Obj.TIME_STATE
  if s.isTile then match st with | 0 => 0 | 2 => 2 | 3 => 3 | _ => 1
  else if st = 2 then 3 else if st = 0 ∧ s.nat Obj.TIME_SOURCE = 0 then 3 else 1

def flagBit (b : Bool) (n : Nat) : Nat := if b then 2 ^ n else 0

/-- An entry as its 128 bits. -/
def AshEntry.word (e : AshEntry) : Nat :=
  e.seconds % 2 ^ 32 * 2 ^ 96 + e.tq % 4 * 2 ^ 94 + e.ns % 2 ^ 30 * 2 ^ 64 + flagBit e.injected 63
    + e.source % 128 * 2 ^ 56 + flagBit e.coincident 55 + flagBit e.severe 54 + flagBit e.wouldAct 53
    + flagBit e.acted 52 + flagBit e.clear 51 + flagBit e.alarm 50 + e.chimney % 8 * 2 ^ 47
    + e.origin % 256 * 2 ^ 39 + min e.count 255 * 2 ^ 31 + e.unit % 256 * 2 ^ 16 + e.value % 65536

/-- The entry that 128 bits spell. -/
def ashEntryOf (w : Nat) : AshEntry :=
  { seconds := bits w 127 96, tq := bits w 95 94, ns := bits w 93 64, injected := bit w 63, source := bits w 62 56,
    coincident := bit w 55, severe := bit w 54, wouldAct := bit w 53, acted := bit w 52, clear := bit w 51,
    alarm := bit w 50, chimney := bits w 49 47, origin := bits w 46 39, count := bits w 38 31, unit := bits w 23 16,
    value := bits w 15 0 }

/-- The 1,024 bytes of a log: entry i of its life at 16 x (i mod 64); `log` is newest first, `seq` entries in all. -/
def logBytes (seq : Nat) (log : List AshEntry) : List Byte :=
  (List.range 64).flatMap fun p =>
    match (List.range log.length).find? fun j => decide (j < seq) && (seq - 1 - j) % 64 == p with
    | some j => match log[j]? with
      | some e => toBytes 16 e.word
      | none => toBytes 16 0
    | none => toBytes 16 0

/-- An entry joins the FAULT queue of 16; where that is full it replaces the oldest (R406). -/
def State.pushReport (s : State) (e : AshEntry) : State :=
  let r := s.flt.reports
  let s := if 16 ≤ r.length then s.bump Obj.FLT_REPORT_DROPS else s
  s.setFlt { s.flt with reports := (if 16 ≤ r.length then r.drop 1 else r) ++ [{ entry := e, at_ := s.now }] }

/-- ASH_ENTRY_WRITE (R405): an entry of one side of a source, whose state is already set. COUNT holds the events since
its last entry; a first SEVERE entry makes a save due. -/
def State.writeEntry (s : State) (inj : Bool) (src wall unit value : Nat) (severe coincident clear : Bool) : State :=
  let x := s.side inj src
  let e : AshEntry :=
    { seconds := wall / (1000000000 * 2 ^ 18) % 2 ^ 32, tq := s.timeQuality,
      ns := wall % (1000000000 * 2 ^ 18) / 2 ^ 18, injected := inj, source := src, coincident := coincident,
      severe := severe, wouldAct := severe && !x.acts, acted := severe && x.acts, clear := clear,
      alarm := s.reacts src 2, chimney := 0, origin := 0, count := min x.count 255, unit := unit % 256,
      value := value % 65536 }
  let s := s.setSide inj src { x with count := 0, logged := some s.now }
  let f := s.flt
  let s := s.setFlt
    { f with ash := (e :: f.ash).take 64, ashDue := f.ashDue || severe,
             lastAlarm := if e.alarm then (src, e) :: f.lastAlarm.filter (fun q => q.1 != src) else f.lastAlarm }
  let s := s.bump Obj.FLT_ASH_SEQ
  if s.reactBit src 3 then s.pushReport e else s

end Sys2Proof.Machine
end

