-- ==== Sys2Proof/Machine/Ingest.lean ====
section
/-! DEFINITION. Sources, ingest and layer buffers (chapter 3): the commands of the ingest protocol and of the still
layers, and what a frame boundary and a commit do to slots and layers. -/

namespace Sys2Proof.Machine

/-- A reading of the configuration: values in force, or those a commit would put in force. -/
abbrev View := ObjRow → Nat → Nat → Int

/-! ### Plane formats (R70, R71) -/

/-- Bits of a Y, Cb or Cr sample by ING_DEPTH's code. -/
def depthBits (depth : Nat) : Nat := 8 + 2 * depth

/-- A plane: its number, samples in a line, lines, and bits of a sample (Table 3-1). -/
structure Plane where
  no : Nat
  samples : Nat
  lines : Nat
  bits : Nat
deriving DecidableEq, Repr

/-- The planes of a format (Table 3-1). -/
def planesOf (f : PlaneFormat) : List Plane :=
  let b := depthBits f.depth
  let chroma := match f.sampling with
    | 0 => [⟨1, f.w / 2 * 2, f.h / 2, b⟩]
    | 1 => [⟨1, f.w / 2 * 2, f.h, b⟩]
    | _ => [⟨1, f.w, f.h, b⟩, ⟨2, f.w, f.h, b⟩]
  ⟨0, f.w, f.h, b⟩ :: chroma ++ (if f.alpha then [⟨3, f.w, f.h, 8⟩] else [])

/-- L of R70: the wire bytes of a line. -/
def Plane.wire (p : Plane) : Nat := ceilDiv (p.samples * p.bits) 64 * 8
/-- The pitch of R71. -/
def Plane.pitch (p : Plane) : Nat := ceilDiv p.wire 256 * 256
/-- Bytes of a plane in memory, up to the next 4,096-byte boundary (R71). -/
def Plane.span (p : Plane) : Nat := ceilDiv (p.pitch * p.lines) 4096 * 4096

/-- The packed image (R88) and the bytes a PUBLISH must find written (R79). -/
def packedSize (f : PlaneFormat) : Nat := sumNat ((planesOf f).map fun p => p.wire * p.lines)
/-- A buffer's size in memory (R71, R92). -/
def bufferSize (f : PlaneFormat) : Nat := sumNat ((planesOf f).map Plane.span)

/-- Where a plane starts within a buffer (R71). -/
def planeStart : List Plane → Nat → Nat
  | [], _ => 0
  | p :: ps, no => if p.no = no then 0 else p.span + planeStart ps no

def planeOf (f : PlaneFormat) (no : Nat) : Option Plane := (planesOf f).find? fun p => p.no == no

/-- A slot's committed format. -/
def slotFormat (v : View) (i : Nat) : PlaneFormat :=
  { w := (v Obj.ING_WIDTH i 0).toNat, h := (v Obj.ING_HEIGHT i 0).toNat,
    sampling := (v Obj.ING_SAMPLING i 0).toNat, depth := (v Obj.ING_DEPTH i 0).toNat,
    alpha := v Obj.ING_ALPHA i 0 == 1 }

/-- A still layer's format (Table 3-9). -/
def stillFormat (v : View) (l : Nat) : PlaneFormat :=
  let f := (v Obj.LAYER_STILL_FORMAT l 0).toNat
  { w := (v Obj.LAYER_STILL_WIDTH l 0).toNat, h := (v Obj.LAYER_STILL_HEIGHT l 0).toNat,
    sampling := bits f 3 2, depth := bits f 1 0, alpha := bit f 4 }

/-! ### External memory (R71). The manual places no buffer; this model gives each its own range (log 8). -/

/-- Address of a byte of a buffer: owner 0 to 7 a slot, 8 + l the still layer l; `epoch` a reallocation (R89). -/
def bufAddr (owner epoch buf off : Nat) : Nat := ((epoch * 32 + owner) * 8 + buf) * 2 ^ 32 + off

/-- The populated channels of the external memory: those that trained (R92). -/
def State.populated (s : State) : List Nat := (List.range 8).filter fun c => (s.sys.channels.getD c none).isSome

/-- The physical place of a byte of a buffer: its buffer, its channel and the place there. Units of 4,096 bytes go round the
populated channels (R71), from the lowest on (log 145). -/
def State.place (s : State) (a : Nat) : Nat :=
  let off := a % 2 ^ 32
  let n := max 1 s.populated.length
  ((a / 2 ^ 32) * 16 + s.populated.getD (off / 4096 % n) 0) * 2 ^ 32 + off / 4096 / n * 4096 + off % 4096

/-- A byte of external memory; one that nothing has written is free (log 3). -/
def State.memByte (s : State) (a : Nat) : Byte := look (Config.freeByte (s.place a)) (s.place a) s.video.mem

/-- Bytes written to external memory. Every written byte is listed, whatever its value: no value is a default. -/
def memWrite (m : List Host.Cell) (a : Nat) : List Byte → List Host.Cell
  | [] => m
  | b :: bs => memWrite (insertAt a b (drop a m)) (a + 1) bs

/-- The canonical form of external memory: addresses strictly rising (no value is a default, so none is left out). -/
def Memory.wf (m : List Host.Cell) : Bool := risingFrom 0 m

def State.setMem (s : State) (m : List Host.Cell) : State := { s with video := { s.video with mem := m } }

/-- Bytes written to a buffer, each at its place. -/
def State.putBytes (s : State) (a : Nat) : List Byte → State
  | [] => s
  | b :: bs => (s.setMem (memWrite s.video.mem (s.place a) [b])).putBytes (a + 1) bs

/-- A buffer's content is undefined again. -/
def State.clearBuf (s : State) (owner epoch buf : Nat) : State :=
  let a := bufAddr owner epoch buf 0 / 2 ^ 32 * 16 * 2 ^ 32
  s.setMem (clearRange a (a + 16 * 2 ^ 32) s.video.mem)

/-! ### Slots -/

def State.slot (s : State) (i : Nat) : IngSlot := look {} i s.video.slots
def State.setSlot (s : State) (i : Nat) (x : IngSlot) : State :=
  { s with video := { s.video with slots := put {} i x s.video.slots } }

/-- The slot a port is bound to (R68). -/
def State.slotOf (s : State) (port : Nat) : Option Nat :=
  (List.range 8).find? fun i => s.natAt Obj.ING_PORT i 0 == port

def State.slotOn (s : State) (i : Nat) : Bool := s.natAt Obj.ING_PORT i 0 != 0xFF

/-- ING_STATE follows the slot (Table 3-7; stale is reported before streaming, log 9). -/
def State.showSlot (s : State) (i : Nat) : State :=
  let x := s.slot i
  s.wrAt Obj.ING_STATE i 0
    (if !s.slotOn i then 0 else if x.stale then 3 else if x.streaming then 2 else 1)

/-- The newest published buffer (R77). -/
def IngSlot.newest (x : IngSlot) : Option Nat := x.order.getLast?
/-- R83. -/
def IngSlot.fenced (x : IngSlot) (b : Nat) : Bool := x.fetching.contains b || x.newest == some b
def IngSlot.gen (x : IngSlot) (b : Nat) : Nat := look 0 b x.gens

/-- A reason code is sent (Table 3-4). -/
def State.reason (s : State) (i code : Nat) : State := s.wrAt Obj.ING_REFUSE_REASON i 0 code

/-- Payload blocks of an ingest packet of the sender (Table 3-3). -/
def ingestPayload (typ : Nat) : Nat :=
  if typ = 0x02 ∨ typ = 0x03 ∨ typ = 0x08 ∨ typ = 0x0C then 1 else if typ = 0x0B then 3 else 0

/-- An ingest packet of the sender waits in class 6 of its port (R73, R180): TYPE, BUF, GEN, block 0 [31:0] and the payload. -/
def State.toFrontEnd (s : State) (port typ buf gen val : Nat) (words : List Nat) : State :=
  s.enqueue port { cls := 6, blocks := 2 + ingestPayload typ, dst := 0, at_ := s.now, typ := typ,
                   words := ([buf, gen, val] ++ words).map Int.ofNat }

/-- RESET with NOT_STREAMING on the port (R73, R78). -/
def State.notStreaming (s : State) (i port : Nat) : State := (s.reason i 9).toFrontEnd port 0x0C 0 0 0 [9]

/-- FREED moves to the last CONSUMED taken unless a held packet is before it; CREDIT goes once it has advanced by 64
units or more (R76). -/
def State.freeUnits (s : State) (i : Nat) : State :=
  let x := s.slot i
  if x.held.isEmpty then
    let x := { x with freed := x.consumed }
    if (x.freed + 2 ^ 32 - x.creditSent) % 2 ^ 32 ≥ 64 then
      (s.setSlot i { x with creditSent := x.freed, creditAt := s.now }).toFrontEnd (s.natAt Obj.ING_PORT i 0) 0x0A 0 0 x.freed []
    else s.setSlot i x
  else s

/-- The open buffer is discarded with its held packets, whose units are freed (R74, R77, R82, R84, R89); a PUBLISH that
waited for them is then due for its check. -/
def State.discardOpen (s : State) (i : Nat) : State :=
  let x := s.slot i
  (s.setSlot i { x with opened := none, held := [], fault := none, written := 0, taken := false }).freeUnits i

/-- The open buffer is marked damaged; the first cause is the one a PUBLISH_NAK reports (log 10). -/
def IngSlot.damage (x : IngSlot) (code : Nat) : IngSlot :=
  if x.opened.isSome then { x with fault := some (x.fault.getD code) } else x

/-! ### The check of a PUBLISH (R79) -/

/-- The check of R79 on one PUBLISH. A repeat names a buffer and the GEN of its last accepted PUBLISH. One whose bytes exceed the
buffer's total is refused with the code of a short one, INCOMPLETE: DESIGN CHOICE (log 142). -/
def publishOne (i : Nat) (s : State) (w : PubWait) : State :=
  let x := s.slot i
  let named := x.opened = some w.buf ∧ x.gen w.buf = w.gen
  let full := packedSize (slotFormat s.rdAt i)
  if named ∧ x.fault = none ∧ x.written = full then
    let x := { x with opened := none, order := x.order.filter (fun b => b != w.buf) ++ [w.buf], written := 0,
                      taken := false, accepted := insertAt w.buf w.gen (drop w.buf x.accepted), lastPub := some s.now,
                      newAt := x.newAt.filter (fun q => q.1 != w.buf) ++ [(w.buf, s.now)], stale := false }
    let s := (s.setSlot i x).bumpAt Obj.ING_FRAMES_PUBLISHED i 0
    let s := (s.wrAt Obj.ING_LAST_FRAME_NO i 0 w.frameNo).hold 0x31 i false
    (s.toFrontEnd w.port 0x07 0 0 w.seq []).showSlot i
  else if ¬ named ∧ x.accepted.contains (w.buf, w.gen) then s.toFrontEnd w.port 0x07 0 0 w.seq []
  else
    let code := if named then x.fault.getD 4 else 7
    let s := s.reason i code
    let s := if named then (s.discardOpen i).clearBuf i x.epoch w.buf else s
    ((s.bumpAt Obj.ING_PUBLISH_REFUSED i 0).toFrontEnd w.port 0x08 0 0 w.seq [code]).raise 0x33 i code

/-- The PUBLISHes that wait are checked in their order once nothing is held (R79). -/
def publishCheck (i : Nat) (s : State) : State :=
  let x := s.slot i
  if x.held.isEmpty then x.waiting.foldl (publishOne i) (s.setSlot i { x with waiting := [] }) else s

/-! ### SETUP (R69, R73, R74, R80) -/

def State.refuseSetup (s : State) (port seq code : Nat) : State :=
  (s.toFrontEnd port 0x03 0 0 seq [code]).raise 0x30 port code

def setupEffect (h : IngHdr) (f : PlaneFormat) (s : State) : State :=
  if !s.isSender || h.bad then s
  else match s.slotOf h.port with
  | none => s.refuseSetup h.port h.seq 2
  | some i =>
    if h.version ≠ 1 then (s.reason i 3).refuseSetup h.port h.seq 3
    else if f ≠ slotFormat s.rdAt i then (s.reason i 1).refuseSetup h.port h.seq 1
    else
      let s := publishCheck i (s.discardOpen i)
      let s := s.setSlot i { s.slot i with streaming := true, consumed := 0, freed := 0, creditSent := 0,
                                           creditAt := s.now }
      (s.toFrontEnd h.port 0x02 0 0 h.seq [4096, s.natAt Obj.ING_RING_DEPTH i 0]).showSlot i

def execSetup (t : Cyc) (h : IngHdr) (f : PlaneFormat) (s : State) : Host.Outcome State Fault Refusal :=
  s.run t (setupEffect h f)

/-! ### FRAME_REQ (R77) -/

/-- The buffer that R77 grants: a never-published one first, lowest index, then the least recently published. -/
def IngSlot.pick (x : IngSlot) (depth : Nat) : Nat :=
  match (List.range depth).find? fun b => !x.order.contains b with
  | some b => b
  | none => x.order.headD 0

def State.grant (s : State) (i : Nat) (h : IngHdr) : State :=
  let x := s.slot i
  let b := x.pick (s.natAt Obj.ING_RING_DEPTH i 0)
  let g := (x.gen b + 1) % 65536
  (s.setSlot i { x with opened := some b, gens := put 0 b g x.gens, written := 0, taken := false,
                        fault := none }).toFrontEnd h.port 0x05 b g h.seq []

/-- A control packet on a slot: bad blocks, other ports and other versions are discarded (R69, R73), and before
SETUP_ACK the answer is RESET. -/
def State.onSlot (s : State) (h : IngHdr) (f : State → Nat → State) : State :=
  if !s.isSender || h.bad || h.version != 1 then s
  else match s.slotOf h.port with
  | none => s
  | some i => if (s.slot i).streaming then f s i else s.notStreaming i h.port

def frameReqEffect (h : IngHdr) (s : State) : State :=
  s.onSlot h fun s i =>
    let x := s.slot i
    match x.opened with
    | none => s.grant i h
    | some b =>
      if x.taken then (publishCheck i (s.discardOpen i)).grant i h
      else s.toFrontEnd h.port 0x05 b (x.gen b) h.seq []

def execFrameReq (t : Cyc) (h : IngHdr) (s : State) : Host.Outcome State Fault Refusal := s.run t (frameReqEffect h)

/-! ### PUBLISH (R79) -/

def publishEffect (h : IngHdr) (frameNo : Nat) (s : State) : State :=
  s.onSlot h fun s i =>
    let w : PubWait := { port := h.port, seq := h.seq, buf := h.buf, gen := h.gen, frameNo := frameNo }
    publishCheck i (s.setSlot i { s.slot i with waiting := (s.slot i).waiting ++ [w] })

def execPublish (t : Cyc) (h : IngHdr) (frameNo : Nat) (s : State) : Host.Outcome State Fault Refusal :=
  s.run t (publishEffect h frameNo)

def execPublishCheck (t : Cyc) (slot : Nat) (s : State) : Host.Outcome State Fault Refusal :=
  s.run t (publishCheck slot)

/-! ### DATA (R75, R76, R78, R84) -/

/-- What R76 makes of a CONSUMED value. -/
inductive SeqCheck where
  | inOrder | gap | outOfOrder
deriving DecidableEq, Repr

def seqCheck (prev cur units : Nat) : SeqCheck :=
  let d := (cur + 2 ^ 32 - prev) % 2 ^ 32
  if d = units then .inOrder else if units < d ∧ d < 2 ^ 31 then .gap else .outOfOrder

/-- Where a DATA packet lies within its plane; none outside it (R78 check 4). -/
def dataPlace (f : PlaneFormat) (h : IngHdr) (len : Nat) : Option Nat :=
  match planeOf f h.plane with
  | none => none
  | some p =>
    if h.line < p.lines ∧ h.offset * 8 + len ≤ p.wire then
      some (planeStart (planesOf f) h.plane + h.line * p.pitch + h.offset * 8)
    else none

/-- A packet's data written to the open buffer. -/
def State.store (s : State) (i buf off : Nat) (bytes : List Byte) : State :=
  let x := s.slot i
  (s.setSlot i { x with written := x.written + bytes.length, taken := true }).putBytes (bufAddr i x.epoch buf off) bytes

/-- Checks 3 to 6 of R78. -/
def State.dataBody (s : State) (i : Nat) (h : IngHdr) (bytes : List Byte) : State :=
  let x := s.slot i
  if x.opened ≠ some h.buf ∨ x.gen h.buf ≠ h.gen then (s.bumpAt Obj.ING_STALE_WRITES i 0).freeUnits i
  else match dataPlace (slotFormat s.rdAt i) h bytes.length with
  | none => (s.setSlot i (x.damage 6)).freeUnits i
  | some off =>
    if x.fenced h.buf then
      (s.setSlot i { x with taken := true, held := x.held ++
        [⟨h.seq, h.buf, h.gen, h.plane, h.line, off, bytes⟩] }).bumpAt Obj.ING_HELD_WRITES i 0
    else (s.store i h.buf off bytes).freeUnits i

def dataEffect (h : IngHdr) (bytes : List Byte) (s : State) : State :=
  s.onSlot h fun s i =>
    let x := s.slot i
    let bad := decide (h.len % 8 ≠ 0 ∨ h.len < 8 ∨ 4096 < h.len)
    let units := ceilDiv h.len 64
    let chk := seqCheck x.consumed h.seq units
    match bad, chk with
    | true, .outOfOrder => (s.setSlot i (x.damage 5)).raise 0x32 i h.seq
    | true, _ => ((s.setSlot i { x.damage 5 with consumed := h.seq }).raise 0x32 i h.seq).freeUnits i
    | false, .outOfOrder => (s.setSlot i (x.damage 5)).raise 0x32 i h.seq
    | false, .gap =>
      ((s.setSlot i { x.damage 5 with consumed := h.seq }).raise 0x32 i h.seq).dataBody i h (bytes.take h.len)
    | false, .inOrder => (s.setSlot i { x with consumed := h.seq }).dataBody i h (bytes.take h.len)

def execData (t : Cyc) (h : IngHdr) (bytes : List Byte) (s : State) : Host.Outcome State Fault Refusal :=
  s.run t (dataEffect h bytes)

/-- INGEST_CREDIT_TIMER (R76): within 2 us after any advance, and every 100 us in the streaming state. -/
def creditTimer (i : Nat) (s : State) : State :=
  let x := s.slot i
  if s.isSender ∧ s.slotOn i ∧ (x.freed ≠ x.creditSent ∨ (x.streaming = true ∧ x.creditAt + us 100 ≤ s.now)) then
    (s.setSlot i { x with creditSent := x.freed, creditAt := s.now }).toFrontEnd (s.natAt Obj.ING_PORT i 0) 0x0A 0 0 x.freed []
  else s

def execIngestCreditTimer (t : Cyc) (slot : Nat) (s : State) : Host.Outcome State Fault Refusal :=
  s.run t (creditTimer slot)

/-! ### Still layers (R88) -/

def State.still (s : State) (l : Nat) : Still := look {} l s.video.stills
def State.setStill (s : State) (l : Nat) (x : Still) : State :=
  { s with video := { s.video with stills := put {} l x s.video.stills } }

/-- The buffer that LAYER_STILL_DATA writes: the back, or once a publish is accepted the other one. -/
def Still.target (x : Still) : Nat := if x.publish then x.front else 1 - x.front

/-- A packed offset's address: lines lie at their pitch (R71, R88). -/
def unpack : List Plane → Nat → Nat → Nat
  | [], off, base => base + off
  | p :: ps, off, base =>
    if off < p.wire * p.lines then base + off / p.wire * p.pitch + off % p.wire
    else unpack ps (off - p.wire * p.lines) (base + p.span)

def State.stillStore (s : State) (l buf off : Nat) : List Byte → State
  | [] => s
  | b :: bs =>
    let a := bufAddr (8 + l) (s.still l).epoch buf (unpack (planesOf (stillFormat s.rdAt l)) off 0)
    (s.putBytes a [b]).stillStore l buf (off + 1) bs

/-- LAYER_STILL_DATA's window: written, or held at a fence until FENCE_RELEASE; true when held. -/
def State.stillWrite (s : State) (slot l off : Nat) (bytes : List Byte) : State × Bool :=
  let x := s.still l
  if x.fetching.contains x.target then
    ((s.setStill l { x with held := x.held ++ [(slot, x.target, off, bytes)] }).bumpAt Obj.LAYER_STILL_HELD l 0, true)
  else (s.stillStore l x.target off bytes, false)

/-- LAYER_STILL_PUBLISH; BUSY while an earlier one waits for its boundary. Data and publishes of a layer that is not bound as a still
are accepted, and a publish then waits until the layer is bound: DESIGN CHOICE (log 143). -/
def State.stillPublish (s : State) (l : Nat) : State × Nat :=
  let x := s.still l
  if x.publish then (s, st.BUSY) else (s.setStill l { x with publish := true }, st.OK)

/-! ### FENCE_RELEASE (R83, R84, R88, R89): the fetch of a buffer is complete. Where the slot still has a buffer of that number from
an earlier configuration in fetch, it is that one's, and its memory is released. -/

def State.writeHeld (s : State) (i : Nat) : List HeldData → State
  | [] => s
  | d :: ds => (s.store i d.buf d.offset d.bytes).writeHeld i ds

def fenceRelease (o : BufOwner) (buf : Nat) (s : State) : State :=
  match o with
  | .slot i =>
    let x := s.slot i
    match x.leaving.find? fun q => q.2 == buf with
    | some q => (s.setSlot i { x with leaving := x.leaving.filter fun r => r != q }).clearBuf i q.1 q.2
    | none =>
    let x := { x with fetching := x.fetching.filter (fun b => b != buf) }
    let s := s.setSlot i x
    if x.fenced buf ∨ x.opened ≠ some buf ∨ x.held = [] then s
    else publishCheck i (((s.setSlot i { x with held := [] }).writeHeld i x.held).freeUnits i)
  | .still l =>
    let x := s.still l
    let x := { x with fetching := x.fetching.filter (fun b => b != buf) }
    let s := s.setStill l { x with held := x.held.filter fun h => h.2.1 != buf }
    (x.held.filter fun h => h.2.1 == buf).foldl (fun s h => (s.stillStore l buf h.2.2.1 h.2.2.2).finish h.1) s

def execFenceRelease (t : Cyc) (owner : BufOwner) (buf : Nat) (s : State) : Host.Outcome State Fault Refusal :=
  s.run t (fenceRelease owner buf)

/-! ### SOURCE_STALE_TIMEOUT (R87) -/

/-- The layers bound to a slot. -/
def State.boundTo (s : State) (b : Nat) : List Nat :=
  (List.range 15).filter fun l => s.natAt Obj.LAYER_BIND l 0 == b

def staleTimeout (i : Nat) (s : State) : State :=
  let x := s.slot i
  match x.lastPub with
  | none => s
  | some p =>
    if s.isSender ∧ s.slotOn i ∧ ¬ x.stale ∧ p + ms (s.natAt Obj.ING_STALE_TIMEOUT i 0) ≤ s.now then
      let s := (s.setSlot i { x with stale := true }).raiseHeld 0x31 i 0
      ((s.boundTo i).foldl (fun s l => s.wrAt Obj.LAYER_STATE l 0 4) s).showSlot i
    else s

def execSourceStaleTimeout (t : Cyc) (slot : Nat) (s : State) : Host.Outcome State Fault Refusal :=
  s.run t (staleTimeout slot)

/-! ### What a frame boundary does (R81, R85, R86, R88, R106) -/

def State.layer (s : State) (l : Nat) : LayerRun := look {} l s.video.layers
def State.setLayer (s : State) (l : Nat) (x : LayerRun) : State :=
  { s with video := { s.video with layers := put {} l x s.video.layers } }

/-- A layer with nothing to show: transparent, counted, and layer-not-ready at the first such frame (R86). -/
def State.layerMissing (s : State) (l : Nat) : State :=
  let x := s.layer l
  let s := ((s.wrAt Obj.LAYER_STATE l 0 1).bumpAt Obj.LAYER_NOT_READY l 0)
  let s := s.setLayer l { showing := none, notReadySeen := true }
  if x.notReadySeen then s else s.raiseHeld 0x34 l 0

/-- A layer shows a buffer: LAYER_STATE, LAYER_BUFFER, and what R106 makes of a stale one. -/
def State.layerShows (s : State) (l state buf gen : Nat) : State :=
  let mode := if state = 4 then s.natAt Obj.LAYER_STALE_MODE l 0 else 0
  let s := (s.wrAt Obj.LAYER_STATE l 0 state).wrAt Obj.LAYER_BUFFER l 0 (buf * 65536 + gen : Nat)
  (s.setLayer l { showing := if mode = 0 then some buf else none, fill := mode == 2 }).hold 0x34 l false

/-- R85 for one slot: publishes accepted in an earlier cycle than the boundary's count. -/
def State.selectSlot (s : State) (i : Nat) : State :=
  if !s.slotOn i then s
  else
    let x := s.slot i
    let ls := s.boundTo i
    let fresh := x.newAt.any fun q => decide (q.2 < s.now)
    let later := x.newAt.filter fun q => !decide (q.2 < s.now)
    match (x.order.filter fun b => !later.any fun q => q.1 == b).getLast? with
    | none => ls.foldl (fun s l => s.layerMissing l) s
    | some b =>
      let state := if fresh then 2 else if x.stale then 4 else 3
      let s := ls.foldl (fun s l =>
        let s := s.layerShows l state b (x.gen b)
        if fresh then s else s.bumpAt Obj.LAYER_REPEATS l 0) s
      let fetching := if ls.isEmpty then x.fetching else x.fetching.filter (fun c => c != b) ++ [b]
      s.setSlot i { x with newAt := later, fetching := fetching }

/-- R88 for one still layer. Its buffers have no GEN; that field of LAYER_BUFFER is free (log 3). -/
def State.selectStill (s : State) (l : Nat) : State :=
  let x := s.still l
  let x' := if x.publish then { x with front := 1 - x.front, shown := true, publish := false } else x
  if x'.shown then
    let s := (s.layerShows l (if x.publish then 2 else 3) x'.front (s.freeVal % 65536)).used
    s.setStill l { x' with fetching := x'.fetching.filter (fun b => b != x'.front) ++ [x'.front] }
  else (s.setStill l x').layerMissing l

/-- SOURCE_SELECT: every slot, every still layer; an unbound layer reads state 0. -/
def State.selectSources (s : State) : State :=
  let s := (List.range 8).foldl (fun s i => s.selectSlot i) s
  let s := (s.boundTo 0x10).foldl (fun s l => s.selectStill l) s
  (s.boundTo 0xFF).foldl (fun s l => (s.wrAt Obj.LAYER_STATE l 0 0).setLayer l {}) s

/-- INGEST_STATUS_SEND (R81): WFC, the boundary's TIME96 and the frame period in ns. -/
def State.sendIngestStatus (s : State) (wfc time periodNs : Nat) : State :=
  (List.range 8).foldl (fun s i =>
    if s.slotOn i && (s.slot i).streaming then s.toFrontEnd (s.natAt Obj.ING_PORT i 0) 0x0B 0 0 0 [wfc, time, periodNs]
    else s) s

/-- INGEST_LINK_DOWN (R82). -/
def State.ingestLinkDown (s : State) (port : Nat) : State :=
  if !s.isSender then s
  else match s.slotOf port with
  | none => s
  | some i =>
    let s := publishCheck i (s.discardOpen i)
    (s.setSlot i { s.slot i with streaming := false }).showSlot i

/-! ### What a commit does (R89) -/

/-- The objects whose change resets a slot. -/
def slotRows : List ObjRow :=
  [Obj.ING_PORT, Obj.ING_WIDTH, Obj.ING_HEIGHT, Obj.ING_SAMPLING, Obj.ING_DEPTH, Obj.ING_ALPHA, Obj.ING_RING_DEPTH]

/-- SLOT_CONFIG_RESET for one slot; `old` is the state before the values came into force. The RESETs belong to a commit. Held packets
are discarded and their units freed, which CREDIT tells the port they came from; a buffer in fetch keeps its memory until that
fetch is complete. -/
def State.slotReset (s old : State) (commit : Bool) (i : Nat) : State :=
  if slotRows.all fun r => old.rdAt r i 0 == s.rdAt r i 0 then s
  else
    let was := old.natAt Obj.ING_PORT i 0
    let is := s.natAt Obj.ING_PORT i 0
    let x := s.slot i
    let s := if x.held.isEmpty ∨ was = 0xFF then s else s.toFrontEnd was 0x0A 0 0 x.consumed []
    let s := publishCheck i (s.setSlot i { x with opened := none, held := [] })
    let ports := if commit then (if was = is then [was] else [was, is]).filter fun p => p != 0xFF else []
    let s := ports.foldl (fun s p => s.toFrontEnd p 0x0C 0 0 0 [8]) s
    let s := if ports.isEmpty then s else s.reason i 8
    let s := ((List.range 8).filter fun b => !x.fetching.contains b).foldl (fun s b => s.clearBuf i x.epoch b) s
    let s := s.setSlot i { gens := (s.slot i).gens, epoch := x.epoch + 1, leaving := x.leaving ++ x.fetching.map fun b => (x.epoch, b) }
    (s.hold 0x31 i false).showSlot i

/-- A still layer whose format changed is reallocated with undefined content (R89). Writes held for its old buffers are dropped and
answered OK, and a publish that waited is forgotten: DESIGN CHOICE (log 144). -/
def State.stillReset (s old : State) (l : Nat) : State :=
  if [Obj.LAYER_STILL_WIDTH, Obj.LAYER_STILL_HEIGHT, Obj.LAYER_STILL_FORMAT].all
      fun r => old.rdAt r l 0 == s.rdAt r l 0 then s
  else
    let e := (s.still l).epoch
    let s := (s.still l).held.foldl (fun s h => s.finish h.1) s
    ((s.setStill l { epoch := e + 1 }).clearBuf (8 + l) e 0).clearBuf (8 + l) e 1

/-- The effect of values newly in force on ingest: slots, stills, and the first-frame latch of R86. -/
def State.ingestApplied (s old : State) (commit : Bool) : State :=
  if !s.isSender then s
  else
    let s := (List.range 8).foldl (fun s i => s.slotReset old commit i) s
    let s := (List.range 15).foldl (fun s l => s.stillReset old l) s
    (List.range 15).foldl (fun s l => s.setLayer l { s.layer l with notReadySeen := false }) s

end Sys2Proof.Machine
end

