-- ==== Sys2Proof/Machine/Wall.lean ====
section
/-! DEFINITION. Wall modes and tile mapping (chapter 5): frame periods, passes, the tile map and the budget sums. -/

namespace Sys2Proof.Machine

/-- The frame period of a rate code as seconds num / den (Table 5-1). -/
def ratePeriod (code : Nat) : Nat × Nat :=
  match code with
  | 0 => (1001, 24000) | 1 => (1, 24) | 2 => (1, 25) | 3 => (1001, 30000) | 4 => (1, 30) | 5 => (1, 48)
  | 6 => (1, 50) | 7 => (1001, 60000) | 8 => (1, 60) | 9 => (1, 72) | 10 => (1, 96) | 11 => (1, 100)
  | 12 => (1001, 120000) | 13 => (1, 120) | 14 => (1, 144) | 15 => (1, 200) | 16 => (1001, 240000)
  | 17 => (1, 240) | 18 => (1, 360) | _ => (1, 480)

/-- T in nanoseconds as num / den. -/
def periodNs (code : Nat) : Nat × Nat := ((ratePeriod code).1 * 1000000000, (ratePeriod code).2)

/-- s of the scan ratio 1:s (R117). -/
def scanRows (code : Nat) : Nat :=
  match code with
  | 0 => 1 | 1 => 8 | 2 => 16 | 3 => 32 | _ => 64

/-- P of R118. -/
def passes (rate scan : Nat) : Nat := (periodNs rate).1 / ((periodNs rate).2 * (scanRows scan * 1160))

/-- V = T - 8,000 ns as num / den (R122). -/
def lineWindow (rate : Nat) : Nat × Nat := ((periodNs rate).1 - 8000 * (periodNs rate).2, (periodNs rate).2)

/-- The wall mode of a view. -/
def viewRate (v : View) : Nat := (v Obj.WALL_RATE 0 0).toNat
def viewScan (v : View) : Nat := (v Obj.WALL_SCAN 0 0).toNat
def State.rate (s : State) : Nat := s.nat Obj.WALL_RATE
def State.scan (s : State) : Nat := s.nat Obj.WALL_SCAN

/-- A tile-map entry (Table 5-2). -/
structure MapEntry where
  tx : Nat
  ty : Nat
  tw : Nat
  th : Nat
  orient : Nat
  enable : Bool
deriving DecidableEq, Repr

def mapEntryOf (n : Nat) : MapEntry :=
  { tx := bits n 63 48, ty := bits n 47 32, tw := bits n 31 22, th := bits n 21 12, orient := bits n 11 9,
    enable := bit n 8 }

/-- The entry of tile `a` on chimney `c`, read from a view. -/
def viewEntry (v : View) (c a : Nat) : MapEntry := mapEntryOf (v Obj.WALL_TILE_MAP c (a - 1)).toNat

/-- The addresses of a chimney that are mapped: at most WALL_CHIM_TILES, ENABLE set (R120). -/
def mappedTiles (v : View) (c : Nat) : List Nat :=
  ((List.range (v Obj.WALL_CHIM_TILES 0 c).toNat).map (· + 1)).filter fun a => (viewEntry v c a).enable

def MapEntry.fw (e : MapEntry) : Nat := if e.orient % 2 = 0 then e.tw else e.th
def MapEntry.fh (e : MapEntry) : Nat := if e.orient % 2 = 0 then e.th else e.tw

/-- The canvas pixel of tile pixel (x, y) (R121, Table 5-3). -/
def MapEntry.canvas (e : MapEntry) (x y : Nat) : Nat × Nat :=
  let x := if bit e.orient 2 then e.tw - 1 - x else x
  let ab := match e.orient % 4 with
    | 0 => (x, y)
    | 1 => (e.th - 1 - y, x)
    | 2 => (e.tw - 1 - x, e.th - 1 - y)
    | _ => (y, e.tw - 1 - x)
  (e.tx + ab.1, e.ty + ab.2)

/-- A chimney has its two ports configured. -/
def chimneyOn (v : View) (c : Nat) : Bool := v Obj.CHIM_PORT_A 0 c != 0xFF && v Obj.CHIM_PORT_B 0 c != 0xFF

/-- The sequence of line packets of a chimney: by line, then by address, as (line, address) (R122). -/
def lineSequence (v : View) (c : Nat) : List (Nat × Nat) :=
  let tiles := mappedTiles v c
  (List.range 512).flatMap fun y =>
    (tiles.filter fun a => decide (y < (viewEntry v c a).th)).map fun a => (y, a)

/-- N_c, without listing the sequence. -/
def lineCount (v : View) (c : Nat) : Nat := sumNat ((mappedTiles v c).map fun a => (viewEntry v c a).th)

/-- The departure deadline of packet `j` in ns after its boundary (R122). -/
def departure (rate n j : Nat) : Nat :=
  8000 + ceilDiv ((j + 1) * (lineWindow rate).1) (n * (lineWindow rate).2)

/-! ### Budget sums (R127 to R129) -/

def chimneyNeed (v : View) (c : Nat) : Nat :=
  sumNat ((mappedTiles v c).map fun a => (viewEntry v c a).th * (3 * (viewEntry v c a).tw / 4 + 3))
def chimneyAvail (v : View) : Nat :=
  let w := lineWindow (viewRate v)
  w.1 * 31 * 399 / (w.2 * 22 * 400)

def compositorNeed (v : View) : Nat :=
  sumNat ((List.range 8).map fun c =>
    sumNat ((mappedTiles v c).map fun a => (viewEntry v c a).tw * (viewEntry v c a).th))
def compositorAvail (v : View) (engines : Nat) : Nat :=
  let w := lineWindow (viewRate v)
  15 * w.1 * engines / (2 * w.2 * 512)

/-- A ratio in units of 0.1 %, rounded to nearest, halves away from zero (R467). -/
def permille (need avail : Nat) : Nat := if avail = 0 then 0 else (roundAway (need * 1000 : Nat) avail).toNat

/-- The drivers and channels of a profile (Table 11-10). -/
def profileChannels (v : View) (n : Nat) : List Nat :=
  (List.range (v Obj.STR_PROF_DRIVERS n 0).toNat).map fun i => (v Obj.STR_PROF_CHANNELS n i).toNat

def strandNeed (v : View) (channels : List Nat) : Nat :=
  64 + sumNat (channels.map fun q => 48 + 24 * q * scanRows (viewScan v))
def strandAvail (v : View) : Nat := passes (viewRate v) (viewScan v) * scanRows (viewScan v) * 100

/-- WALL_PASSES and WALL_PERIOD_NS follow the mode in force. -/
def State.showMode (s : State) : State :=
  (s.wr Obj.WALL_PASSES (passes s.rate s.scan : Nat)).wr Obj.WALL_PERIOD_NS
    (roundAway (periodNs s.rate).1 (periodNs s.rate).2)

end Sys2Proof.Machine
end

