-- ==== Sys2Proof/Machine/Compose.lean ====
section
/-! DEFINITION. Composition and the Hearth layer (chapter 4): from samples to chain code, and the Hearth commands. -/

namespace Sys2Proof.Machine

/-! ### Chain code (R102, R103) -/

/-- R102; codes 0xD000 and above expand as 0xCFFF. -/
def expandCode (c : Nat) : Nat :=
  let c := if c ≥ 0xD000 then 0xCFFF else c
  let e := c / 4096
  let m := c % 4096
  if e = 0 then m else (4096 + m) * 2 ^ (e - 1)

/-- R103. -/
def encodeLinear (l : Nat) : Nat :=
  if l < 4096 then l
  else
    let e := log2 l - 11
    let m := (2 * l + 2 ^ (e - 1)) / 2 ^ e - 4096
    min 0xCFFF (if m = 4096 then (e + 1) * 4096 else e * 4096 + m)

/-! ### Tables -/

/-- The greatest h below 2^(n+1) with (2h - 1)^5 * 4095^12 at most 32 * (2^24 - 1)^5 * i^12, from the top bit down. -/
def powerRoot (i : Nat) : Nat → Nat → Nat
  | 0, h => h
  | n + 1, h =>
    let h' := h + 2 ^ n
    if (2 * h' - 1) ^ 5 * 4095 ^ 12 ≤ 32 * (2 ^ 24 - 1) ^ 5 * i ^ 12 then powerRoot i n h' else powerRoot i n h

/-- H[i] = round((2^24 - 1) * (i / 4095)^2.4), exactly (R111): h is the rounding exactly when (h - 1/2)^5 is at most the
fifth power of the exact value. -/
def powerTable (i : Nat) : Nat := powerRoot i 24 0

/-- What a BLOB byte reads as where nothing was written: the default tables of R100 and R104, and 0. -/
def blobDefault (key off : Nat) : Byte :=
  let ix := key / 256
  if 0x2201 ≤ ix ∧ ix ≤ 0x221D ∧ ix % 2 = 1 then
    (toBytes 4 (powerTable (off % 16384 / 4))).getD (off % 4) 0
  else if ix = 0x2282 then (toBytes 2 (16 * (off % 8192 / 2))).getD (off % 2) 0
  else 0

/-- BLOB bytes are stored at key * 2^32 + offset. -/
def blobAddr (key off : Nat) : Nat := key * 2 ^ 32 + off
def blobCellDefault (a : Nat) : Byte := blobDefault (a / 2 ^ 32) (a % 2 ^ 32)
def State.blobBytes (s : State) (key off n : Nat) : List Byte :=
  readBytes blobCellDefault s.blob (blobAddr key off) n

/-- An entry of a pre-blend LUT (24-bit value) and of the post-blend LUT in force. -/
def State.preLut (s : State) (l comp i : Nat) : Nat :=
  ofBytes (s.blobBytes (Obj.LAYER_PRE_LUT.key l 0) ((comp * 4096 + i) * 4) 4) % 2 ^ 24
def State.postLut (s : State) (comp i : Nat) : Nat :=
  ofBytes (s.blobBytes (Obj.COMP_POST_LUT.key 0 0) ((comp * 4096 + i) * 2) 2)

/-- Interpolation of R100 in a table of 4,096 entries. -/
def lutLinear (e : Nat → Nat) (x : Nat) : Int :=
  let v := x * 4095
  let i := v / 2 ^ 24
  if i = 4095 then e 4095
  else (e i : Int) + (((e (i + 1) : Int) - e i) * (v % 2 ^ 24 : Nat) + 2 ^ 23) / 2 ^ 24

/-- R104. -/
def lutPost (p : Nat → Nat) (b : Nat) : Nat :=
  let c0 := encodeLinear b
  let i := c0 / 16
  (clampI 0 0xCFFF ((p i : Int) + (((p (i + 1) : Int) - p i) * (c0 % 16 : Nat) + 8) / 16)).toNat

/-! ### Samples and colour (R98, R99) -/

/-- Where a layer's buffer stands in external memory, and its format. -/
structure Picture where
  base : Nat
  fmt : PlaneFormat
  dead : List (Nat × Nat × Nat)
deriving DecidableEq, Repr

/-- The bytes that hold sample `i` of a line: first byte and count. -/
def sampleBytes (p : Plane) (i : Nat) : Nat × Nat :=
  let lo := i * p.bits
  (lo / 8, (lo + p.bits - 1) / 8 + 1 - lo / 8)

/-- Sample `i` of line `y` of a plane, most significant bit first (R70). -/
def State.sample (s : State) (pic : Picture) (p : Plane) (i y : Nat) : Nat :=
  let (b, n) := sampleBytes p i
  let a := pic.base + planeStart (planesOf pic.fmt) p.no + y * p.pitch + b
  let v := ofBytes ((List.range n).map fun k => s.memByte (a + k))
  v / 2 ^ (n * 8 - (i * p.bits - b * 8) - p.bits) % 2 ^ p.bits

/-- Whether a sample lies in a 64-byte unit lost under R107. -/
def Picture.lost (pic : Picture) (p : Plane) (i y : Nat) : Bool :=
  let (b, n) := sampleBytes p i
  pic.dead.any fun d => d.1 == p.no && d.2.1 == y && decide (b / 64 ≤ d.2.2) && decide (d.2.2 ≤ (b + n - 1) / 64)

/-- A sample read under R107: none when its unit is lost. -/
def State.fetch (s : State) (pic : Picture) (no i y : Nat) : Option Nat :=
  match planeOf pic.fmt no with
  | none => none
  | some p => if pic.lost p i y then none else some (s.sample pic p i y * 2 ^ (16 - p.bits))

/-- Chroma line at luma line `y`, vertical step of R98: C is read at pair `i` of component `k` (0 Cb, 1 Cr). -/
def State.chromaV (s : State) (pic : Picture) (k i y : Nat) : Option Nat :=
  let at_ (j : Nat) := s.fetch pic 1 (2 * i + k) j
  if pic.fmt.sampling = 0 then
    let j := y / 2
    let j' := if y % 2 = 0 then j - 1 else min (j + 1) (pic.fmt.h / 2 - 1)
    match at_ j, at_ j' with
    | some a, some b => some ((3 * a + b + 2) / 4)
    | _, _ => none
  else at_ y

/-- Chroma component `k` at source pixel (x, y) (R98). -/
def State.chroma (s : State) (pic : Picture) (k x y : Nat) : Option Nat :=
  if pic.fmt.sampling = 2 then s.fetch pic (1 + k) x y
  else
    let i := x / 2
    if x % 2 = 0 then s.chromaV pic k i y
    else match s.chromaV pic k i y, s.chromaV pic k (min (i + 1) (pic.fmt.w / 2 - 1)) y with
      | some a, some b => some ((a + b + 1) / 2)
      | _, _ => none

/-- A coefficient rounded to signed Q2.22 (R99). -/
def q22 (num : Int) (den : Nat) : Int := roundAway (num * 2 ^ 22) den

/-- kRr, kGb, kGr, kBb from Kr and Kb in units of 1/10,000 (Table 4-2). -/
def matrixCoef (m : Nat) : Int × Int × Int × Int :=
  let kr : Int := if m = 0 then 2126 else 2627
  let kb : Int := if m = 0 then 722 else 593
  let kg : Int := 10000 - kr - kb
  (q22 (2 * (10000 - kr)) 10000, q22 (-2 * kb * (10000 - kb)) (10000 * kg).toNat,
   q22 (-2 * kr * (10000 - kr)) (10000 * kg).toNat, q22 (2 * (10000 - kb)) 10000)

/-- X of R99 for the three components, from normalised codes, with the Q2.22 coefficients and no other rounding
(log 12). -/
def toLinearInput (matrix : Nat) (full : Bool) (depth y cb cr : Nat) : Nat × Nat × Nat :=
  let d : Int := (2 ^ depthBits depth - 1) * 2 ^ (16 - depthBits depth)
  let dy : Int := if full then d else 56064
  let dc : Int := if full then d else 57344
  let yy : Int := if full then y else (y : Int) - 4096
  let pb : Int := (cb : Int) - 32768
  let pr : Int := (cr : Int) - 32768
  let k := matrixCoef matrix
  let mk (c : Int) : Nat :=
    (clampI 0 (2 ^ 24) (roundDiv ((yy * dc * 2 ^ 22 + c * dy) * 2 ^ 24) (dy * dc * 2 ^ 22).toNat)).toNat
  (mk (k.1 * pr), mk (k.2.1 * pb + k.2.2.1 * pr), mk (k.2.2.2 * pb))

/-! ### One canvas pixel (R97, R101, R106, R112) -/

/-- Table 4-1: window pixel of footprint pixel (a, b) for a window w by h; `orient` bit 2 mirrors first. -/
def windowPixel (orient w h a b : Nat) : Nat × Nat :=
  let fw := if orient % 2 = 0 then w else h
  let a := if bit orient 2 then fw - 1 - a else a
  match orient % 4 with
  | 0 => (a, b)
  | 1 => (b, h - 1 - a)
  | 2 => (w - 1 - a, h - 1 - b)
  | _ => (w - 1 - b, a)

abbrev Rgb := Nat × Nat × Nat

/-- COMP_BACKGROUND or LAYER_FILL as linear values. -/
def fillOf (n : Nat) : Rgb := (expandCode (bits n 47 32), expandCode (bits n 31 16), expandCode (bits n 15 0))

def blend1 (a : Nat) (b l : Nat) : Nat := ((b : Int) + (((l : Int) - b) * a + 32768) / 65536).toNat
def blend (a : Nat) (b l : Rgb) : Rgb := (blend1 a b.1 l.1, blend1 a b.2.1 l.2.1, blend1 a b.2.2 l.2.2)

/-- The buffer a layer shows in this frame. -/
def State.picture (s : State) (l : Nat) : Option Picture :=
  let run := s.layer l
  match run.showing with
  | none => none
  | some b =>
    let bind := s.natAt Obj.LAYER_BIND l 0
    if bind < 8 then some ⟨bufAddr bind (s.slot bind).epoch b 0, slotFormat s.rdAt bind, run.dead⟩
    else if bind = 0x10 then some ⟨bufAddr (8 + l) (s.still l).epoch b 0, stillFormat s.rdAt l, run.dead⟩
    else none

/-- A layer's contribution at source pixel (x, y): its linear value and a of R101. -/
def State.layerPixel (s : State) (l : Nat) (pic : Picture) (x y : Nat) : Option (Rgb × Nat) :=
  match s.fetch pic 0 x y, s.chroma pic 0 x y, s.chroma pic 1 x y with
  | some yy, some cb, some cr =>
    let alpha := if pic.fmt.alpha then (s.fetch pic 3 x y).map (· / 256) else some 255
    match alpha with
    | none => none
    | some al =>
      let (r, g, b) := toLinearInput (s.natAt Obj.LAYER_MATRIX l 0) (s.natAt Obj.LAYER_RANGE l 0 == 1)
        pic.fmt.depth yy cb cr
      let lin (k v : Nat) : Nat := (lutLinear (s.preLut l k) v).toNat
      let a := (al * s.natAt Obj.LAYER_OPACITY l 0 * 65536 + 32512) / 65025
      some ((lin 0 r, lin 1 g, lin 2 b), a)
  | _, _, _ => none

/-- One layer of the stack at a canvas pixel. -/
def State.underLayer (s : State) (cx cy l : Nat) (b : Rgb) : Rgb :=
  let o := s.natAt Obj.LAYER_ORIENT l 0
  let w := s.natAt Obj.LAYER_WIN_W l 0
  let h := s.natAt Obj.LAYER_WIN_H l 0
  let px := s.natAt Obj.LAYER_POS_X l 0
  let py := s.natAt Obj.LAYER_POS_Y l 0
  let fw := if o % 2 = 0 then w else h
  let fh := if o % 2 = 0 then h else w
  if px ≤ cx ∧ cx < px + fw ∧ py ≤ cy ∧ cy < py + fh then
    if (s.layer l).fill then fillOf (s.natAt Obj.LAYER_FILL l 0)
    else match s.picture l with
    | none => b
    | some pic =>
      let (u, v) := windowPixel o w h (cx - px) (cy - py)
      match s.layerPixel l pic (s.natAt Obj.LAYER_WIN_X l 0 + u) (s.natAt Obj.LAYER_WIN_Y l 0 + v) with
      | some (lin, a) => blend a b lin
      | none => b
  else b

/-- The listed layers from the bottom up (R95). -/
def State.layerOrder (s : State) : List Nat :=
  ((List.range 16).map fun i => s.natAt Obj.COMP_ORDER 0 i).filter fun l => decide (l < 15)

/-- The transparent Hearth fill of R110 for an image of `n` pixels. -/
def hearthDefault (n off : Nat) : Byte := if off < n then 16 else if off < 3 * n then 128 else 0

/-- Pixels of the Hearth image in force, and of its shadow size. -/
def State.hearthPixels (s : State) : Nat := s.nat Obj.HEARTH_WIDTH * s.nat Obj.HEARTH_HEIGHT
def State.hearthShadowPixels (s : State) : Nat :=
  (s.shAt Obj.HEARTH_WIDTH 0 0).toNat * (s.shAt Obj.HEARTH_HEIGHT 0 0).toNat

/-- Sample of plane `k` of the Hearth front at pixel index `i`; a pixel of a lost word is opaque white (R114). -/
def State.hearthSample (s : State) (k i : Nat) : Nat :=
  let n := s.hearthPixels
  let hit := (List.range 4).any fun p => s.video.hearth.lost.contains ((p * n + i) / 8)
  if hit then (if k = 0 then 235 else if k = 3 then 255 else 128)
  else (look (hearthDefault n (k * n + i)) (k * n + i) s.video.hearth.front).toNat

/-- The Hearth pixel index at a canvas pixel; none outside the footprint or with the layer disabled. -/
def State.hearthAt (s : State) (cx cy : Nat) : Option Nat :=
  let o := s.nat Obj.HEARTH_ORIENT
  let w := s.nat Obj.HEARTH_WIDTH
  let h := s.nat Obj.HEARTH_HEIGHT
  let px := s.nat Obj.HEARTH_POS_X
  let py := s.nat Obj.HEARTH_POS_Y
  let fw := if o % 2 = 0 then w else h
  let fh := if o % 2 = 0 then h else w
  if s.flag Obj.HEARTH_ENABLE ∧ px ≤ cx ∧ cx < px + fw ∧ py ≤ cy ∧ cy < py + fh then
    let (u, v) := windowPixel o w h (cx - px) (cy - py)
    some (v * w + u)
  else none

/-- R112: the Hearth pixel over a chain code, per component; and whether the pixel is protected. -/
def State.overHearth (s : State) (cx cy : Nat) (c : Rgb) : Rgb × Bool :=
  match s.hearthAt cx cy with
  | none => (c, false)
  | some i =>
    let al := s.hearthSample 3 i
    let (r, g, b) := toLinearInput 0 false 0 (s.hearthSample 0 i * 256) (s.hearthSample 1 i * 256)
      (s.hearthSample 2 i * 256)
    let lh (x : Nat) : Nat := ((lutLinear powerTable x).toNat * s.nat Obj.HEARTH_LEVEL + 16384) / 32768
    let ah := (al * 65536 + 127) / 255
    let mix (c x : Nat) : Nat := if al = 0 then c else encodeLinear (blend1 ah (expandCode c) (lh x))
    ((mix c.1 r, mix c.2.1 g, mix c.2.2 b), decide (s.nat Obj.HEARTH_PROTECT_MIN ≤ al))

/-- The chain pixel at a canvas pixel and its protected mark (R95 to R112). -/
def State.canvasPixel (s : State) (cx cy : Nat) : Rgb × Bool :=
  let b := s.layerOrder.foldl (fun b l => s.underLayer cx cy l b) (fillOf (s.nat Obj.COMP_BACKGROUND))
  s.overHearth cx cy (lutPost (s.postLut 0) b.1, lutPost (s.postLut 1) b.2.1, lutPost (s.postLut 2) b.2.2)

/-- The pixels and protected marks of line `y` of the tile at address `a` of chimney `c`. -/
def State.composeLine (s : State) (c a y : Nat) : List (Rgb × Bool) :=
  let e := viewEntry s.rdAt c a
  (List.range e.tw).map fun x =>
    let p := e.canvas x y
    s.canvasPixel p.1 p.2

/-- Protected pixels of the canvas that a mapped tile shows (HEARTH_PROTECTED_PX). -/
def State.protectedCount (s : State) : Nat :=
  if s.flag Obj.HEARTH_ENABLE then
    let o := s.nat Obj.HEARTH_ORIENT
    let w := s.nat Obj.HEARTH_WIDTH
    let h := s.nat Obj.HEARTH_HEIGHT
    let fw := if o % 2 = 0 then w else h
    let fh := if o % 2 = 0 then h else w
    let es := (List.range 8).flatMap fun c => (mappedTiles s.rdAt c).map fun a => viewEntry s.rdAt c a
    sumNat ((List.range fh).map fun b => ((List.range fw).filter fun a =>
      let cx := s.nat Obj.HEARTH_POS_X + a
      let cy := s.nat Obj.HEARTH_POS_Y + b
      (es.any fun e => decide (e.tx ≤ cx) && decide (cx < e.tx + e.fw) && decide (e.ty ≤ cy) &&
        decide (cy < e.ty + e.fh)) && (s.overHearth cx cy (0, 0, 0)).2).length)
  else 0

/-! ### LAYER_FETCH_ERROR (R107) -/

def layerFetchError (l plane line unit : Nat) (s : State) : State :=
  if s.isSender then
    let x := s.layer l
    let s := s.setLayer l { x with dead := (plane, line, unit) :: x.dead }
    (s.bumpAt Obj.LAYER_FETCH_ERRORS l 0).raise 0x35 l unit
  else s

def execLayerFetchError (t : Cyc) (layer plane line unit : Nat) (s : State) : Host.Outcome State Fault Refusal :=
  s.run t (layerFetchError layer plane line unit)

/-! ### The Hearth images (R108 to R110, R114) -/

def State.setHearth (s : State) (h : Hearth) : State := { s with video := { s.video with hearth := h } }

/-- HEARTH_BACK_CRC and HEARTH_FRONT_CRC over the whole packed images (R109). -/
def State.backCrc (s : State) : State :=
  let n := s.hearthShadowPixels
  s.wr Obj.HEARTH_BACK_CRC (crc32 (readBytes (hearthDefault n) s.video.hearth.back 0 (4 * n)) : Nat)
def State.frontCrc (s : State) : State :=
  let n := s.hearthPixels
  s.wr Obj.HEARTH_FRONT_CRC (crc32 (readBytes (hearthDefault n) s.video.hearth.front 0 (4 * n)) : Nat)

def State.hearthShow (s : State) : State :=
  s.wr Obj.HEARTH_STATE (if s.video.hearth.lost ≠ [] then 2 else if s.flag Obj.HEARTH_ENABLE then 1 else 0)

def State.hearthStore (s : State) (off : Nat) (bytes : List Byte) : State :=
  let h := s.video.hearth
  (s.setHearth { h with back := writeBytes (hearthDefault s.hearthShadowPixels) h.back off bytes,
                        written := true }).backCrc

/-- HEARTH_IMAGE's window: refused with BUSY while an armed area-21 commit would swap, held during the copy (true). -/
def State.hearthWrite (s : State) (slot off : Nat) (bytes : List Byte) : State × Nat × Bool :=
  let h := s.video.hearth
  if h.written && s.sess.armed.any (fun a => bit a.scope 21) then (s, st.BUSY, false)
  else if h.copying then (s.setHearth { h with held := h.held ++ [(slot, off, bytes)] }, st.OK, true)
  else (s.hearthStore off bytes, st.OK, false)

/-- R110: a changed shadow size reformats the back image, transparent. The shadow already holds the new value. -/
def State.hearthReformat (s : State) : State :=
  (s.setHearth { s.video.hearth with back := [], written := true }).backCrc

/-- HEARTH_SWAP at the target boundary of an area-21 commit. -/
def State.hearthSwap (s : State) : State :=
  let h := s.video.hearth
  let s := if h.written then
      (s.setHearth { h with front := h.back, written := false, copying := true, bad := [],
                            lost := [] }).hold 0x37 0 false
    else s
  s.frontCrc.hearthShow

/-- HEARTH_COPY_DONE: the back and the second copy equal the front, save a back image reformatted meanwhile (R110), so the words
of the second copy are sound again; held writes are made and answered. -/
def hearthCopyDone (s : State) : State :=
  let h := s.video.hearth
  if h.copying then
    let s := (s.setHearth { h with copying := false, back := if h.written then h.back else h.front, held := [],
                                    bad := h.bad.filter fun w => decide (w < 2 ^ 20) }).backCrc
    h.held.foldl (fun s w => (s.hearthStore w.2.1 w.2.2).finish w.1) s
  else s

def execHearthCopyDone (t : Cyc) (s : State) : Host.Outcome State Fault Refusal := s.run t hearthCopyDone

/-- HEARTH_WORD_ERROR (R114): copy 0's word is read from copy 1; a word bad in both copies, or while the single new
copy stands alone, is lost. -/
def hearthWordError (copy word : Nat) (s : State) : State :=
  if s.isSender ∧ copy < 2 ∧ word < (s.hearthPixels + 1) / 2 then
    let h := s.video.hearth
    let bad := addMember (copy * 2 ^ 20 + word) h.bad
    let s := s.setHearth { h with bad := bad }
    let both := bad.contains word && bad.contains (2 ^ 20 + word) || h.copying && copy == 0
    if both then
      (s.setHearth { h with bad := bad, lost := addMember word h.lost }).raiseHeld 0x37 0 (word % 65536) |>.hearthShow
    else if copy = 0 then (s.bump Obj.HEARTH_CORRECTED).raise 0x36 0 (word % 65536)
    else s
  else s

def execHearthWordError (t : Cyc) (copy word : Nat) (s : State) : Host.Outcome State Fault Refusal :=
  s.run t (hearthWordError copy word)

/-- HEARTH_SCRUB: each damaged word is rewritten from the other copy; a word lost in both stays. -/
def hearthScrub (s : State) : State :=
  let h := s.video.hearth
  s.setHearth { h with bad := h.bad.filter fun w => h.lost.contains (w % 2 ^ 20) }

def execHearthScrub (t : Cyc) (s : State) : Host.Outcome State Fault Refusal := s.run t hearthScrub

end Sys2Proof.Machine
end

