-- ==== Sys2Proof/Machine/Chimney.lean ====
section
/-! DEFINITION. Ports as the chapters share them, and the sender's side of a chimney: egress queues and credits,
address assignment, STATUS and reachability (R123, R124, R184, R185, R193 to R195, R209). -/

namespace Sys2Proof.Machine

/-! ### Ports -/

def State.port (s : State) (p : Nat) : Port := look {} p s.flue.ports
def State.setPort (s : State) (p : Nat) (x : Port) : State :=
  { s with flue := { s.flue with ports := put {} p x s.flue.ports } }
def State.chim (s : State) (c : Nat) : Chim := look {} c s.flue.chims
def State.setChim (s : State) (c : Nat) (x : Chim) : State :=
  { s with flue := { s.flue with chims := put {} c x s.flue.chims } }
def State.tile (s : State) (c a : Nat) : TileView := look {} (c * 256 + a) s.flue.tiles
def State.setTile (s : State) (c a : Nat) (x : TileView) : State :=
  { s with flue := { s.flue with tiles := put {} (c * 256 + a) x s.flue.tiles } }
def State.paths (s : State) : Paths := s.flue.paths
def State.setPaths (s : State) (x : Paths) : State := { s with flue := { s.flue with paths := x } }

def State.rxState (s : State) (p : Nat) : Nat := s.natAt Obj.PHY_RX_STATE p 0
def State.txState (s : State) (p : Nat) : Nat := s.natAt Obj.PHY_TX_STATE p 0
def State.setRx (s : State) (p v : Nat) : State := s.wrAt Obj.PHY_RX_STATE p 0 v
def State.setTx (s : State) (p v : Nat) : State := s.wrAt Obj.PHY_TX_STATE p 0 v

/-- The receive direction is up (R147). -/
def State.rxUp (s : State) (p : Nat) : Bool := s.rxState p == 6

/-- The transmit direction is in link frames, with groups or without: only then do packets leave (R156, R159, R161). -/
def State.sends (s : State) (p : Nat) : Bool := s.txState p == 2 || s.txState p == 3

/-- FL2 to FL15 of a tile are powered down (R4, R30). -/
def State.deadPort (s : State) (p : Nat) : Bool := s.isTile && decide (2 ≤ p)

/-- The chimney of a port in force, and whether the port is its B port. -/
def State.chimneyOf (s : State) (p : Nat) : Option (Nat × Bool) :=
  ((List.range 8).find? fun c => s.natAt Obj.CHIM_PORT_A 0 c == p || s.natAt Obj.CHIM_PORT_B 0 c == p).map fun c =>
    (c, s.natAt Obj.CHIM_PORT_A 0 c != p)

/-- A port that a chimney path or an ingest slot in force names, and in a tile FL0 and FL1 (R155). -/
def State.named (s : State) (p : Nat) : Bool :=
  if s.isSender then (s.chimneyOf p).isSome || (s.slotOf p).isSome else decide (p < 2)

/-- The port's block runs (R159). -/
def State.portRuns (s : State) (p : Nat) : Bool :=
  if s.isSender then s.named p else decide (p < 2) && s.rd Obj.TILE_STATE != 0

/-- The temperature band of a port (R351): its sensor site is p / 2 (Table 16-1), in 0.125 degC. -/
def State.band (s : State) (p : Nat) : Nat :=
  (clampI 0 7 ((s.rdAt Obj.THERM_SITE_TEMP 0 (p / 2) + 320) / 160)).toNat

/-! ### Bit arrays of two entries per chimney (CHIM_REACH_A, COMMIT_TILE_EXCEPT, FLT_WALL_ALARM) -/

def State.tileBit (s : State) (r : ObjRow) (c a : Nat) : Bool :=
  bit (s.natAt r 0 (2 * c + (a - 1) / 64)) ((a - 1) % 64)
def State.setTileBit (s : State) (r : ObjRow) (c a : Nat) (b : Bool) : State :=
  let j := 2 * c + (a - 1) / 64
  s.wrAt r 0 j (setBit (s.natAt r 0 j) ((a - 1) % 64) b : Nat)

/-- Unreachable on both paths (R209). -/
def State.unreachable (s : State) (c a : Nat) : Bool :=
  !s.tileBit Obj.CHIM_REACH_A c a && !s.tileBit Obj.CHIM_REACH_B c a

def State.mapped (s : State) (c : Nat) : List Nat := mappedTiles s.rdAt c

/-! ### Credits (R185) -/

/-- Counter of a credited class on a path in the views' lists: a7 a6 a0 b7 b6 b0. -/
def counterOf (pathB : Bool) (cls : Nat) : Nat :=
  (if pathB then 3 else 0) + (if cls = 7 then 0 else if cls = 6 then 1 else 2)

/-- Entries of a tile's queue (Table 7-6). -/
def queueDepth (cls : Nat) : Nat := if cls = 7 then 4 else 32

def TileView.hasCredit (v : TileView) (pathB : Bool) (cls : Nat) : Bool :=
  let i := counterOf pathB cls
  decide ((v.sent.getD i 0 + 2 ^ 16 - v.freed.getD i 0) % 2 ^ 16 < queueDepth cls)

/-- Whether the destination of a credited packet has a free entry; ASSIGN (0x24) is not credited. -/
def State.credited (s : State) (c : Nat) (pathB : Bool) (k : OutPkt) : Bool :=
  if k.typ = 0x24 then true
  else if k.dst = 0xFF then (s.mapped c).all fun a => (s.tile c a).hasCredit pathB k.cls
  else (s.tile c k.dst).hasCredit pathB k.cls

def State.spend1 (s : State) (c : Nat) (pathB : Bool) (cls a : Nat) : State :=
  let v := s.tile c a
  let i := counterOf pathB cls
  s.setTile c a { v with sent := setAt v.sent i ((v.sent.getD i 0 + 1) % 2 ^ 16) }

/-- A credited packet goes out: counted at its destination. -/
def State.spend (s : State) (c : Nat) (pathB : Bool) (k : OutPkt) : State :=
  if k.typ = 0x24 then s
  else if k.dst = 0xFF then (s.mapped c).foldl (fun s a => s.spend1 c pathB k.cls a) s
  else s.spend1 c pathB k.cls k.dst

/-- The later of two counts modulo 2^16. -/
def laterCount (old new : Nat) : Nat := if (new + 2 ^ 16 - old) % 2 ^ 16 < 2 ^ 15 then new else old

def creditEffect (c a : Nat) (counts : List Nat) (s : State) : State :=
  if s.isSender ∧ c < 8 ∧ 1 ≤ a ∧ a ≤ 128 then
    let v := s.tile c a
    s.setTile c a { v with freed := List.zipWith laterCount v.freed counts }
  else s

/-! ### Address assignment at the sender (R123, R124, R195) -/

/-- The 128 map bits of an ASSIGN (Table 7-4), bit a - 1 for address a. -/
def State.mapBits (s : State) (c : Nat) : Nat := (s.mapped c).foldl (fun n a => setBit n (a - 1) true) 0

/-- A message on both chimney ports. -/
def State.onBoth (s : State) (c : Nat) (k : Bool → OutPkt) : State :=
  (s.enqueue (s.natAt Obj.CHIM_PORT_A 0 c) (k false)).enqueue (s.natAt Obj.CHIM_PORT_B 0 c) (k true)

/-- Runs the assignment of R123 on a configured chimney. -/
def State.assignRun (s : State) (c : Nat) : State :=
  if chimneyOn s.rdAt c then
    let n := s.natAt Obj.WALL_CHIM_TILES 0 c
    let s := s.onBoth c fun pathB =>
      { cls := 6, blocks := 3, dst := 0xFF, at_ := s.now, typ := 0x24,
        words := [if pathB then (n : Int) else 1, if pathB then 1 else 0, (s.mapBits c : Nat)] }
    s.setChim c { s.chim c with lastAssign := some s.now }
  else s

/-- CHIM_STATE: 0 unconfigured, 3 both ports down, otherwise open (1) or closed (2) as the ring was last found. -/
def State.showChim (s : State) (c : Nat) (closed : Bool) : State :=
  s.wrAt Obj.CHIM_STATE 0 c
    (if !chimneyOn s.rdAt c then 0
     else if !s.rxUp (s.natAt Obj.CHIM_PORT_A 0 c) && !s.rxUp (s.natAt Obj.CHIM_PORT_B 0 c) then 3
     else if closed then 2 else 1)

def assignReturn (c hop : Nat) (dirB : Bool) (s : State) : State :=
  if !s.isSender || dirB || !chimneyOn s.rdAt c then s
  else
    let found := min (hop - 1) 129
    let s := s.wrAt Obj.WALL_CHIM_FOUND 0 c found
    let differs := found != s.natAt Obj.WALL_CHIM_TILES 0 c
    let s := (if differs then s.raise 0x3A c found else s).hold 0x3A (256 + c) differs
    match (s.chim c).left with
    | none => s
    | some t0 =>
      if s.now ≤ t0 + ms 10 then
        ((s.setChim c { s.chim c with left := none }).showChim c true).hold 0x10 c false
      else s

def execAssignReturn (t : Cyc) (chim hop : Nat) (dirB : Bool) (s : State) : Host.Outcome State Fault Refusal :=
  s.run t (assignReturn chim hop dirB)

/-- ASSIGN_PERIODIC: 1 s after the last assignment. -/
def assignPeriodic (c : Nat) (s : State) : State :=
  match (s.chim c).lastAssign with
  | some t0 => if s.isSender ∧ t0 + seconds 1 ≤ s.now then s.assignRun c else s
  | none => s

def execAssignPeriodic (t : Cyc) (chim : Nat) (s : State) : Host.Outcome State Fault Refusal :=
  s.run t (assignPeriodic chim)

/-- RING_CLOSE_TIMEOUT: 10 ms without the return. -/
def ringCloseTimeout (c : Nat) (s : State) : State :=
  match (s.chim c).left with
  | some t0 =>
    if s.isSender ∧ t0 + ms 10 ≤ s.now then
      ((s.setChim c { s.chim c with left := none }).showChim c false).raiseHeld 0x10 c 0
    else s
  | none => s

def execRingCloseTimeout (t : Cyc) (chim : Nat) (s : State) : Host.Outcome State Fault Refusal :=
  s.run t (ringCloseTimeout chim)

/-! ### STATUS at the sender (R54, R124, R209, R367, R472) -/

/-- The sender sends OPEN for session 0 of a tile, with its certificate (R364, R367); the session is open to it once the
reply has come. -/
def State.openSession0 (s : State) (c a : Nat) : State :=
  ((s.setTile c a { s.tile c a with s0open := false }).queueCtrl (s.chimPorts c) 6 a
    (24 + 227 + Config.devCert.length)).send (.openTile c a)

/-- A sender's own message in session 0 of a tile, or of every tile (0xFF), of a chimney: class 6 on both paths (R44, R180). -/
def State.toTilesAs (s : State) (c a op seq payload : Nat) (words : List Int) : State :=
  (s.queueCtrl (s.chimPorts c) 6 a (24 + payload + 32)).send (.toTiles c a op seq words)

/-- The message takes the next SEQ. A message to every tile carries one SEQ, so the sender numbers all that it sends to the tiles
of a chimney in one count: DESIGN CHOICE (log 136). The message with SEQ 0xFFFFFFFF goes and ends those sessions, and the count
starts again (R45). -/
def State.toTiles (s : State) (c a op payload : Nat) (words : List Int) : State :=
  let n := (s.chim c).seq + 1
  let s := (s.setChim c { s.chim c with seq := n }).toTilesAs c a op n payload words
  if n < 0xFFFFFFFF then s
  else
    let s := s.setChim c { s.chim c with seq := 0 }
    (s.mapped c).foldl (fun s b => s.setTile c b { s.tile c b with s0open := false }) s

/-- ARM to one tile, or to every tile of a chimney (0xFF), on both paths (R52 step 2). -/
def State.sendArm (s : State) (c a id scope target gen : Nat) : State :=
  s.toTiles c a 0x21 20 [id, scope, target, gen]

/-- LEFT_OUT_TILE_REARM (R53): a left-out tile whose path returns gets the same set at WFC plus the lead. -/
def State.rearm (s : State) (c a : Nat) : State :=
  if s.unreachable c a then s
  else
    let mine := s.sess.walls.filter fun w => w.leftOut.contains (c, a)
    let s := mine.foldl (fun s w => s.sendArm c a w.id w.scope (s.nat Obj.WFC + s.nat Obj.COMMIT_LEAD) w.gen) s
    { s with sess := { s.sess with
      walls := s.sess.walls.map fun w => { w with leftOut := w.leftOut.filter fun q => q != (c, a) } } }

/-- R472: the bit of a left-out or divergent tile clears when its STATUS reports the sender's generation. -/
def State.settle (s : State) (c a gen : Nat) : State :=
  if s.sess.waitExcept.contains (c, a) && gen == s.nat Obj.COMMIT_GENERATION then
    let s := s.setTileBit Obj.COMMIT_TILE_EXCEPT c a false
    let s := { s with sess := { s.sess with waitExcept := s.sess.waitExcept.filter fun q => q != (c, a) } }
    s.hold 0x7A (c * 256 + a) false
  else s

/-- addr-mismatch of a tile, from its STATUS (R124): once for the first tile of a chimney, held for each. -/
def State.noteMismatch (s : State) (c a : Nat) (b : Bool) : State :=
  let any := (List.range 128).any fun n => s.flt.conds.contains (0x3A * 65536 + 0x1000 + c * 256 + n + 1)
  (if b && !any then s.raise 0x3A c a else s).hold 0x3A (0x1000 + c * 256 + a) b

def statusEffect (c : Nat) (p : StatusPkt) (s : State) : State :=
  let a := p.src
  if !s.isSender then s
  else if !(s.mapped c).contains a then s.noteMismatch c a p.mismatch
  else
    let v := s.tile c a
    let firstBoot := p.boot && (match v.status with | some q => !q.boot | none => true)
    let s := s.setTile c a
      { v with
        status := some p, statusAt := s.now, reached := v.reached || bit p.flags 7 || bit p.flags 6, silent := false,
        sent := if firstBoot then [0, 0, 0, 0, 0, 0] else v.sent,
        freed := if firstBoot then [0, 0, 0, 0, 0, 0] else v.freed }
    let s := (s.setTileBit Obj.CHIM_REACH_A c a (bit p.flags 7)).setTileBit Obj.CHIM_REACH_B c a (bit p.flags 6)
    let gone := s.unreachable c a
    let s := if gone then
        (if v.reached && !v.lost then (s.setTile c a { s.tile c a with lost := true }).raiseFor 0x11 (c * 256 + a) c a
         else s)
      else (s.setTile c a { s.tile c a with lost := false }).hold 0x11 (c * 256 + a) false
    let s := if p.boot then (s.setTileBit Obj.FLT_WALL_ALARM c a false).showPins else s
    let s := ((s.noteMismatch c a p.mismatch).settle c a p.gen).rearm c a
    if firstBoot || !p.open0 || p.epoch0 != v.s0epoch then s.openSession0 c a else s

def execStatus (t : Cyc) (chim : Nat) (p : StatusPkt) (s : State) : Host.Outcome State Fault Refusal :=
  s.run t (statusEffect chim p)

def reachTimeout (c a : Nat) (s : State) : State :=
  let v := s.tile c a
  if s.isSender ∧ (s.mapped c).contains a ∧ v.status.isSome ∧ v.statusAt + ms 100 ≤ s.now then
    let s := (s.setTileBit Obj.CHIM_REACH_A c a false).setTileBit Obj.CHIM_REACH_B c a false
    if v.reached && !v.lost then
      (s.setTile c a { v with lost := true }).raiseFor 0x11 (c * 256 + a) c a
    else s
  else s

def execReachTimeout (t : Cyc) (chim tile : Nat) (s : State) : Host.Outcome State Fault Refusal :=
  s.run t (reachTimeout chim tile)

def firstStatusTimeout (c a : Nat) (s : State) : State :=
  let v := s.tile c a
  match v.entryAt with
  | some t0 =>
    if s.isSender ∧ (s.mapped c).contains a ∧ v.status.isNone ∧ ¬ v.silent ∧ t0 + seconds 10 ≤ s.now then
      (s.setTile c a { v with silent := true }).raiseFor 0x11 (c * 256 + a) c a
    else s
  | none => s

def execFirstStatusTimeout (t : Cyc) (chim tile : Nat) (s : State) : Host.Outcome State Fault Refusal :=
  s.run t (firstStatusTimeout chim tile)

/-- COMMIT_DIVERGENCE_TIMEOUT (R54): more than one commit lead after the target of the wall-wide commit that set the sender's
generation, a tile's still differs. -/
def commitDivergenceTimeout (c a : Nat) (s : State) : State :=
  match (s.tile c a).status with
  | some p =>
    if s.isSender ∧ (s.mapped c).contains a ∧ p.gen ≠ s.nat Obj.COMMIT_GENERATION
        ∧ s.sess.genAt + s.nat Obj.COMMIT_LEAD < s.nat Obj.WFC then
      let s := (s.setTileBit Obj.COMMIT_TILE_EXCEPT c a true).raiseFor 0x7A (c * 256 + a) c a
      { s with sess := { s.sess with waitExcept :=
        (c, a) :: s.sess.waitExcept.filter fun q => q != (c, a) } }
    else s
  | none => s

def execCommitDivergenceTimeout (t : Cyc) (chim tile : Nat) (s : State) : Host.Outcome State Fault Refusal :=
  s.run t (commitDivergenceTimeout chim tile)

/-- The departure deadline D_j of packet j of a chimney, in 2^-18 ns of wall time (R122). -/
def State.deadline (s : State) (c j : Nat) : Nat :=
  s.time.boundary + departure s.rate (lineCount s.rdAt c) j * 2 ^ 18

/-- COMPOSITOR_DEADLINE_MISS (R105): the chimney's next line packet that neither path has sent, that is not withheld already, and
whose departure deadline has come (R122), is withheld from both paths. -/
def compositorMiss (c : Nat) (s : State) : State :=
  if s.isSender ∧ chimneyOn s.rdAt c then
    let x := s.chim c
    let j := max (s.egress (s.natAt Obj.CHIM_PORT_A 0 c)).lineAt (s.egress (s.natAt Obj.CHIM_PORT_B 0 c)).lineAt
    match (((lineSequence s.rdAt c).zipIdx.drop j).find? fun q => !x.skip.contains q.1) with
    | some (q, i) =>
      if s.deadline c i ≤ s.wall18 then
        ((s.setChim c { x with skip := q :: x.skip }).bump Obj.COMP_LATE_PACKETS).raise 0x38 c 0
      else s
    | none => s
  else s

end Sys2Proof.Machine
end

