-- ==== Sys2Proof/Machine/Record.lean ====
section
/-! DEFINITION. Bytes of the flash devices: where the slot pairs lie (Tables 15-3 and 18-1), slot headers and flags (R355,
Table 14-6), the payload of each kind of record, and the module package (Table 15-4, R373). -/

namespace Sys2Proof.Machine

/-- A signed field of n bits, and its value taken from the low n bits of a number. -/
def toField (n : Nat) (v : Int) : Nat := (v.emod (2 ^ n)).toNat
def ofField (n v : Nat) : Int := if 2 ^ n ≤ 2 * (v % 2 ^ n) then (v % 2 ^ n : Nat) - (2 ^ n : Int) else (v % 2 ^ n : Nat)

/-! ### Numbers in byte lists, most significant byte first -/

/-- The number of n bytes at a place. -/
def numAt (l : List Byte) (place n : Nat) : Nat := ofBytes ((l.drop place).take n)

/-- k groups of n entries. -/
def groupsOf {α : Type} (n : Nat) : Nat → List α → List (List α)
  | 0, _ => []
  | k + 1, l => l.take n :: groupsOf n k (l.drop n)

/-- k numbers of n bytes each. -/
def numsOf (n k : Nat) (l : List Byte) : List Nat := (groupsOf n k l).map ofBytes

/-! ### Sets (R373) -/

/-- 72-bit words of a pixel record (R239). -/
def pixelWords (lamps : Nat) : Nat := if lamps = 4 then 4 else 3

/-- Length of a set: the table block and the pixel records. -/
def setLen (lamps pixels : Nat) : Nat := 512 + pixels * (9 * pixelWords lamps)

def setOf (lamps pixels : Nat) (temp : Int) (l : List Byte) : TempSet :=
  { temp := temp, h := numsOf 2 28 l, e := (numsOf 2 84 (l.drop 56)).map (ofField 16), aging := numsOf 2 64 (l.drop 224),
    pixels := groupsOf (pixelWords lamps) pixels (numsOf 9 (pixels * pixelWords lamps) (l.drop 512)) }

def setBytes (t : TempSet) : List Byte :=
  t.h.flatMap (toBytes 2) ++ t.e.flatMap (fun v => toBytes 2 (toField 16 v)) ++ t.aging.flatMap (toBytes 2)
    ++ List.replicate 160 0 ++ t.pixels.flatMap fun p => p.flatMap (toBytes 9)

/-! ### The package of a module (Table 15-4) -/

def pkgLamps (f : ModuleFound) : Nat := numAt f.package 6 1
def pkgSerial (f : ModuleFound) : Nat := numAt f.package 8 8
def pkgWidth (f : ModuleFound) : Nat := numAt f.package 16 2
def pkgHeight (f : ModuleFound) : Nat := numAt f.package 18 2
def pkgRated (f : ModuleFound) : Nat := numAt f.package 20 4
def pkgDeltaD (f : ModuleFound) : Nat := numAt f.package 24 4
def pkgTemp (f : ModuleFound) (i : Nat) : Int := ofField 16 (numAt f.package (28 + 2 * i) 2)
def pkgPixels (f : ModuleFound) : Nat := pkgWidth f * pkgHeight f

/-- MAGIC and FORMAT (step 2 of R374). -/
def pkgMagicOk (f : ModuleFound) : Bool := numAt f.package 0 4 == 0x58504B31 && numAt f.package 4 2 == 1

/-- Set i, at byte 256 + i * SET_LEN. -/
def pkgSet (f : ModuleFound) (i : Nat) : TempSet :=
  setOf (pkgLamps f) (pkgPixels f) (pkgTemp f i) (f.package.drop (256 + i * numAt f.package 34 4))

def pkgSets (f : ModuleFound) : List TempSet := (List.range 3).map (pkgSet f)

/-! ### Records (R353, R354, R377, R378, R405, R414) -/

/-- KIND of a record (Table 14-6). -/
def Payload.kind : Payload → Nat
  | .field .. => 1 | .link _ => 2 | .trim _ => 3 | .dose .. => 4 | .burn .. => 5 | .ash .. => 6 | .boot _ => 7
  | .config .. => 8

/-- FORMAT: that of the configuration for a configuration area (R414), 1 otherwise. -/
def Payload.format : Payload → Nat
  | .config f .. => f
  | _ => 1

/-- INDEX: the set index for kind 1. -/
def Payload.index : Payload → Nat
  | .field i _ => i
  | _ => 0

/-- The payload's bytes. A configuration area's layout is its firmware's own (R414), free. The manual gives the trim record no
layout: its 24 offsets are I16 in site order, DESIGN CHOICE (log 151). -/
def Payload.bytes : Payload → List Byte
  | .boot c => c.flatMap fun q => [BitVec.ofNat 8 q.1, BitVec.ofNat 8 q.2.1, BitVec.ofNat 8 q.2.2, 0]
  | .config f nums blobs hearth => Config.configBytes f nums blobs hearth
  | .link bands => bands.flatMap (toBytes 8)
  | .trim offsets => offsets.flatMap fun v => toBytes 2 (toField 16 v)
  | .ash seq log => toBytes 4 seq ++ logBytes seq log
  | .field _ f =>
    if f.revert then []
    else toBytes 8 f.serial ++ toBytes 16 f.digest ++ toBytes 2 (toField 16 f.set.temp) ++ List.replicate 6 0
      ++ setBytes f.set ++ f.hist.flatMap (toBytes 4)
  | .dose serial d => toBytes 8 serial ++ List.replicate 8 0 ++ d.flatMap (toBytes 4)
  | .burn serial b h => toBytes 8 serial ++ toBytes 8 b ++ toBytes 4 h

/-- Header and payload as a store writes them; `written` in 2^-18 ns. -/
def recordBody (seq written : Nat) (p : Payload) : List Byte :=
  let pl := p.bytes
  let h := toBytes 4 0x58434C31 ++ toBytes 1 p.kind ++ toBytes 1 p.format ++ toBytes 2 p.index ++ toBytes 4 seq
    ++ toBytes 4 pl.length ++ toBytes 12 (time96 written)
  h ++ toBytes 4 (crc32 (h ++ pl)) ++ pl

/-- The commit flag of a slot. -/
def recordFlag (seq : Nat) : List Byte := toBytes 4 0xA55AC33C ++ toBytes 4 seq

/-- A slot is valid when its flag is intact, its flag SEQ equals its header SEQ, and its CRC is correct (R356): SEQ and payload. -/
def readSlot (b : SlotBytes) : Option (Nat × List Byte) :=
  let seq := numAt b.body 8 4
  let pl := (b.body.drop 32).take (numAt b.body 12 4)
  if numAt b.flag 0 4 == 0xA55AC33C && numAt b.flag 4 4 == seq && numAt b.body 28 4 == crc32 (b.body.take 28 ++ pl) then
    some (seq, pl)
  else none

/-- A record of the module store read back: pair k holds field set k for k = 0 to 2, then dose and burn hours. -/
def modulePayload (lamps pixels k : Nat) (pl : List Byte) : Payload :=
  if k < 3 then
    let t := pl.drop 32
    .field k { serial := numAt pl 0 8, digest := numAt pl 8 16, revert := pl.isEmpty,
               set := setOf lamps pixels (ofField 16 (numAt pl 24 2)) t, hist := numsOf 4 16 (t.drop (setLen lamps pixels)) }
  else if k = 3 then .dose (numAt pl 0 8) (numsOf 4 (pixels * lamps) (pl.drop 16))
  else .burn (numAt pl 0 8) (numAt pl 8 8) (numAt pl 16 4)

/-- Slot pair k of a module as a binding reads it (step 5 of R374). -/
def foundPair (f : ModuleFound) (k : Nat) : Slot × Slot :=
  let b := f.slots.getD k (⟨[], []⟩, ⟨[], []⟩)
  let of (x : SlotBytes) : Slot := (readSlot x).map fun q => (q.1, modulePayload (pkgLamps f) (pkgPixels f) k q.2)
  (of b.1, of b.2)

/-! ### Places (Tables 15-3 and 18-1) -/

/-- Address and length of a slot; regions are those of `Nv`. -/
def slotPlace (region k : Nat) : Nat × Nat :=
  match region with
  | 1 => (0x10000 + 0x1000 * k, 0x1000)
  | 2 => (0x12000 + 0x2000 * k, 0x2000)
  | 3 => (0x16000 + 0x1000 * k, 0x1000)
  | 4 => (0x18000 + 0x1000 * k, 0x1000)
  | 5 => (0x100000 + 0x1000000 * k, 0x1000000)
  | r =>
    let i := (r - 16) % 8
    if i < 3 then (0x210000 + 0xA0000 * (2 * i + k), 0xA0000)
    else if i = 3 then (0x5D0000 + 0x50000 * k, 0x50000) else (0x670000 + 0x1000 * k, 0x1000)

/-- The flash device of a region: 0 the boot flash, 1 + m the store of module m. -/
def deviceOf (region : Nat) : Nat := if region < 16 then 0 else 1 + (region - 16) / 8

/-- The sectors that a store erases, as address and length: the slot; for a configuration area those of the record and of the
flag page alone (R64). -/
def eraseRanges (region k len : Nat) : List (Nat × Nat) :=
  let p := slotPlace region k
  if region = 5 then [(p.1, ceilDiv len 4096 * 4096), (p.1 + p.2 - 4096, 4096)] else [p]

/-- What a store sends its flash device before the flag (steps 2 and 3 of R356). -/
def bodyOps (region k seq written : Nat) (p : Payload) : List Tx :=
  let b := recordBody seq written p
  (eraseRanges region k b.length).map (fun q => Tx.flashErase (deviceOf region) q.1 q.2)
    ++ [Tx.flashWrite (deviceOf region) (slotPlace region k).1 b]

/-- The flag, in the slot's last 256-byte page (step 5). -/
def flagOp (region k seq : Nat) : Tx :=
  Tx.flashWrite (deviceOf region) ((slotPlace region k).1 + (slotPlace region k).2 - 256) (recordFlag seq)

end Sys2Proof.Machine
end

