-- ==== Sys2Proof/Machine/Flash.lean ====
section
/-! DEFINITION. Slot pairs on the flash devices (R355 to R357, R412): which record counts, and how a store begins and
ends. Region numbers are those of `Nv`; device 0 is the boot flash, 1 + m the store of module m. -/

namespace Sys2Proof.Machine

def State.setNv (s : State) (n : Nv) : State := { s with nv := n }

def State.slotPair (s : State) (region : Nat) : Slot × Slot := look (none, none) region s.nv.slots

/-- The slot with the newest valid record (R356). -/
def newestSlot (p : Slot × Slot) : Option Nat :=
  match p.1, p.2 with
  | none, none => none
  | some _, none => some 0
  | none, some _ => some 1
  | some a, some b => some (if a.1 < b.1 then 1 else 0)

def slotIn (p : Slot × Slot) (k : Nat) : Slot := if k = 0 then p.1 else p.2
def setSlotIn (p : Slot × Slot) (k : Nat) (x : Slot) : Slot × Slot := if k = 0 then (x, p.2) else (p.1, x)

/-- SEQ of the newest valid record, 0 with none. -/
def newestSeq (p : Slot × Slot) : Nat :=
  match newestSlot p with
  | some k => ((slotIn p k).map (·.1)).getD 0
  | none => 0

/-- The record in use of a pair. -/
def State.record (s : State) (region : Nat) : Option Payload :=
  let p := s.slotPair region
  (newestSlot p).bind fun k => (slotIn p k).map (·.2)

/-- Step 1 of R356: the slot that does not hold the newest valid record. -/
def storeSlot (p : Slot × Slot) : Nat :=
  match newestSlot p with
  | some 0 => 1
  | _ => 0

/-- A store sends its record: the slot is erased, and header and payload written with SEQ one above the newest valid one. -/
def State.writeBody (s : State) (x : Store) : State :=
  s.sendAll (bodyOps x.region (x.slot.getD 0) (newestSeq (s.slotPair x.region) + 1) s.wall18 x.payload)

/-- A store begins: its slot is chosen and erased, and its record written but for the flag. -/
def State.beginStore (s : State) (x : Store) : State :=
  let p := s.slotPair x.region
  let k := x.slot.getD (storeSlot p)
  let x : Store := { x with slot := some k }
  (s.setNv { s.nv with slots := put (none, none) x.region (setSlotIn p k none) s.nv.slots,
                       busy := s.nv.busy ++ [(deviceOf x.region, x)] }).writeBody x

/-- A store is requested: it waits while another runs on its device; link stores that wait are one store (R357). -/
def State.requestStore (s : State) (x : Store) : State :=
  let d := deviceOf x.region
  if s.nv.busy.any fun q => q.1 == d then
    let w := if x.region = 2 then s.nv.waiting.filter fun q => q.2.region != 2 else s.nv.waiting
    s.setNv { s.nv with waiting := w ++ [(d, x)] }
  else s.beginStore x

/-- The store on a device ends (R356): on success its flag is written and the slot holds SEQ + 1 and the record; then the next
one begins. -/
def State.endStore (s : State) (dev : Nat) (ok : Bool) : State :=
  match s.nv.busy.find? fun q => q.1 == dev with
  | none => s
  | some (_, x) =>
    let p := s.slotPair x.region
    let k := x.slot.getD 0
    let seq := newestSeq p + 1
    let s := if ok then s.send (flagOp x.region k seq) else s
    let p := if ok then setSlotIn p k (some (seq, x.payload)) else p
    let s := s.setNv { s.nv with slots := put (none, none) x.region p s.nv.slots,
                                 busy := s.nv.busy.filter fun q => q.1 != dev }
    match s.nv.waiting.find? fun q => q.1 == dev with
    | none => s
    | some w => (s.setNv { s.nv with waiting := s.nv.waiting.erase w }).beginStore w.2

/-- The link record's entry (R353) for a port, band and lane: bit 63 VALID, [62:56] eye, [43:0] PHY_RX_EQ. -/
def State.linkEntry (s : State) (p band lane : Nat) : Nat :=
  match s.record 2 with
  | some (.link l) => l.getD ((p * 8 + band) * 4 + lane) 0
  | _ => 0

end Sys2Proof.Machine
end

