-- ==== Sys2Proof/Machine/LineCode.lean ====
section
/-! DEFINITION. The line code of the Flue lanes (R138 to R141, R161), and the layouts of what the blocks carry: training
blocks (Table 6-3), link frames (Table 7-2), packet headers (Table 7-3) and line packets (Table 7-5). -/

namespace Sys2Proof.Machine

/-- A block of the port's block stream: whether it is a control block, and its payload. -/
abbrev Blk := Bool × Nat

def idleBlock : Blk := (true, 0x78 * 2 ^ 56)
/-- IDLE with GAP, bit [55]. -/
def gapBlock : Blk := (true, 0x78 * 2 ^ 56 + 2 ^ 55)
def errorBlock : Blk := (true, 0x7F * 2 ^ 56)
/-- The TYPE of a control block (R168); 0 for a data block. -/
def Blk.typ (b : Blk) : Nat := if b.1 then b.2 / 2 ^ 56 else 0

/-! ### Scrambler (R140) -/

/-- One bit into a history of the last 58 line bits, the latest in bit 0. -/
def pushBit (h : Nat) (b : Bool) : Nat := (h * 2 + b.toNat) % 2 ^ 58

/-- s[i] of d[i]: the bits 39 and 58 places before are bits 38 and 57 of the history. -/
def scrambleBit (h : Nat) (d : Bool) : Bool := xor d (xor (bit h 38) (bit h 57))

/-- A payload onto the line, most significant bit first: the line bits and the history after them. -/
def scramble : List Bool → Nat → List Bool × Nat
  | [], h => ([], h)
  | d :: ds, h =>
    let b := scrambleBit h d
    let (l, h) := scramble ds (pushBit h b)
    (b :: l, h)

/-- The receiver's d[i] of r[i]. -/
def descramble : List Bool → Nat → List Bool × Nat
  | [], h => ([], h)
  | r :: rs, h =>
    let (l, h') := descramble rs (pushBit h r)
    (scrambleBit h r :: l, h')

/-- The number that bits spell, the first most significant. -/
def ofBits (l : List Bool) : Nat := l.foldl (fun n b => n * 2 + b.toNat) 0

/-! ### Lanes (R138, R139, R141) -/

/-- A block of logical lane k as the receiver reads it: header, none where 0,0 or 1,1; payload. -/
def readBlock (invert : Bool) (h : Nat) (b : LaneBlock) : Option Blk × Nat :=
  let h0 := xor b.h0 invert
  let h1 := xor b.h1 invert
  let line := if invert then 2 ^ 64 - 1 - b.line % 2 ^ 64 else b.line % 2 ^ 64
  let (d, h) := descramble (bitsOf 64 line) h
  (if h0 == h1 then none else some (h0, ofBits d), h)

def readLane (invert : Bool) : Nat → List LaneBlock → List (Option Blk) × Nat
  | h, [] => ([], h)
  | h, b :: bs =>
    let (x, h) := readBlock invert h b
    let (xs, h) := readLane invert h bs
    (x :: xs, h)

def sendLane : Nat → List Blk → List LaneBlock × Nat
  | h, [] => ([], h)
  | h, b :: bs =>
    let (l, h) := scramble (bitsOf 64 b.2) h
    let (xs, h) := sendLane h bs
    (⟨b.1, !b.1, ofBits l⟩ :: xs, h)

/-- The lanes of a block stream (R141): block j goes to lane j mod 4, slot j / 4. -/
def laneOf (k : Nat) (bs : List Blk) : List Blk :=
  (bs.zipIdx.filter fun q => q.2 % 4 == k).map (·.1)

/-- The block stream on the four transmit lanes, with their histories. -/
def sendLanes (scr : List (Nat × Nat)) (bs : List Blk) : List (List LaneBlock) × List (Nat × Nat) :=
  (List.range 4).foldl (fun (out, scr) k =>
    let (l, h) := sendLane (look 0 k scr) (laneOf k bs)
    (out ++ [l], put 0 k h scr)) ([], scr)

/-- Physical lane of logical lane k (PHY_LANE_MAP). -/
def physLane (map k : Nat) : Nat := bits map (2 * k + 1) (2 * k)

/-- A received frame's logical lanes, with the histories of the physical ones after it. -/
def readLanes (map invert : Nat) (scr : List (Nat × Nat)) (lanes : List (List LaneBlock)) :
    List (List (Option Blk)) × List (Nat × Nat) :=
  (List.range 4).foldl (fun (out, scr) k =>
    let ph := physLane map k
    let (l, h) := readLane (bit invert ph) (look 0 ph scr) (lanes.getD ph [])
    (out ++ [l], put 0 ph h scr)) ([], scr)

/-- The block stream that logical lanes spell: block j is lane j mod 4, slot j / 4. -/
def blockStream (lanes : List (List (Option Blk))) : List (Option Blk) :=
  (List.range 32).map fun j => ((lanes.getD (j % 4) []).getD (j / 4) none)

/-- Invalid sync headers of a logical lane. -/
def badHeaders (l : List (Option Blk)) : Nat := (l.filter (· == none)).length

/-! ### PRBS31 (R161) -/

/-- The next 64 bits of x^31 + x^28 + 1 from its last 31 bits, with the last 31 bits after them. -/
def prbs : Nat → Nat → List Bool × Nat
  | 0, h => ([], h)
  | n + 1, h =>
    let b := xor (bit h 30) (bit h 27)
    let (l, h) := prbs n ((h * 2 + b.toNat) % 2 ^ 31)
    (b :: l, h)

/-- Bits in which two payloads differ. -/
def bitErrors (a b : Nat) : Nat := ((bitsOf 64 (Nat.xor a b)).filter id).length

/-! ### Training blocks (R148) -/

/-- CRC-8 over bits [63:8] of a training block. -/
def trainingCrc (w : Nat) : Nat := crcBits 8 0x07 0 (bitsOf 56 (w / 256))
def trainingOk (w : Nat) : Bool := w / 2 ^ 56 == 0xD2 && trainingCrc w == w % 256

/-- A block as received, and whether it checks after inversion (type 0x2D). -/
def trainingRead (w : Nat) : Option (Nat × Bool) :=
  if trainingOk w then some (w, false)
  else
    let v := 2 ^ 64 - 1 - w % 2 ^ 64
    if w / 2 ^ 56 == 0x2D && trainingOk v then some (v, true) else none

/-- The fields of Table 6-3 above CHECK. -/
structure TrainFields where
  lane : Nat
  rxState : Nat
  cmd : Nat
  mode : Nat
  eye : Nat
  cap : Nat
  seq : Nat
  ask : CoefAsk
  stat : CoefStat
deriving DecidableEq, Repr

/-- A training block with its CHECK. -/
def trainingWord (f : TrainFields) : Nat :=
  let w := 0xD2 * 2 ^ 56 + f.lane % 4 * 2 ^ 54 + f.rxState % 16 * 2 ^ 50 + f.cmd % 16 * 2 ^ 46 + f.mode % 2 * 2 ^ 45
    + f.eye % 128 * 2 ^ 38 + f.cap % 64 * 2 ^ 32 + f.seq % 256 * 2 ^ 24 + f.ask.pre % 4 * 2 ^ 22 + f.ask.post % 4 * 2 ^ 20
    + (match f.ask.preset with | some k => 2 ^ 19 + k % 8 * 2 ^ 16 | none => 0)
    + f.stat.pre % 4 * 2 ^ 14 + f.stat.post % 4 * 2 ^ 12 + f.stat.preset.toNat * 2 ^ 11
  w + trainingCrc w

/-! ### Link frames (R169, R170) -/

/-- The CRC of R170 over payload positions and MARKER bits [63:32]. -/
def frameCrc (body : List Blk) (marker : Nat) : Nat :=
  2 ^ 32 - 1 - crcBits 32 0x04C11DB7 (2 ^ 32 - 1)
    ((body.flatMap fun b => b.1 :: bitsOf 64 b.2) ++ bitsOf 32 (marker / 2 ^ 32))

/-- The MARKER of a frame. -/
def markerOf (fseq : Nat) (body : List Blk) : Blk :=
  let m := 0xE1 * 2 ^ 56 + fseq % 65536 * 2 ^ 40
  (true, m + frameCrc body m)

/-- The 32 blocks of a frame. -/
def frameOf (fseq : Nat) (body : List Blk) : List Blk := body ++ [markerOf fseq body]

/-- The payload positions and the MARKER of a received frame that passes its check: no invalid header, block 31 a MARKER, its
CRC right. -/
def frameRead (bs : List (Option Blk)) : Option (List Blk × Nat) :=
  let l := bs.filterMap id
  let body := l.take 31
  match l.drop 31 with
  | [(true, m)] => if m / 2 ^ 56 = 0xE1 ∧ frameCrc body m = m % 2 ^ 32 then some (body, m) else none
  | _ => none

/-! ### Packet headers (R173, R174, Table 7-1) -/

/-- The header of Table 7-3. -/
def packetHeader (typ cls len dst src : Nat) (pathB : Bool) (rest : Nat) : Nat :=
  typ * 2 ^ 56 + cls % 8 * 2 ^ 53 + len % 8 * 2 ^ 50 + dst % 256 * 2 ^ 42 + src % 256 * 2 ^ 34 + pathB.toNat * 2 ^ 33
    + rest % 2 ^ 33

/-- DST and SRC name a sender, a tile, every tile, or as SRC a tile without an address. -/
def endOk (isSrc : Bool) (a : Nat) : Bool := decide (a ≤ 0x80) || a == 0xFF || (isSrc && a == 0xFE)

/-- Class and LEN that a packet type may have (Tables 7-1, 7-4 and 9-4). -/
def classLenOk (typ cls len : Nat) : Bool :=
  match typ with
  | 0x20 => cls == 4 || cls == 6
  | 0x24 => cls == 6 && len == 2
  | 0x26 => cls == 4 && len == 2
  | 0x30 => cls == 7 && decide (len ≤ 3)
  | 0x38 => cls == 5 && len == 2
  | 0x48 => cls == 4 && len == 2
  | 0x50 => cls == 0 && decide (1 ≤ len)
  | _ => false

/-- Data blocks that follow a packet's control block; none for a block that starts no packet. -/
def packetLen (chimneyPort : Bool) (w : Nat) : Option Nat :=
  let typ := w / 2 ^ 56
  if chimneyPort then
    if typ ∈ [0x20, 0x24, 0x26, 0x30, 0x38, 0x48, 0x50] then some (bits w 52 50)
    else if typ = 0x40 then some (3 * (bits w 38 32 + 1) + 2)
    else none
  else if 1 ≤ typ ∧ typ ≤ 0x1F then some (1 + bits w 47 32 / 8) else none

/-- The header fields of a packet are valid (R173). The fields of an ingest header are judged by chapter 3. -/
def headerOk (chimneyPort : Bool) (w : Nat) : Bool :=
  let typ := w / 2 ^ 56
  if !chimneyPort then true
  else if typ = 0x40 then decide (1 ≤ bits w 55 48 ∧ bits w 55 48 ≤ 128) && decide (1 ≤ bits w 38 32) && decide (bits w 22 19 ≤ 7)
  else classLenOk typ (bits w 55 53) (bits w 52 50) && endOk false (bits w 49 42) && endOk true (bits w 41 34)

/-! ### Line packets (R176) -/

/-- SPAN as 18 bits. -/
def spanField (r : Nat × Nat) : Nat := r.1 % 512 * 512 + r.2 % 512
def spanOf (v : Nat) : Nat × Nat := (v / 512 % 512, v % 512)

/-- A pixel as 48 bits. -/
def pixelField (p : Nat × Nat × Nat) : Nat := p.1 % 65536 * 2 ^ 32 + p.2.1 % 65536 * 2 ^ 16 + p.2.2 % 65536
def pixelOf (v : Nat) : Nat × Nat × Nat := (v / 2 ^ 32 % 65536, v / 2 ^ 16 % 65536, v % 65536)

/-- Pixels four at a time into three blocks: bit 191 of the group is bit 63 of the first. -/
def pixelBlocks : List (Nat × Nat × Nat) → List Nat
  | a :: b :: c :: d :: rest =>
    let g := pixelField a * 2 ^ 144 + pixelField b * 2 ^ 96 + pixelField c * 2 ^ 48 + pixelField d
    g / 2 ^ 128 :: g / 2 ^ 64 % 2 ^ 64 :: g % 2 ^ 64 :: pixelBlocks rest
  | _ => []

def pixelsOf : List Nat → List (Nat × Nat × Nat)
  | a :: b :: c :: rest =>
    let g := a % 2 ^ 64 * 2 ^ 128 + b % 2 ^ 64 * 2 ^ 64 + c % 2 ^ 64
    pixelOf (g / 2 ^ 144 % 2 ^ 48) :: pixelOf (g / 2 ^ 96 % 2 ^ 48) :: pixelOf (g / 2 ^ 48 % 2 ^ 48) :: pixelOf (g % 2 ^ 48)
      :: pixelsOf rest
  | _ => []

/-- H1 and H2 hold three runs each from bit 63 downward. -/
def spanBlock (r : List (Nat × Nat)) : Nat :=
  let f (i : Nat) : Nat := spanField (r.getD i (0, 0))
  f 0 * 2 ^ 46 + f 1 * 2 ^ 28 + f 2 * 2 ^ 10

/-- The blocks of a line packet: H0, H1, H2 and the pixels. -/
def lineWords (p : LinePkt) : List Nat :=
  let h0 := 0x40 * 2 ^ 56 + p.addr % 256 * 2 ^ 48 + p.line % 512 * 2 ^ 39 + p.wq % 128 * 2 ^ 32 + p.frame % 256 * 2 ^ 24
    + p.pathB.toNat * 2 ^ 23 + p.spans.length % 16 * 2 ^ 19 + spanField (p.spans.getD 0 (0, 0))
  h0 :: spanBlock (p.spans.drop 1) :: spanBlock (p.spans.drop 4) :: pixelBlocks p.pixels

/-- The seven SPAN fields. -/
def spanFields (h0 h1 h2 : Nat) : List (Nat × Nat) :=
  spanOf (h0 % 2 ^ 18) :: [h1, h2].flatMap fun h => [spanOf (h / 2 ^ 46), spanOf (h / 2 ^ 28), spanOf (h / 2 ^ 10)]

/-- What a line packet copy says. It is complete when its blocks came whole, its header is valid and no block is missing. -/
def linePktOf (c : LineCopy) : LinePkt :=
  let h0 := c.words.getD 0 0
  let h1 := c.words.getD 1 0
  let h2 := c.words.getD 2 0
  let n := bits h0 22 19
  let f := spanFields h0 h1 h2
  { addr := bits h0 55 48, line := bits h0 47 39, wq := bits h0 38 32, frame := bits h0 31 24, pathB := bit h0 23,
    spans := f.take n, unusedZero := (f.drop n).all (· == (0, 0)),
    pixels := pixelsOf (c.words.drop 3),
    complete := c.whole && headerOk true h0 && h0 / 2 ^ 56 == 0x40 && c.words.length == 3 + 3 * (bits h0 38 32 + 1) }

end Sys2Proof.Machine
end

