-- ==== Sys2Proof/Machine/Relay.lean ====
section
/-! DEFINITION. What a port's transmit direction sends: training slots (R148, R149, R152) and, in a tile, the payload positions that
its relay forwards, packed into link frames of its own (R141, R169, R186, R187, R197; log 133). -/

namespace Sys2Proof.Machine

/-! ### Training slots -/

/-- RX_STATE as this port reports it (Table 6-3); a direction that does not train reports 0. -/
def State.rxReport (s : State) (p : Nat) : Nat :=
  match s.rxState p with
  | 2 => 1 | 3 => 2 | 4 => 3 | 5 => 4 | 6 => 4 | _ => 0

/-- CAP: recovered mode, the far-end loop where PHY_FAR_LOOP_ALLOW permits it (R160), standby and sleep. -/
def State.cap (s : State) (p : Nat) : Nat :=
  2 ^ 5 + (if s.flagAt Obj.PHY_FAR_LOOP_ALLOW p 0 then 2 ^ 4 else 0) + 2 ^ 3

/-- The SEQ of the slot now on the lanes, n slots on: a slot of 2.75 ns lasts 33/8 cycles. -/
def State.slotSeq (s : State) (p n : Nat) : Nat := ((s.now - (s.port p).txSince) * 8 / 33 + n) % 256

/-- The fields of the block on one lane. -/
def State.trainFields (s : State) (p lane cmd n : Nat) : TrainFields :=
  { lane := lane, rxState := s.rxReport p, cmd := cmd, mode := s.natAt Obj.PHY_CLK_MODE p 0,
    eye := s.natAt Obj.PHY_EYE_WIDTH p lane, cap := s.cap p, seq := s.slotSeq p n,
    ask := look {} lane (s.port p).asks, stat := look {} lane (s.port p).stats }

/-- The blocks of one slot, lane 0 to 3. -/
def State.trainingSlot (s : State) (p cmd n : Nat) : List Nat :=
  (List.range 4).map fun l => trainingWord (s.trainFields p l cmd n)

/-- `n` slots go out. -/
def State.sendSlots (s : State) (p cmd n : Nat) : State :=
  s.sendAll ((List.range n).map fun i => .training p (s.trainingSlot p cmd i))

/-- A transmitter in link frames embeds groups while its own receive direction is not up, or while the last training block
received reported RX_STATE below 4 (R149). -/
def State.showTx (s : State) (p : Nat) : State :=
  if s.sends p then
    let far := match (s.port p).farState with | some f => decide (4 ≤ f) | none => true
    s.setTx p (if s.rxUp p && far then 2 else 3)
  else s

/-! ### The relay's output -/

/-- One payload position leaves: the 31st closes its link frame, which goes onto the lanes with its MARKER (R141, R169). -/
def State.putOut (s : State) (q : Nat) (b : Blk) : State :=
  let e := s.egress q
  let part := e.part ++ [b]
  if part.length < 31 then s.setEgress q { e with part := part }
  else
    let (lanes, scr) := sendLanes e.scr (frameOf e.fseq part)
    (s.setEgress q { e with part := [], fseq := (e.fseq + 1) % 65536, scr := scr, sinceGroup := e.sinceGroup + 1 }).send
      (.lanes q lanes)

def State.putAll (s : State) (q : Nat) (bs : List Blk) : State := bs.foldl (fun s b => s.putOut q b) s

/-- The head of the relay leaves as it is; a gap that passes unused is counted (R188). -/
def State.passHead (s : State) (q : Nat) (b : Blk) : State :=
  let s := if b == gapBlock then
      (s.bumpAt Obj.FRM_GAPS q 0).setEgress q { s.egress q with sinceGap := (s.egress q).sinceGap + 1 }
    else s
  s.putOut q b

/-- A break on the other port: ERROR in every position (R197). -/
def State.inputDown (s : State) (q : Nat) : Bool := !s.rxUp (1 - q)

/-- The relay sends on `n` positions. A port whose transmit direction is not in link frames sends none, and they are lost. -/
def State.relayOn (s : State) (q : Nat) : Nat → State
  | 0 => s
  | n + 1 =>
    match (s.egress q).relay with
    | [] => if s.inputDown q && s.sends q then (s.putOut q errorBlock).relayOn q n else s
    | b :: r =>
      let s := s.setEgress q { s.egress q with relay := r }
      (if s.sends q then s.passHead q b else s).relayOn q n

/-- What waits in the relay leaves. -/
def State.relayAll (s : State) (q : Nat) : State := s.relayOn q (s.egress q).relay.length

/-- A break begins, or the port begins link frames during one: what waits leaves, and ERROR positions follow; what is sent records
the first 31 of them. -/
def State.breakOut (s : State) (q : Nat) : State :=
  let s := s.relayAll q
  if s.sends q then s.putAll q (List.replicate 31 errorBlock) else s

/-! ### Clock matching (R187) -/

/-- IDLE after the first IDLE with GAP; between two ERROR blocks an ERROR. -/
def addAfter : List Blk → Option (List Blk)
  | [] => none
  | b :: r =>
    if b == gapBlock then some (b :: idleBlock :: r)
    else if b == errorBlock && r.head? == some errorBlock then some (b :: errorBlock :: r)
    else (addAfter r).map (b :: ·)

/-- Otherwise IDLE where no packet is under way: before the first control block. -/
def addBefore : List Blk → Option (List Blk)
  | [] => none
  | b :: r => if b.1 && b != errorBlock then some (idleBlock :: b :: r) else (addBefore r).map (b :: ·)

/-- The first IDLE without GAP, or ERROR, leaves. -/
def deleteOne : List Blk → Option (List Blk)
  | [] => none
  | b :: r => if b == idleBlock || b == errorBlock then some r else (deleteOne r).map (b :: ·)

/-- One position added or deleted where the relay holds a place for it; what finds none waits (`owed`). -/
def State.matchOne (s : State) (q : Nat) (add : Bool) : State :=
  let e := s.egress q
  if add then
    match (addAfter e.relay).or (addBefore e.relay) with
    | some r => (s.setEgress q { e with relay := r, owed := e.owed - 1 }).bumpAt Obj.FRM_IDLE_ADDED q 0
    | none => s
  else
    match deleteOne e.relay with
    | some r => (s.setEgress q { e with relay := r, owed := e.owed + 1 }).bumpAt Obj.FRM_IDLE_DELETED q 0
    | none => s

/-- Positions join the relay, and the clocks are matched. -/
def State.relayIn (s : State) (q : Nat) (bs : List Blk) (slip : Int) : State :=
  let e := s.egress q
  let s := s.setEgress q { e with relay := e.relay ++ bs, owed := e.owed + slip }
  (List.range (e.owed + slip).natAbs).foldl (fun s _ => s.matchOne q (decide (0 < (s.egress q).owed))) s

end Sys2Proof.Machine
end

