-- ==== Sys2Proof/Machine/Paths.lean ====
section
/-! DEFINITION. The tile's side of a chimney: addresses, usable paths, reception and selection of lines, loss of both
paths, STATUS (R123, R124, R196 to R208). -/

namespace Sys2Proof.Machine

/-! ### Addresses (R123, R124, R125) -/

/-- A value that is an address (R124). -/
def anAddress (a : Nat) : Bool := decide (1 ≤ a ∧ a ≤ 128)

/-- The address R124 makes of the A- and B-address, and whether its map entry is enabled. -/
def Paths.address (p : Paths) : Nat × Bool :=
  match p.aAddr.filter anAddress, p.bAddr.filter anAddress with
  | some a, _ => (a, p.aOn)
  | none, some b => (b, p.bOn)
  | none, none => (0, false)

/-- ADDR_MISMATCH (Table 7-4): both values are held and differ. -/
def Paths.mismatch (p : Paths) : Bool :=
  match p.aAddr, p.bAddr with
  | some a, some b => a != b
  | _, _ => false

/-- Path A's port; none while TILE_A_PORT is 0xFF. -/
def State.aPort (s : State) : Option Nat :=
  if s.nat Obj.TILE_A_PORT = 0xFF then none else some (s.nat Obj.TILE_A_PORT)

/-- The path that a port carries: true for path B. -/
def State.pathOf (s : State) (port : Nat) : Option Bool := s.aPort.map fun a => a != port

/-- A path is usable (R196). -/
def State.usable (s : State) (pathB : Bool) : Bool :=
  match s.aPort with
  | none => false
  | some a =>
    let p := if pathB then 1 - a else a
    s.rxUp p && !(s.port p).broken

/-! ### Selection (R200 to R204) -/

def LineRx.copy (l : LineRx) (pathB : Bool) : Copy := if pathB then l.b else l.a
def LineRx.setCopy (l : LineRx) (pathB : Bool) (c : Copy) : LineRx :=
  if pathB then { l with b := c } else { l with a := c }

def RxFrame.line (f : RxFrame) (y : Nat) : LineRx := look {} y f.lines
def RxFrame.setLine (f : RxFrame) (y : Nat) (l : LineRx) : RxFrame := { f with lines := put {} y l f.lines }

def State.frame (s : State) (k : Nat) : Option RxFrame := s.paths.frames.find? fun f => f.k == k
def State.setFrame (s : State) (f : RxFrame) : State :=
  s.setPaths { s.paths with frames := s.paths.frames.map fun g => if g.k = f.k then f else g }

/-- The preferred path: PATH_FORCE holds it, otherwise R203 and R204 move it. -/
def State.prefers (s : State) : Bool :=
  match s.nat Obj.PATH_FORCE with
  | 1 => false
  | 2 => true
  | _ => s.paths.prefB

/-- r of R204: returns to A in the 600 s before an instant, and H in seconds. -/
def State.holdoffSecs (s : State) : Nat :=
  let r := (s.paths.returns.filter fun t => decide (s.now < t + seconds 600)).length
  min (s.nat Obj.PATH_HOLDOFF * 2 ^ r) 160

/-- The path flags of Table 8-3 follow the state; a change makes a STATUS due (R208). -/
def State.showFlags (s : State) : State :=
  let p := s.paths
  let f := (if s.usable false then 128 else 0) + (if s.usable true then 64 else 0) + (if s.prefers then 32 else 0)
    + (if p.holdoff.isSome then 16 else 0) + (if p.hold then 8 else 0) + (if p.fade then 4 else 0)
    + (if p.dark then 2 else 0)
  let due := p.statusDue || f != s.nat Obj.PATH_FLAGS
  (s.wr Obj.PATH_FLAGS f).setPaths { p with statusDue := due }

/-- A failure on path A stops the hold-off; under PATH_FORCE the preference rests (R204, R205). -/
def State.failA (s : State) : State :=
  if s.nat Obj.PATH_FORCE = 0 then s.setPaths { s.paths with holdoff := none } else s

/-- A clean moment of path A while B is preferred starts the hold-off. -/
def State.cleanA (s : State) : State :=
  if s.paths.prefB && s.paths.holdoff.isNone && s.usable false && s.nat Obj.PATH_FORCE == 0 then
    s.setPaths { s.paths with holdoff := some (s.now, s.holdoffSecs) }
  else s

/-- A line's decision is counted and its content kept with the frame; PATH_WAIT_MAX is in whole ns (R467). -/
def State.decideLine (s : State) (k y pick : Nat) : State :=
  match s.frame k with
  | none => s
  | some f =>
    let l := f.line y
    let s := s.setFrame (f.setLine y { l with pick := some pick })
    let waited : Nat := match l.failAt with
      | some t0 => (roundAway (2 * (s.now - t0 : Nat)) 3).toNat
      | none => 0
    let s := if s.nat Obj.PATH_WAIT_MAX < waited then s.wr Obj.PATH_WAIT_MAX (min waited 4294967295 : Nat) else s
    match pick with
    | 0 => s.bump Obj.PATH_PKTS_A
    | 1 => s.bump Obj.PATH_PKTS_B
    | _ => s

/-- LINE_SELECT: the selector of R201 at a line, once a deadline has come. -/
def State.select (s : State) (k y : Nat) : State :=
  match s.frame k with
  | none => s
  | some f =>
    let l := f.line y
    if l.pick.isSome then s
    else
      let prefB := s.prefers
      let pref := l.copy prefB
      let other := l.copy (!prefB)
      let nPref := if prefB then 1 else 0
      if pref.st = 0 then s
      else if pref.st = 1 then s.decideLine k y nPref
      else
        let s := s.setFrame (f.setLine y { l with failAt := some (l.failAt.getD s.now) })
        if other.st = 0 then s
        else if other.st = 1 then s.decideLine k y (1 - nPref)
        else s.decideLine k y 2

/-- The selector at every line of every open frame, after the preference has moved. -/
def State.reselect (s : State) : State :=
  s.paths.frames.foldl (fun s f => (List.range (s.nat Obj.TILE_HEIGHT)).foldl (fun s y => s.select f.k y) s) s

/-- PATH_SWITCH (R203). -/
def State.switchToB (s : State) : State :=
  if s.paths.prefB || s.nat Obj.PATH_FORCE != 0 then s
  else (((s.setPaths { s.paths with prefB := true, holdoff := none }).bump Obj.PATH_SWITCHES).raise 0x0B 0 0).reselect

/-- A copy's deadline: it becomes intact (1), damaged (2) or absent (3). A failed copy counts; on path A it may move the
preference (R203) and stops a hold-off. A copy that comes after its line's decision keeps its place in the counts and in
PATH_SKEW; its content is discarded (R201). -/
def State.settleCopy (s : State) (k y : Nat) (pathB : Bool) (c : Copy) : State :=
  match s.frame k with
  | none => s
  | some f =>
    let l := f.line y
    if (l.copy pathB).st ≠ 0 then s
    else
      let l := l.setCopy pathB (if l.pick.isSome then { st := c.st, at_ := s.now } else { c with at_ := s.now })
      let s := s.setFrame (f.setLine y l)
      let s := if c.st = 1 then (if pathB then s else s.cleanA)
        else if pathB then s.bump Obj.PATH_BAD_B else (s.bump Obj.PATH_BAD_A).failA
      let s := if l.a.st = 1 ∧ l.b.st = 1 then
          let d := (((l.b.at_ : Int) - l.a.at_) :: s.paths.skews).take 256
          (s.setPaths { s.paths with skews := d }).wr Obj.PATH_SKEW (roundAway (2 * sumInt d) (3 * d.length))
        else s
      let s := s.select k y
      if !pathB && c.st != 1 && l.b.st == 1 then s.switchToB else s

/-- Every pending copy of a path's lines in a frame that satisfies a test becomes absent (R200). -/
def State.absent (s : State) (pathB : Bool) (k : Nat) (test : Nat → Bool) : State :=
  ((List.range (s.nat Obj.TILE_HEIGHT)).filter test).foldl (fun s y => s.settleCopy k y pathB { st := 3 }) s

/-! ### Fitness for time (R223, R224) -/

def State.timePath (s : State) (pathB : Bool) : TimePath := if pathB then s.time.b else s.time.a
def State.setTimePath (s : State) (pathB : Bool) (x : TimePath) : State :=
  s.setTime (if pathB then { s.time with b := x } else { s.time with a := x })

/-- Relays on a path, as R223 counts them. -/
def State.relays (s : State) (pathB : Bool) : Nat :=
  if pathB then s.time.chimN - s.nat Obj.TILE_ADDRESS else s.nat Obj.TILE_ADDRESS - 1

def State.fitNow (s : State) (pathB : Bool) : Bool :=
  let x := s.timePath pathB
  s.usable pathB && x.syncHops == s.relays pathB && x.respHops == some (s.relays pathB)
    && (!pathB || decide (s.nat Obj.TILE_ADDRESS ≤ s.time.chimN))

/-- TIME_PATH: the fit path with fewer relays, path A on a tie (R224). -/
def State.choosePath (s : State) : State :=
  let a := s.time.a.fit
  let b := s.time.b.fit
  s.wr Obj.TIME_PATH (if a && (!b || decide (s.relays false ≤ s.relays true)) then 0 else if b then 1 else 255)

/-- Fitness evaluated; a path that becomes unfit empties the differences (R224). -/
def State.evalFit (s : State) (pathB : Bool) : State :=
  let x := s.timePath pathB
  let fit := s.fitNow pathB
  let s := s.setTimePath pathB { x with fit := fit }
  let s := if x.fit && !fit then (s.setTime { s.time with diffs := [], lastDiff := none }) else s
  (s.hold 0x26 (if pathB then 1 else 0) (!fit)).choosePath

/-- A path becomes usable or unusable: faults of Table 8-4, absent copies, and the preference (R196, R200, R203), and its
fitness for time (R223). -/
def State.pathsChanged (s : State) : State :=
  if !s.isTile then s
  else
    let p := s.paths
    let a := s.usable false
    let b := s.usable true
    let s := s.setPaths { p with usableA := a, usableB := b }
    let s := if p.usableA && !a then s.raiseHeld 0x09 0 0 else if a then s.hold 0x09 0 false else s
    let s := if p.usableB && !b then s.raiseHeld 0x0A 0 0 else if b then s.hold 0x0A 0 false else s
    let ks := s.paths.frames.map (·.k)
    let s := if p.usableA && !a then
        let s := s.failA
        let s := if b then s.switchToB else s
        ks.foldl (fun s k => s.absent false k fun _ => true) s
      else s
    let s := if p.usableB && !b then ks.foldl (fun s k => s.absent true k fun _ => true) s else s
    let s := if !p.usableA && a then s.cleanA else s
    ((s.evalFit false).evalFit true).showFlags

/-! ### ASSIGN at a tile (R123, R124, R174) -/

/-- HOP as the next hop sees it (R174). -/
def nextHop (hop : Nat) (dirB : Bool) : Nat := if dirB then hop - 1 else min (hop + 1) 255

/-- A changed address takes effect at the boundary (R124): TILE_ADDRESS, TILE_STATE, BOOT's 1 s and unaddressed-tile. -/
def State.takeAddress (s : State) : State :=
  if !s.isTile then s
  else
    let (a, on) := s.paths.address
    let s := s.wr Obj.TILE_ADDRESS a
    let s := if a = 0 then
        (if s.flt.held 0x07 then s else s.raiseHeld 0x07 0 0).wr Obj.TILE_STATE 0
      else
        let st := s.nat Obj.TILE_STATE
        (s.hold 0x07 0 false).wr Obj.TILE_STATE (if !on then 1 else if st < 2 then 2 else st : Nat)
    if a ≠ 0 ∧ s.paths.bootUntil.isNone ∧ !s.paths.booted then
      s.setPaths { s.paths with bootUntil := some (s.now + seconds 1) }
    else s

/-- ASSIGN: the tile takes the value of its path and passes it on. Before the tile has a schedule there is no boundary to wait
for, and the address takes effect at once (log 134). -/
def assignEffect (port hop : Nat) (dirB : Bool) (enabled : Nat) (s : State) : State :=
  if !s.isTile || 2 ≤ port then s
  else
    let rest := nextHop hop dirB % 256 * 2 ^ 25 + dirB.toNat * 2 ^ 24
    let s := s.send (.packet (1 - port)
      [(true, packetHeader 0x24 6 2 0xFF 0 dirB rest), (false, enabled % 2 ^ 64), (false, enabled / 2 ^ 64 % 2 ^ 64)])
    let on := decide (1 ≤ hop) && bit enabled (hop - 1)
    let s := if dirB then
        let s := if s.nat Obj.TILE_A_PORT = 0xFF then s.wr Obj.TILE_A_PORT (1 - port : Nat) else s
        s.setPaths { s.paths with bAddr := some hop, bOn := on }
      else (s.wr Obj.TILE_A_PORT port).setPaths { s.paths with aAddr := some hop, aOn := on }
    let s := if s.time.sched.isNone then s.takeAddress else s
    s.pathsChanged

def execAssign (t : Cyc) (port hop : Nat) (dirB : Bool) (enabled : Nat) (s : State) :
    Host.Outcome State Fault Refusal :=
  s.run t (assignEffect port hop dirB enabled)

/-- BOOT_FLAG_END (R185). -/
def bootFlagEnd (s : State) : State :=
  match s.paths.bootUntil with
  | some t0 => if t0 ≤ s.now then s.setPaths { s.paths with bootUntil := none, booted := true } else s
  | none => s

def execBootFlagEnd (t : Cyc) (s : State) : Host.Outcome State Fault Refusal := s.run t bootFlagEnd

/-! ### Reception (R198, R199) -/

/-- Frame k opens at its boundary and closes at boundary + T + PATH_CLOSE. At most two are open (R198); the copies of a path
that is not usable are absent at once (R200). -/
def State.openFrame (s : State) (k : Nat) : State :=
  if s.isTile then
    let t := (ratePeriod s.rate).1 * 1500000000 / (ratePeriod s.rate).2
    let f : RxFrame := { k := k, closeAt := s.now + t + us (s.nat Obj.PATH_CLOSE) }
    let keep := s.paths.frames.drop (s.paths.frames.length - 1)
    let s := s.setPaths { s.paths with frames := keep ++ [f] }
    let s := if s.usable false then s else s.absent false k fun _ => true
    (if s.usable true then s else s.absent true k fun _ => true).showFlags
  else s

/-- Runs are valid (R177). -/
def validSpans (tw : Nat) : Option Nat → List (Nat × Nat) → Bool
  | _, [] => true
  | last, (f, l) :: rest =>
    decide (f ≤ l) && decide (l < tw) && (match last with | none => true | some x => decide (x + 1 < f)) &&
      validSpans tw (some l) rest

/-- R200, second condition: a passing packet proves lines of the tile's own that precede it absent on its path. -/
def State.passed (s : State) (pathB : Bool) (p : LinePkt) : State :=
  let own := s.nat Obj.TILE_ADDRESS
  match s.paths.frames.find? fun f => f.k % 256 == p.frame with
  | none => s
  | some g =>
    let s := (s.paths.frames.filter fun f => decide (f.k < g.k)).foldl
      (fun s f => s.absent pathB f.k fun _ => true) s
    s.absent pathB g.k fun y => decide (y < p.line) || (y == p.line && decide (own < p.addr))

/-- LINE at a tile. An incomplete packet and an invalid run list are counted whatever becomes of the copy (R173, R177). A crossed
copy fills no slot (R199: any other copy that is not intact is damaged), and is a failure on path A (R204). -/
def State.lineAtTile (s : State) (port : Nat) (p : LinePkt) : State :=
  match s.pathOf port with
  | none => s
  | some pathB =>
    let own := s.nat Obj.TILE_ADDRESS
    if own = 0 || s.deadPort port then s
    else
      let s := s.passed pathB p
      if p.addr ≠ own then s
      else
        let tw := s.nat Obj.TILE_WIDTH
        let geo := decide (4 * (p.wq + 1) = tw) && decide (p.line < s.nat Obj.TILE_HEIGHT)
        let runs := validSpans tw none p.spans && p.unusedZero && decide (p.spans.length ≤ 7)
        let s := if !p.complete then s.bumpAt Obj.FRM_INCOMPLETE port 0
          else if !runs then s.bumpAt Obj.FRM_BAD_BLOCKS port 0 else s
        match s.paths.frames.find? fun f => f.k % 256 == p.frame with
        | none => (s.bump Obj.PATH_LATE).raise 0x0F 0 p.line
        | some f =>
          let s := if p.complete && !geo then s.raise 0x39 0 p.line else s
          if p.pathB != pathB then
            let s := (s.bump Obj.PATH_CROSSED).raise 0x0E 0 p.line
            if pathB then s else s.failA
          else if p.line ≥ s.nat Obj.TILE_HEIGHT then s
          else if p.complete && geo && runs then
            s.settleCopy f.k p.line pathB { st := 1, spans := p.spans, px := p.pixels }
          else s.settleCopy f.k p.line pathB { st := 2 }

/-- LINE: the copy's blocks are read (R176) and judged; a sender counts what comes back (R194). -/
def lineEffect (port : Nat) (c : LineCopy) (s : State) : State :=
  if s.isSender then
    match s.chimneyOf port with
    | some (c, _) => s.bumpAt Obj.CHIM_LINES_RETURNED 0 c
    | none => s
  else (s.lineAtTile port (linePktOf c)).showFlags

def execLine (t : Cyc) (port : Nat) (p : LineCopy) (s : State) : Host.Outcome State Fault Refusal :=
  s.run t (lineEffect port p)

/-! ### Frame close (R198, R202, R206) -/

/-- The held content after a frame: each selected line's copy, with the close time. -/
def mergeLines (f : RxFrame) (held : List (Nat × HeldLine)) : List Nat → List (Nat × HeldLine)
  | [] => held
  | y :: ys =>
    let l := f.line y
    let held := match l.pick with
      | some 0 => put {} y { spans := l.a.spans, px := l.a.px, selAt := some f.closeAt } held
      | some 1 => put {} y { spans := l.b.spans, px := l.b.px, selAt := some f.closeAt } held
      | _ => held
    mergeLines f held ys

/-- The oldest frame past its close time closes: missing copies are absent, lines lost on both paths are counted, the frame's
content is held, and the path state follows. A tile whose address has no enabled entry stays dark and raises nothing
(R125). -/
def State.closeFrame (s : State) : State :=
  match s.paths.frames with
  | [] => s
  | f :: _ =>
    if s.now < f.closeAt then s
    else
      let h := List.range (s.nat Obj.TILE_HEIGHT)
      let s := (s.absent false f.k fun _ => true).absent true f.k fun _ => true
      match s.frame f.k with
      | none => s
      | some f =>
        let any := h.any fun y => (f.line y).pick == some 0 || (f.line y).pick == some 1
        let mapped := decide (2 ≤ s.nat Obj.TILE_STATE)
        let s := if mapped then (h.filter fun y => (f.line y).pick == some 2).foldl (fun s y =>
            (s.bump Obj.PATH_LINES_LOST).raise 0x0C 0 y) s else s
        let p := s.paths
        let black := match p.blackFrom with | some k => decide (k ≤ f.k) | none => false
        let p := { p with frames := p.frames.filter (fun g => g.k != f.k), lines := mergeLines f (if black then [] else p.lines) h,
                          blackFrom := if black then none else p.blackFrom, closed := f.k, closedAny := any }
        if any || !mapped then (s.setPaths { p with hold := false, fade := false, dark := false }).hold 0x0D 0 false
        else if p.hold || p.fade || p.dark then s.setPaths p
        else ((s.setPaths { p with hold := true }).bump Obj.PATH_HOLDS).raiseHeld 0x0D 0 0

/-- e of R206 for a line at an instant, in cycles; none for a line never selected. -/
def HeldLine.age (l : HeldLine) (now : Cyc) : Option Nat := l.selAt.map fun t => now - t

/-- g of R206 in Q15 for an age: 32,768 while held, falling through the fade, 0 dark. -/
def State.fadeGain (s : State) (age : Nat) : Nat :=
  let h := ms (s.nat Obj.PATH_HOLD_TIME)
  let d := ms (s.nat Obj.PATH_FADE_TIME)
  if age ≤ h then 32768 else if age ≥ h + d then 0 else 32768 * (d - (age - h)) / d

/-- Whether a line of some age fades or is dark (R206); otherwise it holds. -/
def State.fading (s : State) (age : Nat) : Bool :=
  decide (ms (s.nat Obj.PATH_HOLD_TIME) < age ∧ age < ms (s.nat Obj.PATH_HOLD_TIME) + ms (s.nat Obj.PATH_FADE_TIME))
def State.isDark (s : State) (age : Nat) : Bool :=
  decide (ms (s.nat Obj.PATH_HOLD_TIME) < age ∧ ms (s.nat Obj.PATH_HOLD_TIME) + ms (s.nat Obj.PATH_FADE_TIME) ≤ age)

/-- HOLD_FADE_EVAL at a presentation boundary: the path state from the lines' ages (R206). -/
def State.holdFadeEval (s : State) : State :=
  let p := s.paths
  if p.hold || p.fade || p.dark then
    let ages := (List.range (s.nat Obj.TILE_HEIGHT)).filterMap fun y => (look {} y p.lines : HeldLine).age s.now
    let dark := ages.all s.isDark
    let fade := ages.any s.fading
    (s.setPaths { p with hold := !dark && !fade, fade := fade && !dark, dark := dark }).showFlags
  else s

/-- R207. -/
def State.lostBoth (s : State) : Bool :=
  let p := s.paths
  p.hold || p.fade || p.dark || (!s.usable false && !s.usable true)

/-! ### Timers (R204, R205, R208, R185) -/

/-- PATH_HOLDOFF_EXPIRY: path A has stayed clean for H. -/
def pathHoldoffExpiry (s : State) : State :=
  match s.paths.holdoff with
  | some (t0, h) =>
    if s.isTile ∧ s.paths.prefB ∧ s.nat Obj.PATH_FORCE = 0 ∧ t0 + seconds h ≤ s.now then
      let p := s.paths
      ((s.setPaths { p with prefB := false, holdoff := none,
                            returns := s.now :: p.returns.filter fun t => decide (s.now < t + seconds 600) }).bump
        Obj.PATH_RETURNS).reselect.showFlags
    else s
  | none => s

def execPathHoldoffExpiry (t : Cyc) (s : State) : Host.Outcome State Fault Refusal := s.run t pathHoldoffExpiry

/-- STATUS as the tile sends it (Table 7-4): FRAME, BOOT, generation, TILE_STATE, path flags, uncleared faults, epoch
and state of session 0, ADDR_MISMATCH. -/
def State.statusWords (s : State) : List Int :=
  [s.nat Obj.WFC % 256, if s.paths.bootUntil.isSome then 1 else 0, s.rd Obj.COMMIT_GENERATION, s.rd Obj.TILE_STATE,
   s.rd Obj.PATH_FLAGS, s.rd Obj.FLT_UNCLEARED, (s.session 0).epoch, if (s.session 0).isOpen then 1 else 0,
   if s.paths.mismatch then 1 else 0]

/-- A tile's own packet waits on both ports (R188). -/
def State.ownPacket (s : State) (cls blocks typ : Nat) (words : List Int) : State :=
  let k : OutPkt := { cls := cls, blocks := blocks, dst := 0, at_ := s.now, typ := typ, words := words }
  (s.enqueue 0 k).enqueue 1 k

/-- STATUS is queued; an unaddressed tile sends only FAULT (R190). -/
def State.queueStatus (s : State) : State :=
  let s := if s.nat Obj.TILE_ADDRESS = 0 then s else s.ownPacket 4 3 0x48 s.statusWords
  s.setPaths { s.paths with statusAt := some s.now, statusDue := false }

/-- STATUS_PERIODIC: at the first frame boundary at least 20 ms after the previous STATUS. -/
def statusPeriodic (s : State) : State :=
  let due := match s.time.boundaryAt, s.paths.statusAt with
    | some b, some t0 => decide (t0 + ms 20 ≤ b)
    | some _, none => true
    | none, _ => false
  if s.isTile && due then s.queueStatus else s

def execStatusPeriodic (t : Cyc) (s : State) : Host.Outcome State Fault Refusal := s.run t statusPeriodic

/-- PATH_FLAGS_STATUS: a flag changed, at most once per 1 ms. -/
def pathFlagsStatus (s : State) : State :=
  let due := match s.paths.statusAt with | some t0 => decide (t0 + ms 1 ≤ s.now) | none => true
  if s.isTile && s.paths.statusDue && due then s.queueStatus else s

def execPathFlagsStatus (t : Cyc) (s : State) : Host.Outcome State Fault Refusal := s.run t pathFlagsStatus

/-- A tile frees an entry of a receive queue (R185): CREDIT on both ports once a count has advanced by 8. A tile without an
address sends none (R190). -/
def State.sendCredits (s : State) : State :=
  let p := s.paths
  if s.nat Obj.TILE_ADDRESS = 0 then s
  else (s.ownPacket 4 3 0x26 (p.freed.map Int.ofNat)).setPaths { p with creditSent := p.freed, creditDue := none }

def State.freeEntry (s : State) (pathB : Bool) (cls : Nat) : State :=
  let p := s.paths
  let i := counterOf pathB cls
  let freed := setAt p.freed i ((p.freed.getD i 0 + 1) % 2 ^ 16)
  let s := s.setPaths { p with freed := freed, creditDue := some (p.creditDue.getD s.now) }
  if (freed.getD i 0 + 2 ^ 16 - p.creditSent.getD i 0) % 2 ^ 16 ≥ 8 then s.sendCredits else s

/-- TILE_CREDIT_TIMER: 100 us after an advance. -/
def tileCreditTimer (s : State) : State :=
  match s.paths.creditDue with
  | some t0 => if s.isTile ∧ t0 + us 100 ≤ s.now then s.sendCredits else s
  | none => s

def execTileCreditTimer (t : Cyc) (s : State) : Host.Outcome State Fault Refusal := s.run t tileCreditTimer

end Sys2Proof.Machine
end

