-- ==== Sys2Proof/Machine/Phy.lean ====
section
/-! DEFINITION. The Flue physical layer (chapter 6): clocking, training, block lock, power states, loops, eyes; and
link-frame alignment (R171), which takes a direction up and down. -/

namespace Sys2Proof.Machine

/-- A near-end loop: the receiver hears its own transmitter in place of its pins (Table 6-7). -/
def State.nearLoop (s : State) (p : Nat) : Bool := s.rdAt Obj.PHY_LOOP p 0 == 1 || s.rdAt Obj.PHY_LOOP p 0 == 2

/-- The receive direction hears blocks: it is neither off nor quiet in standby or sleep, and powered (R4, R156, Table 6-6). -/
def State.portHears (s : State) (p : Nat) : Bool :=
  !s.deadPort p && s.rxState p != 0 && s.rxState p != 7 && s.rxState p != 8

/-- Training uses forwarded clocking (PHY_CLK_MODE 0). -/
def State.forwarded (s : State) (p : Nat) : Bool := s.rdAt Obj.PHY_CLK_MODE p 0 == 0

def State.setRun (s : State) (p : Nat) (x : LinkRun) : State :=
  { s with flue := { s.flue with runs := put {} p x s.flue.runs } }
def State.linkRun (s : State) (p : Nat) : LinkRun := look {} p s.flue.runs

/-- A link run sees its direction go down, retrain or realign (R352). -/
def State.spoilRun (s : State) (p : Nat) : State := s.setRun p { s.linkRun p with ok := false }

/-- Its 60 s of R353 start afresh. -/
def State.restSteady (s : State) (p : Nat) : State := s.setRun p { s.linkRun p with steady := s.now }

/-! ### Up and down (R147) -/

/-- The receive direction comes up: the path selector and the sender's assignment see it (R147, R195). -/
def State.portUp (s : State) (p : Nat) : State :=
  let s := ((s.setRx p 6).wrAt Obj.FRM_ALIGNED p 0 1).bumpAt Obj.PHY_UPS p 0
  let x := { s.port p with upSince := some s.now, fails := 0, inFrame := false, wakeAt := none }
  let s := (s.restSteady p).setPort p x
  let s := (s.hold 0x00 p false).hold 0x01 p false
  let s := (s.hold 0x05 p false).showTx p
  match s.chimneyOf p, s.isSender with
  | some (c, _), true => (s.assignRun c).showChim c (s.natAt Obj.CHIM_STATE 0 c == 2)
  | _, _ => s.pathsChanged

/-- The receive direction leaves whatever it did for a state of PHY_RX_STATE. From then on a tile's relay sends ERROR blocks on its
other port (R197). A direction that goes quiet on command leaves an ingest slot in the streaming state (R158). -/
def State.portDown (s : State) (p st : Nat) (quiet : Bool) : State :=
  let was := s.isTile && decide (p < 2) && s.rxUp p
  let s := ((s.setRx p st).wrAt Obj.FRM_ALIGNED p 0 0).spoilRun p
  let s := if was then s.breakOut (1 - p) else s
  let s := s.setPort p { s.port p with upSince := none, stageAt := s.now, groups := 0, good := 0, need := 0, retryAt := none }
  let s := (if quiet then s else s.ingestLinkDown p).showTx p
  match s.chimneyOf p, s.isSender with
  | some (c, _), true => s.showChim c (s.natAt Obj.CHIM_STATE 0 c == 2)
  | _, _ => s.pathsChanged

/-! ### Training (R148 to R154) -/

/-- Settings loaded at the start of an attempt: the stored entries of the band, or built-in start values, which the
manual does not state (free, log 3). -/
def State.loadEq (s : State) (p lane : Nat) : State :=
  let e := s.linkEntry p (s.band p) lane
  if bit e 63 then s.wrAt Obj.PHY_RX_EQ p lane (e % 2 ^ 44 : Nat)
  else (s.wrAt Obj.PHY_RX_EQ p lane (s.freeVal % 2 ^ 44 : Nat)).used

/-- An attempt begins at a stage (R150, R154); stage 0 exists in forwarded mode only. -/
def State.beginAttempt (s : State) (p stage : Nat) : State :=
  let stage := if stage = 0 && !s.forwarded p then 1 else stage
  let s := s.wrAt Obj.PHY_BAND p 0 (s.band p : Nat)
  let s := (List.range 4).foldl (fun s l => s.loadEq p l) s
  let s := (s.setRx p (stage + 1)).wrAt Obj.PHY_RX_CLK_SRC p 0 (if s.forwarded p then 0 else 1)
  s.setPort p { s.port p with stageAt := s.now, groups := 0, retryAt := none, clockLost := false, wakeAt := none }

/-- The preset of Table 6-5 as PHY_TX_COEF. -/
def presetCoef (k : Nat) : Nat :=
  let (pre, post) := match k with
    | 0 => (0, 0) | 1 => (0, 4) | 2 => (0, 8) | 3 => (0, 12) | 4 => (2, 6) | 5 => (3, 9) | 6 => (4, 12) | _ => (0, 16)
  post * 256 + pre

/-- Open training of the transmit direction (R148, R152): it begins at its preset, and nothing is known of the far receiver. -/
def State.openTx (s : State) (p : Nat) (wake : Bool) : State :=
  let s := (List.range 4).foldl (fun s l =>
    s.wrAt Obj.PHY_TX_COEF p l (presetCoef (s.natAt Obj.PHY_TX_PRESET p 0) : Nat)) s
  let s := (s.setTx p 1).setPort p { s.port p with txSince := s.now, txWake := wake, lastTrain := s.now, farReady := none,
                                                   farState := none, stats := [], asks := [], byCmd := false }
  s.sendSlots p (if wake then 3 else 0) 1

/-- Open training of the receive direction, from stage 0. -/
def State.openRx (s : State) (p : Nat) : State :=
  let s := s.portDown p 1 false
  (s.setPort p { s.port p with inFrame := false, locks := [] }).beginAttempt p 0

/-- Open training of a whole port. -/
def State.openTraining (s : State) (p : Nat) : State := (s.openRx p).openTx p false

/-- A failed attempt (R150): stage 0 again after 1 ms, and after 100 ms once eight have failed. -/
def State.failAttempt (s : State) (p : Nat) : State :=
  let x := s.port p
  let fails := x.fails + 1
  let wait := if fails < 8 then ms 1 else ms 100
  let s := (s.setPort p { x with fails := fails, retryAt := some (s.now + wait) }).bumpAt Obj.PHY_TRAIN_FAILS p 0
  if fails = 8 then s.raiseHeld 0x00 p 0 else s

/-- A coefficient request applied (R152): new pre, post and the status. Main is 63 - pre - post, at least 32. -/
def applyCoef (req v other top : Nat) : Nat × Nat :=
  match req with
  | 1 => if v < top ∧ v + 1 + other ≤ 31 then (v + 1, 1) else (v, 3)
  | 2 => if 0 < v then (v - 1, 1) else (v, 2)
  | _ => (v, 0)

/-- The handshake for one lane's block. -/
def State.coefStep (s : State) (p : Nat) (w : Nat) : State :=
  let lane := bits w 55 54
  let x := s.port p
  let st : CoefStat := look {} lane x.stats
  let c := s.natAt Obj.PHY_TX_COEF p lane
  let (pre, post) := (bits c 3 0, bits c 12 8)
  let preReq := bits w 23 22
  let postReq := bits w 21 20
  let (c, done) := if bit w 19 then (if st.preset then (c, true) else (presetCoef (bits w 18 16), true)) else (c, false)
  let (pre, post) := if bit w 19 && !st.preset then (bits c 3 0, bits c 12 8) else (pre, post)
  let (pre, sp) := if preReq = 0 then (pre, 0) else if st.pre ≠ 0 then (pre, st.pre) else applyCoef preReq pre post 15
  let (post, sq) :=
    if postReq = 0 then (post, 0) else if st.post ≠ 0 then (post, st.post) else applyCoef postReq post pre 31
  let s := s.wrAt Obj.PHY_TX_COEF p lane (post * 256 + pre : Nat)
  s.setPort p { x with stats := put {} lane { pre := sp, post := sq, preset := done } x.stats }

/-- The receiver's own request for a lane (R152): it is held until the far transmitter's status for it is non-zero, then hold
is sent; a new one starts once the status is back at 0. Where the reverse direction carries no training there is no feedback,
and it requests nothing. -/
def nextAsk (cur want : CoefAsk) (preStat postStat : Nat) (done feedback : Bool) : CoefAsk :=
  if !feedback then {}
  else if cur = {} then (if preStat = 0 ∧ postStat = 0 ∧ done = false then want else {})
  else if cur.preset.isSome then (if done then {} else cur)
  else if cur.pre ≠ 0 then (if preStat ≠ 0 then {} else cur)
  else if postStat ≠ 0 then {} else cur

/-- One request of one lane: of several the first stands. -/
def oneAsk (a : CoefAsk) : CoefAsk :=
  if a.preset.isSome then { preset := a.preset }
  else if a.pre % 4 = 1 ∨ a.pre % 4 = 2 then { pre := a.pre % 4 }
  else if a.post % 4 = 1 ∨ a.post % 4 = 2 then { post := a.post % 4 } else {}

/-- The handshake's other half, for the lane of a received block. -/
def State.askStep (s : State) (p : Nat) (asks : List CoefAsk) (w : Nat) : State :=
  let lane := bits w 55 54
  let x := s.port p
  let want := if s.rxState p = 4 then oneAsk (asks.getD lane {}) else {}
  let ask := nextAsk (look {} lane x.asks) want (bits w 15 14) (bits w 13 12) (bit w 11)
    (s.txState p == 1 || s.txState p == 3)
  s.setPort p { x with asks := put {} lane ask x.asks }

/-- The adapted equaliser settings (R154). -/
def State.adapt (s : State) (p : Nat) (eq : List Nat) : State :=
  (eq.take 4).zipIdx.foldl (fun s q => s.wrAt Obj.PHY_RX_EQ p q.2 (q.1 % 2 ^ 44 : Nat)) s

/-- The limit of a stage in cycles, or in groups where the direction trains in-frame (R149, Table 6-4). -/
def State.stageOver (s : State) (p : Nat) : Bool :=
  let x := s.port p
  let st := s.rxState p
  if x.inFrame && st != 1 then decide ((if st = 4 then 1024 else 64) ≤ x.groups)
  else
    let lim := match st with
      | 1 => us 100 | 2 => if s.forwarded p then us 300 else ms 1 | 3 => us 50 | _ => ms 2
    decide (x.stageAt + lim ≤ s.now)

def State.toStage (s : State) (p st : Nat) : State :=
  (s.setRx p st).setPort p { s.port p with stageAt := s.now, groups := 0 }

/-- The end of stage 3: ready, unless a lane's eye stays below 8 UI/64. -/
def State.endEqualise (s : State) (p eye : Nat) : State :=
  if eye < 8 then s.failAttempt p else s.toStage p 5

/-- Every forwarded phase becomes the tracker's (Table 6-4, R145). -/
def State.phaseZero (s : State) (p : Nat) : State :=
  (List.range 4).foldl (fun s l => s.wrAt Obj.PHY_PHASE_DIFF p l 0) s

/-- PHY_LANE_MAP from the LANE fields of the blocks of lanes 0 to 3, where they name every lane once. -/
def laneMapOf (lanes : List Nat) : Option Nat :=
  match lanes.idxOf? 0, lanes.idxOf? 1, lanes.idxOf? 2, lanes.idxOf? 3 with
  | some a, some b, some c, some d => some (a + b * 4 + c * 16 + d * 64)
  | _, _, _, _ => none

/-- A receive direction passes a stage when its exit condition holds (Table 6-4); `got` are the four lanes' blocks, as the
receiver's delay leaves them, with their inversion. One that wakes from standby keeps its equaliser settings and is ready
once it is deskewed (R157). -/
def State.stageStep (s : State) (p : Nat) (rx : RxProgress) (got : List (Nat × Bool)) : State :=
  match s.rxState p with
  | 1 => if rx.clockOk then s.toStage p 2 else s
  | 2 => if rx.bitAligned then
      let inv := (got.zipIdx.filter (·.1.2)).foldl (fun n q => setBit n q.2 true) 0
      let s := (s.phaseZero p).wrAt Obj.PHY_LANE_INVERT p 0 inv
      (s.setPort p { s.port p with locks := [0, 1, 2, 3] }).toStage p 3
    else s
  | 3 =>
    if 264 < rx.deskew then s.failAttempt p
    else match laneMapOf (got.map fun q => bits q.1 55 54), (got.map fun q => bits q.1 31 24).eraseDups with
      | some m, [_] =>
        ((s.wrAt Obj.PHY_RX_DESKEW p 0 rx.deskew).wrAt Obj.PHY_LANE_MAP p 0 m).toStage p
          (if (s.port p).wakeAt.isSome then 5 else 4)
      | _, _ => s
  | 4 => if rx.converged then s.endEqualise p rx.eye else s
  | _ => s

/-- The direction goes quiet on command: state 7 or 8, no fault (R156). -/
def State.goQuiet (s : State) (p st : Nat) : State := s.portDown p st true

/-- TX_CMD (R156, R157, R160). A sleeping receiver wakes with any open training; one in standby wakes with TX_CMD 3, and
any other training block opens its training as from sleep. -/
def State.txCommand (s : State) (p cmd : Nat) : State :=
  let st := s.rxState p
  if st = 7 ∧ cmd = 3 then
    (s.setRx p 2).setPort p { s.port p with wakeAt := some s.now, stageAt := s.now, groups := 0 }
  else if (st = 7 ∨ st = 8) ∧ cmd ≠ 1 ∧ cmd ≠ 2 then s.beginAttempt p 0
  else match cmd with
  | 1 => if 1 ≤ st ∧ st ≤ 6 then s.goQuiet p 7 else s
  | 2 => if 1 ≤ st ∧ st ≤ 7 then s.goQuiet p 8 else s
  | 4 =>
    if s.flagAt Obj.PHY_FAR_LOOP_ALLOW p 0 && !s.portRuns p && s.rxState p != 9 then
      let s := (s.portDown p 9 false).setTx p 7
      s.setPort p { s.port p with byCmd := true }
    else s
  | 5 => if (s.port p).byCmd then s.openTraining p else s
  | _ => s

/-- The four lanes' blocks of a slot that check, each with its inversion. -/
def slotRead (blocks : List Nat) : List (Nat × Bool) := (blocks.take 4).filterMap trainingRead

/-- TRAINING_BLOCK: one training block on each physical lane, 0 to 3. Blocks that fail their CRC-8 are ignored. In a near-end loop
the blocks are the port's own, where it sends any. A transmitter in open training sends its own next slot. -/
def trainingBlock (p : Nat) (blocks : List Nat) (rx : RxProgress) (s : State) : State :=
  if s.deadPort p || s.rxState p == 0 then s
  else
    let got := slotRead (if s.nearLoop p then (if s.txState p = 1 then s.trainingSlot p 0 0 else []) else blocks)
    match got with
    | [] => s
    | (w, _) :: _ =>
      let far := got.foldl (fun m q => min m (bits q.1 53 50)) 15
      let x := s.port p
      let ready := if far = 4 ∧ got.length = 4 then some (x.farReady.getD s.now) else x.farReady
      let s := s.setPort p { x with lastTrain := s.now, farState := some far, farReady := ready, groups := x.groups + 1,
                                    eye := rx.eye }
      let s := (s.wrAt Obj.PHY_FAR_CAP p 0 (bits w 37 32 : Nat)).adapt p rx.eq
      let s := got.foldl (fun s q => (s.coefStep p q.1).askStep p rx.asks q.1) s
      let s := (s.txCommand p (bits w 49 46)).showTx p
      let s := if s.txState p = 1 then s.sendSlots p (if (s.port p).txWake then 3 else 0) 1 else s
      if (s.port p).retryAt.isSome then s
      else if got.length = 4 then s.stageStep p rx got else s

def execTrainingBlock (t : Cyc) (port : Nat) (blocks : List Nat) (rx : RxProgress) (s : State) :
    Host.Outcome State Fault Refusal :=
  s.run t (trainingBlock port blocks rx)

/-- TRAINING_STAGE_LIMIT: a stage over its limit fails the attempt; stage 3 ends instead (Table 6-4). -/
def trainingStageLimit (p : Nat) (s : State) : State :=
  if 1 ≤ s.rxState p ∧ s.rxState p ≤ 4 ∧ (s.port p).retryAt.isNone ∧ s.stageOver p then
    if s.rxState p = 4 && !(s.port p).inFrame then s.endEqualise p (s.port p).eye else s.failAttempt p
  else s

def execTrainingStageLimit (t : Cyc) (port : Nat) (s : State) : Host.Outcome State Fault Refusal :=
  s.run t (trainingStageLimit port)

def trainingRetry (p : Nat) (s : State) : State :=
  match (s.port p).retryAt with
  | some t0 => if t0 ≤ s.now then s.beginAttempt p 0 else s
  | none => s

def execTrainingRetry (t : Cyc) (port : Nat) (s : State) : Host.Outcome State Fault Refusal :=
  s.run t (trainingRetry port)

/-- The transmit direction wakes: from off the whole port trains, from standby with TX_CMD 3, from sleep in open training
(R157, Table 6-6). -/
def State.wakeTx (s : State) (p : Nat) : State :=
  match s.txState p with
  | 0 => s.openTraining p
  | 4 => s.openTx p true
  | 5 => s.openTx p false
  | _ => s

/-- The transmit direction goes quiet: 16 blocks with the command, and the lanes off (R156). One that is not in link frames
begins them first; LINK_FRAMES_START comes back here. -/
def State.quietTx (s : State) (p cmd st : Nat) : State :=
  if s.txState p = st then s
  else if s.sends p then (s.sendSlots p cmd 16).setTx p st else s.wakeTx p

/-- A port that something in force names is active. The transmit direction of any other takes PHY_TX_POWER (R155, R156), and
state off at stage 2 of Table 16-2. -/
def State.txPower (s : State) (p : Nat) : State :=
  if s.named p then s.wakeTx p
  else
    match (if 2 ≤ s.mods.thermal.applied || s.deadPort p then 3 else s.natAt Obj.PHY_TX_POWER p 0) with
    | 1 => s.quietTx p 1 4
    | 2 => s.quietTx p 2 5
    | 3 => if s.txState p = 0 then s else ((s.portDown p 0 false).setTx p 0).setPort p {}
    | _ => s.wakeTx p

/-- LINK_FRAMES_START (R153): 16 further training blocks per lane, then link frames; a wake from standby sends its training blocks
for 1 us (R157). A tile whose other direction is down sends ERROR positions from the start (R197). A port that nothing in
force names then takes its power state (R155). -/
def linkFramesStart (p : Nat) (s : State) : State :=
  let x := s.port p
  let rule1 := match x.farReady with
    | some t0 => x.farState == some 4 && (s.rxState p == 5 || s.rxState p == 6 || decide (t0 + ms 20 ≤ s.now))
    | none => false
  let woken := x.txWake && decide (x.txSince + us 1 ≤ s.now)
  if s.txState p = 1 ∧ (rule1 = true ∨ woken = true ∨ x.lastTrain + ms 20 ≤ s.now) then
    let s := ((s.sendSlots p 0 16).setTx p 2).setPort p { x with txWake := false, inFrame := !s.rxUp p && s.rxState p != 5 }
    let s := (s.showTx p).setEgress p { (s.showTx p).egress p with part := [], relay := [], fseq := 0, sinceGroup := 64 }
    let s := if s.isTile && decide (p < 2) && s.inputDown p then s.breakOut p else s
    if s.configured then s.txPower p else s
  else s

def execLinkFramesStart (t : Cyc) (port : Nat) (s : State) : Host.Outcome State Fault Refusal :=
  s.run t (linkFramesStart port)

/-! ### Clocking (R142 to R145) -/

def State.spoilClock (s : State) (p : Nat) : State := s.setRun p { s.linkRun p with clockOk := false, steady := s.now }

/-- One lane hands over, its phase difference in UI/64 and the bit offset found (-1, 0 or 1): within 8 nothing is lost,
otherwise it realigns, the current link frame is lost, and an offset of 1 or -1 changes PHY_RX_DESKEW (R144); what a change
beyond its range of 0 to 264 leaves is not stated (free, log 121). -/
def State.handLane (s : State) (p lane : Nat) (offset : Int) (fault : Bool) : State :=
  let d := s.rdAt Obj.PHY_PHASE_DIFF p lane
  if d.natAbs ≤ 8 then s
  else
    let dk := s.rdAt Obj.PHY_RX_DESKEW p 0 + clampI (-1) 1 offset
    let s := if 0 ≤ dk ∧ dk ≤ 264 then s.wrAt Obj.PHY_RX_DESKEW p 0 dk
      else (s.wrAt Obj.PHY_RX_DESKEW p 0 (s.freeVal % 265 : Nat)).used
    let s := (s.bumpAt Obj.PHY_REALIGNS p 0).spoilRun p
    let s := s.setPort p { s.port p with spoilt := true }
    if fault then s.raise 0x03 p lane else s

/-- The lanes' hand-over to their trackers (R144). -/
def State.handOver (s : State) (p : Nat) (offsets : List Int) (loss : Bool) : State :=
  let s := (List.range 4).foldl (fun s l => s.handLane p l (offsets.getD l 0) true) s
  let s := s.wrAt Obj.PHY_RX_CLK_SRC p 0 1
  let s := s.spoilClock p
  if loss then (s.bumpAt Obj.PHY_TAKEOVERS p 0).raiseHeld 0x02 p 0 else s

/-- CLOCK_LANE_LOSS: in stages 0 to 2 the attempt fails; from stage 3 on, and in a loop, the lanes hand over (R144, R150). -/
def clockLaneLoss (p : Nat) (offsets : List Int) (s : State) : State :=
  if !s.forwarded p || s.rdAt Obj.PHY_RX_CLK_SRC p 0 != 0 || s.deadPort p then s
  else
    let s := s.setPort p { s.port p with clockLost := true }
    let st := s.rxState p
    if 1 ≤ st ∧ st ≤ 3 then (if (s.port p).retryAt.isSome then s else s.failAttempt p)
    else if (4 ≤ st ∧ st ≤ 6) ∨ st = 9 then s.handOver p offsets true
    else s

def execClockLaneLoss (t : Cyc) (port : Nat) (offsets : List Int) (s : State) : Host.Outcome State Fault Refusal :=
  s.run t (clockLaneLoss port offsets)

/-- The return to forwarded clocking: every forwarded phase is first set to the tracker's, then the per-lane rule applies, with no
fault (R145). -/
def State.clockBack (s : State) (p : Nat) (offsets : List Int) : State :=
  let s := s.phaseZero p
  let s := (List.range 4).foldl (fun s l => s.handLane p l (offsets.getD l 0) false) s
  (((s.wrAt Obj.PHY_RX_CLK_SRC p 0 0).restSteady p).setPort p
    { (s.restSteady p).port p with clockLost := false }).hold 0x02 p false

/-- FWD_CLOCK_RETURN: the clock lane has been present for 1 s. -/
def fwdClockReturn (p : Nat) (offsets : List Int) (s : State) : State :=
  if s.forwarded p && s.flagAt Obj.PHY_CLK_RETURN p 0 && s.rdAt Obj.PHY_RX_CLK_SRC p 0 == 1 then s.clockBack p offsets
  else s

def execFwdClockReturn (t : Cyc) (port : Nat) (offsets : List Int) (s : State) : Host.Outcome State Fault Refusal :=
  s.run t (fwdClockReturn port offsets)

/-- PHASE_TRACK_STEP (R142): `tracker` is the measured difference; above 2/64 UI the forwarded phase moves one step
towards the tracker, at most once per 10 us. The trackers run from bit alignment onward. -/
def phaseTrackStep (p lane : Nat) (tracker : Int) (s : State) : State :=
  if 4 ≤ lane ∨ ¬ s.portHears p ∨ s.rxState p = 1 then s
  else
    let x := s.port p
    let diff := clampI (-128) 127 tracker
    let may := match x.stepAt.find? fun q => q.1 == lane with
      | some (_, t0) => decide (t0 + us 10 ≤ s.now)
      | none => true
    if s.rdAt Obj.PHY_RX_CLK_SRC p 0 = 0 ∧ 2 < diff.natAbs ∧ may = true then
      (s.wrAt Obj.PHY_PHASE_DIFF p lane (if 0 < diff then diff - 1 else diff + 1)).setPort p
        { x with stepAt := (lane, s.now) :: x.stepAt.filter fun q => q.1 != lane }
    else s.wrAt Obj.PHY_PHASE_DIFF p lane diff

def execPhaseTrackStep (t : Cyc) (port lane : Nat) (tracker : Int) (s : State) : Host.Outcome State Fault Refusal :=
  s.run t (phaseTrackStep port lane tracker)

/-! ### Block lock and alignment (R151, R171) -/

/-- BLOCK_LOCK_GAINED: 64 valid sync headers on a lane. -/
def blockLockGained (p lane : Nat) (s : State) : State :=
  if lane < 4 then s.setPort p { s.port p with locks := addMember lane (s.port p).locks } else s

def execBlockLockGained (t : Cyc) (port lane : Nat) (s : State) : Host.Outcome State Fault Refusal :=
  s.run t (blockLockGained port lane)

/-- BLOCK_LOCK_LOST: 16 invalid headers within 64 blocks; PHY_SYNC_ERRORS counts each, those of link frames as LINK_FRAME brings
them. An up direction goes down, flue-lane-lost is raised and an attempt starts at stage 1; a far-end loop that TX_CMD began
is left (R160). A quiet direction that saw its command keeps its state (R156). -/
def blockLockLost (p : Nat) (loss : LaneLoss) (s : State) : State :=
  if 4 ≤ loss.lane ∨ ¬ s.portHears p then s
  else
    let s := s.addTo Obj.PHY_SYNC_ERRORS p loss.lane loss.invalid
    let s := s.setPort p { s.port p with locks := (s.port p).locks.filter fun l => l != loss.lane }
    if (s.port p).byCmd then s.openTraining p
    else if s.rxUp p then
      let s := ((s.portDown p 2 false).raiseHeld 0x01 p loss.lane)
      (s.setPort p { s.port p with inFrame := true }).beginAttempt p 1
    else s

def execBlockLockLost (t : Cyc) (port : Nat) (loss : LaneLoss) (s : State) : Host.Outcome State Fault Refusal :=
  s.run t (blockLockLost port loss)

/-- LINK_ALIGN_ACQUIRED: four good MARKERs in a row with every lane locked; a ready direction comes up. -/
def linkAlignAcquired (p : Nat) (s : State) : State :=
  let x := s.port p
  if s.rdAt Obj.FRM_ALIGNED p 0 = 0 ∧ 4 ≤ x.good ∧ x.locks.length = 4 ∧ s.rxState p = 5 then s.portUp p else s

def execLinkAlignAcquired (t : Cyc) (port : Nat) (s : State) : Host.Outcome State Fault Refusal :=
  s.run t (linkAlignAcquired port)

/-- LINK_ALIGN_LOST: eight frames without a good MARKER. While block lock holds, alignment is sought again. -/
def linkAlignLost (p : Nat) (s : State) : State :=
  if s.rdAt Obj.FRM_ALIGNED p 0 = 1 ∧ 8 ≤ (s.port p).bad then
    ((s.portDown p 5 false).bumpAt Obj.FRM_ALIGN_LOSSES p 0).raiseHeld 0x05 p 0
  else s

def execLinkAlignLost (t : Cyc) (port : Nat) (s : State) : Host.Outcome State Fault Refusal :=
  s.run t (linkAlignLost port)

/-- WAKE_TIMEOUT (R157): not up within 2 us of a wake from standby; the wake proceeds as from sleep. -/
def wakeTimeout (p : Nat) (s : State) : State :=
  match (s.port p).wakeAt with
  | some t0 =>
    let s' := s.setPort p { s.port p with wakeAt := none }
    if s.rxUp p then s' else if t0 + us 2 ≤ s.now ∨ (s.port p).clockLost then s'.beginAttempt p 0 else s
  | none => s

def execWakeTimeout (t : Cyc) (port : Nat) (s : State) : Host.Outcome State Fault Refusal :=
  s.run t (wakeTimeout port)

/-! ### Eyes (R162), with what a link run takes from them (R352) -/

def eyeMeasurementDone (p lane width : Nat) (s : State) : State :=
  if 4 ≤ lane ∨ 64 < width then s
  else
    let s := (s.wrAt Obj.PHY_EYE_WIDTH p lane width).setPort p
      { s.port p with eyeAt := (lane, s.now) :: (s.port p).eyeAt.filter fun q => q.1 != lane }
    let low := decide (width < s.natAt Obj.PHY_EYE_MIN p 0)
    let s := if low then s.raiseFor 0x04 (p * 4 + lane) p lane else s.hold 0x04 (p * 4 + lane) false
    let r := s.linkRun p
    if r.active && s.mods.thermal.pausedAt.isNone then
      s.setRun p { r with eyes := put 0 lane (look 0 lane r.eyes + 1) r.eyes,
                          least := put 200 lane (min (look 200 lane r.least) width) r.least }
    else s

def execEyeMeasurementDone (t : Cyc) (port lane width : Nat) (s : State) : Host.Outcome State Fault Refusal :=
  s.run t (eyeMeasurementDone port lane width)

/-- EYE_MEASURE_TIMEOUT: 10 s without a complete measurement; the value reads 127. -/
def eyeMeasureTimeout (p lane : Nat) (s : State) : State :=
  if 4 ≤ lane then s
  else
    let t0 := match (s.port p).eyeAt.find? fun q => q.1 == lane with | some q => q.2 | none => s.sys.tbStart
    if t0 + seconds 10 ≤ s.now then
      let r := s.linkRun p
      let s := (s.wrAt Obj.PHY_EYE_WIDTH p lane 127).hold 0x04 (p * 4 + lane) false
      if r.active then s.setRun p { r with least := put 200 lane 127 r.least } else s
    else s

def execEyeMeasureTimeout (t : Cyc) (port lane : Nat) (s : State) : Host.Outcome State Fault Refusal :=
  s.run t (eyeMeasureTimeout port lane)

/-! ### What writes of the control objects do (R155, R156, R159 to R161, R166) -/

/-- PHY_RETRAIN 1: the receive direction retrains in-frame. -/
def State.retrainInFrame (s : State) (p : Nat) : State :=
  if s.deadPort p then s else
  let s := (s.portDown p 2 false).beginAttempt p 1
  s.setPort p { s.port p with inFrame := true }

/-- PHY_RETRAIN 2: the whole port in open training. -/
def State.retrainOpen (s : State) (p : Nat) : State := if s.deadPort p then s else s.openTraining p

/-- PHY_LOOP (Table 6-7): a loop takes the receive direction down into state 9; the far-end loop takes the transmit lanes too. What
runs through a loop is in LINK_FRAME. -/
def State.setLoop (s : State) (p v : Nat) : State :=
  let was := s.natAt Obj.PHY_LOOP p 0
  let s := s.wrAt Obj.PHY_LOOP p 0 v
  if s.deadPort p then s else
  match v with
  | 0 => if was = 0 then s else s.openTraining p
  | 3 => (s.portDown p 9 false).setTx p 7
  | _ => s.portDown p 9 false

/-- PHY_TEST_PATTERN (R161): the transmitter sends data blocks of PRBS31, each lane from a state that the manual does not give
(free); what is sent records the first slot. The receiver's check starts afresh. -/
def State.setPattern (s : State) (p v : Nat) : State :=
  let s := s.wrAt Obj.PHY_TEST_PATTERN p 0 v
  if s.deadPort p then s
  else if v = 1 then
    let s := ((s.setTx p 6).wrAt Obj.PHY_TEST_ERRORS p 0 0).setPort p { s.port p with prbs := [] }
    let slot := (List.range 4).map fun l => ((false, ofBits (prbs 64 (s.freeVal / 2 ^ (31 * l) % 2 ^ 31)).1) : Blk)
    (s.used.setEgress p { s.egress p with scr := (sendLanes (s.egress p).scr slot).2 }).send
      (.lanes p (sendLanes (s.egress p).scr slot).1)
  else if s.txState p = 6 then s.openTraining p else s

/-- The bit offsets that the lanes find at a hand-over which no event reports: -1, 0 or 1 each, free (log 121). -/
def State.freeOffsets (s : State) : List Int := (List.range 4).map fun l => (s.freeVal / 3 ^ l % 3 : Nat) - 1

/-- An attempt before stage 3 goes on in the new clock mode, without stage 0 where it is recovered (R146, Table 6-4). -/
def State.attemptMode (s : State) (p : Nat) : State :=
  if s.rxState p = 0 then s
  else
    let s := s.wrAt Obj.PHY_RX_CLK_SRC p 0 (if s.forwarded p then 0 else 1)
    if s.rxState p = 1 && !s.forwarded p then s.toStage p 2 else s

/-- What applied sets do to the ports (R144, R145, R155): clock mode, and states of ports named or no longer named. -/
def State.phyApplied (s old : State) : State :=
  (List.range 16).foldl (fun s p =>
    let s := if old.rdAt Obj.PHY_CLK_MODE p 0 = s.rdAt Obj.PHY_CLK_MODE p 0 then s
      else if s.rxState p < 4 ∨ s.rxState p = 7 ∨ s.rxState p = 8 then s.attemptMode p
      else if s.forwarded p then s.used.clockBack p s.freeOffsets
      else if s.rdAt Obj.PHY_RX_CLK_SRC p 0 = 1 then s.spoilClock p
      else s.used.handOver p s.freeOffsets false
    if s.configured then s.txPower p else s) s

end Sys2Proof.Machine
end

