-- ==== Sys2Proof/Machine/Framing.lean ====
section
/-! DEFINITION. Flue framing (chapter 7): arbiters, link frames and the relay, CTRL reassembly, gaps, allowance and
the packets that leave. -/

namespace Sys2Proof.Machine

/-! ### Arbiters (R26 to R28) -/

/-- An arbiter's inputs that are stream requesters (Tables 1-9 and 7-6). -/
def arbStream : ArbId → Nat → Bool
  | .mem _, i => i == 4 || i == 3 || i == 0
  | .ws, i => decide (4 ≤ i) || i == 0
  | .egress _, i => i == 3 || i == 1 || i == 0

def arbInputs : ArbId → Nat
  | .mem _ => 5
  | _ => 8

/-- The burst bounds of Table 1-9: bytes of a memory channel, CCLK cycles of the working store. -/
def arbBurst (id : ArbId) (i : Nat) : Nat :=
  match id with
  | .mem _ => if arbStream id i then 4096 else 64
  | _ => if arbStream id i then 64 else 1

def arbKey : ArbId → Nat
  | .mem c => c
  | .ws => 100
  | .egress p => 200 + p

/-- N of an arbiter. -/
def State.arbN (s : State) : ArbId → Nat
  | .mem _ => s.nat Obj.DEV_ARB_MEM_N
  | .ws => s.nat Obj.DEV_ARB_WS_N
  | .egress _ => s.nat Obj.FRM_ARB_N

/-- The request raised longest; a tie goes to the higher input. -/
def oldestOf : List (Nat × Cyc) → Option (Nat × Cyc)
  | [] => none
  | q :: qs => match oldestOf qs with
    | none => some q
    | some r => if q.2 < r.2 ∨ (q.2 = r.2 ∧ r.1 < q.1) then some q else some r

def highestOf (l : List (Nat × Cyc)) : Nat := maxNat (l.map (·.1))

/-- Raise times: a request that is still raised keeps its time, a new one brings its own, a dropped one is forgotten. -/
def Arb.see (a : Arb) (raised : List (Nat × Cyc)) : Arb :=
  { a with raised := raised.map fun r => (a.raised.find? fun q => q.1 == r.1).getD r }

/-- One evaluation of the pseudocode of R27 with the inputs now raised. -/
def Arb.grant (a : Arb) (now : Cyc) (stream : Nat → Bool) (n : Nat) : Arb :=
  let keep := match a.owner with
    | some o => stream o && a.raised.any fun q => q.1 == o
    | none => false
  if keep then a
  else if a.raised.isEmpty then
    (match a.owner with
     | some o => if stream o then { a with owner := none } else a
     | none => a)
  else
    let count := a.count + 1
    let win := if count % n = 0 then ((oldestOf a.raised).map (·.1)).getD 0 else highestOf a.raised
    { count := count, owner := some win, raised := a.raised.filter (fun q => q.1 != win), served := put 0 win now a.served }

def State.arb (s : State) (k : Nat) : Arb := look {} k s.sys.arbs
def State.setArb (s : State) (k : Nat) (a : Arb) : State :=
  { s with sys := { s.sys with arbs := put {} k a s.sys.arbs } }

/-! ### Line packets at the sender (R19, R22, R122, R176 to R179) -/

/-- Pixels of every packet up to and including (c, a, y), chimneys, addresses and lines ascending. -/
def pixelsThrough (v : View) (c a y : Nat) : Nat :=
  let whole (c : Nat) (as : List Nat) : Nat := sumNat (as.map fun b => (viewEntry v c b).tw * (viewEntry v c b).th)
  sumNat ((List.range c).map fun d => whole d (mappedTiles v d))
    + whole c ((mappedTiles v c).filter fun b => decide (b < a)) + (y + 1) * (viewEntry v c a).tw

/-- Engines in service, counting those whose share a spare takes over (R19, R22). -/
def State.enginesLeft (s : State) : Nat :=
  s.nat Obj.DEV_ENG_IN_SERVICE + (s.sys.takeovers.filter (·.spare.isSome)).length

/-- A packet is withheld in this frame: late (R105), owned by an engine retired in it (R19), or beyond the capacity
that is left (R22). -/
def State.withheld (s : State) (c a y : Nat) : Bool :=
  (s.chim c).skip.contains (y, a)
  || s.sys.takeovers.any (fun t => Config.engineOwns t.pe c a y)
  || (decide (s.enginesLeft < 512) && decide (compositorAvail s.rdAt s.enginesLeft < pixelsThrough s.rdAt c a y))

/-- Runs of protected pixels of a line. -/
def protectedRuns : Nat → Option Nat → List Bool → List (Nat × Nat)
  | _, none, [] => []
  | x, some f, [] => [(f, x - 1)]
  | x, none, true :: r => protectedRuns (x + 1) (some x) r
  | x, none, false :: r => protectedRuns (x + 1) none r
  | x, some f, true :: r => protectedRuns (x + 1) (some f) r
  | x, some f, false :: r => (f, x - 1) :: protectedRuns (x + 1) none r

/-- The least gap between neighbouring runs. -/
def leastGap : List (Nat × Nat) → Nat
  | (_, l) :: (f, m) :: r => min (f - l) (leastGap ((f, m) :: r))
  | _ => 2 ^ 16

/-- The leftmost pair with a given gap is joined. -/
def joinAt (g : Nat) : List (Nat × Nat) → List (Nat × Nat)
  | (f, l) :: (f2, l2) :: r => if f2 - l = g then (f, l2) :: r else (f, l) :: joinAt g ((f2, l2) :: r)
  | r => r

/-- R179: joins until seven runs remain; the count is of joins (log 14). -/
def joinRuns : Nat → List (Nat × Nat) → List (Nat × Nat) × Nat
  | 0, r => (r, 0)
  | n + 1, r => if r.length ≤ 7 then (r, 0) else
    let (q, k) := joinRuns n (joinAt (leastGap r) r)
    (q, k + 1)

/-- The line packet (c, a, y) of this frame for a path, and the joins it took. -/
def State.linePacket (s : State) (c a y : Nat) (pathB : Bool) : LinePkt × Nat :=
  let px := s.composeLine c a y
  let (runs, joins) := joinRuns 512 (protectedRuns 0 none (px.map (·.2)))
  ({ addr := a, line := y, wq := (viewEntry s.rdAt c a).tw / 4 - 1, frame := s.nat Obj.WFC % 256, pathB := pathB,
     spans := runs, unusedZero := true, pixels := px.map (·.1), complete := true }, joins)

/-- The departure deadline of packet j of a chimney has passed (R122). -/
def State.departed (s : State) (c j : Nat) : Bool := decide (s.deadline c j < s.wall18)

/-- The next line packet of a port's sequence that is not withheld, and whose copy can still leave by its departure deadline
(R122, R194), as (index, line, address). A packet is composed when its turn at a port comes (log 135). -/
def State.nextLine (s : State) (c p : Nat) : Option (Nat × Nat × Nat) :=
  if !s.sys.composing || s.sys.jtag == 2 || s.held then none
  else
    let j := (s.egress p).lineAt
    ((lineSequence s.rdAt c).drop j).zipIdx.findSome? fun q =>
      if s.withheld c q.1.2 q.1.1 || s.departed c (j + q.2) then none else some (j + q.2, q.1.1, q.1.2)

/-- Cycles that payload positions last (31 in 33 cycles), and positions in cycles. -/
def positionCycles (n : Nat) : Cyc := ceilDiv (n * 33) 31
def positionsIn (c : Cyc) : Nat := c * 31 / 33

/-- Whether a packet at a sender's port finds its destination's space: an ingest port takes class 6 at link rate (R184). -/
def State.hasSpace (s : State) (p : Nat) (k : OutPkt) : Bool :=
  match s.chimneyOf p with
  | some (c, pathB) => s.credited c pathB k
  | none => true

/-- The head packet of a class. -/
def State.headOf (s : State) (p cls : Nat) : Option OutPkt := (s.egress p).queue.find? fun k => k.cls == cls

/-- When a sender port's class raised its request, where it is raised (R180 to R185): its head packet has waited since it was
queued, or since its class was last served; class 7 also since 1 us after its last start, class 3 since a cycle after the
last line packet. Class 2 never requests. -/
def State.requestAt (s : State) (p cls : Nat) : Option Cyc :=
  let e := s.egress p
  let served := look 0 cls (s.arb (200 + p)).served
  if cls = 3 then
    match s.chimneyOf p, e.lineEnd with
    | some (c, _), some t0 => if t0 < s.now ∧ (s.nextLine c p).isSome then some (max (t0 + 1) e.since) else none
    | some (c, _), none => if (s.nextLine c p).isSome then some e.since else none
    | none, _ => none
  else match s.headOf p cls with
  | none => none
  | some k =>
    let since := max k.at_ served
    if !s.hasSpace p k then none
    else match cls with
    | 7 => let free := match e.last7 with | some t0 => t0 + us 1 | none => 0
           if free ≤ s.now then some (max since free) else none
    | 6 => some since
    | 0 => if (k.blocks : Int) ≤ e.allow then some since else none
    | _ => none

/-- The raised requests of a sender's port. None rises while a packet is on the link, or while the port is not in link frames. -/
def State.requests (s : State) (p : Nat) : List (Nat × Cyc) :=
  if s.sends p && decide ((s.egress p).busy ≤ s.now) then
    [7, 6, 3, 0].filterMap fun cls => (s.requestAt p cls).map fun t => (cls, t)
  else []

/-- The requests as they stand, noted with their raise times: before a command that gives space or allowance, and after it, when
new ones are raised now (R26). -/
def State.noteRequests (s : State) (p : Nat) (fresh : Bool) : State :=
  let r := s.requests p
  s.setArb (200 + p) ((s.arb (200 + p)).see (if fresh then r.map fun q => (q.1, s.now) else r))

/-- Stalls: head packets of credited classes that find no credit (FRM_CREDIT_STALLS). -/
def State.countStalls (s : State) (p : Nat) : State :=
  [7, 6, 0].foldl (fun s cls => match s.headOf p cls with
    | some k => if s.hasSpace p k then s else s.bump Obj.FRM_CREDIT_STALLS
    | none => s) s

/-! ### What a packet's blocks hold (R174, Tables 7-3, 7-4 and 9-4) -/

/-- A signed field of 64 bits. -/
def signed64 (v : Int) : Nat := (v.emod (2 ^ 64)).toNat
/-- TIME96 over two data blocks (Table 9-4). -/
def timeBlocks (w : Nat) : List Nat := [time96 w / 2 ^ 32, time96 w % 2 ^ 32 * 2 ^ 32]
/-- Bytes in blocks of eight, the last padded with 0. -/
def byteBlocks : Nat → List Nat → List Nat
  | 0, _ => []
  | n + 1, l => (List.range 8).foldl (fun a i => a * 256 + l.getD i 0) 0 :: byteBlocks n (l.drop 8)

/-- Header bits [32:0] and the data blocks of a packet. The bytes of a CTRL segment include the message's tag, which this model
does not compute (log 5): its data blocks are free. The ORIGIN of SYNC is the stamp of its departure, with the STEPS of that moment. -/
def State.packetBody (s : State) (k : OutPkt) : Nat × List Nat :=
  let n := k.words.map Int.toNat
  let f (i : Nat) : Nat := n.getD i 0
  match k.typ with
  | 0x20 => (f 1 % 65536 * 2 ^ 17 + f 2 * 2 ^ 12 + f 3 * 2 ^ 11,
      (List.range (k.blocks - 1)).map fun i => Config.freeNat (s.free + i) % 2 ^ 64)
  | 0x24 => (f 0 % 256 * 2 ^ 25 + f 1 * 2 ^ 24, [f 2 % 2 ^ 64, f 2 / 2 ^ 64])
  | 0x26 => (0, [f 0 * 2 ^ 48 + f 1 * 2 ^ 32 + f 2 * 2 ^ 16, f 3 * 2 ^ 48 + f 4 * 2 ^ 32 + f 5 * 2 ^ 16])
  | 0x30 => (f 0 * 2 ^ 29 + f 1 % 256 * 2 ^ 21 + f 2 % 65536 * 2 ^ 5 + (if f 0 = 1 then s.nat Obj.TIME_STEPS else f 3) % 16 * 2,
      if f 0 = 1 then timeBlocks s.stamp.toNat ++ [0] else (k.words.drop 4).map signed64)
  | 0x38 => (0, [f 1 / 2 ^ 64, f 1 % 2 ^ 64])
  | 0x48 => (f 0 % 256 * 2 ^ 25 + f 1 * 2 ^ 24,
      [f 2 * 2 ^ 32 + f 3 * 2 ^ 24 + f 4 * 2 ^ 16 + f 5, f 6 * 2 ^ 48 + f 7 * 2 ^ 47 + f 8 * 2 ^ 46])
  | 0x50 => (f 0 % 256 * 2 ^ 25 + f 1 % 2 ^ 25, byteBlocks (k.blocks - 1) (n.drop 2))
  | _ => (0, [])

/-- SRC of this device (Table 7-3). -/
def State.srcField (s : State) : Nat :=
  if s.isSender then 0 else if s.nat Obj.TILE_ADDRESS = 0 then 0xFE else s.nat Obj.TILE_ADDRESS

/-- PATH of a packet that leaves on a port: at a sender the path, at a tile whether the port is TILE_A_PORT; DELAY_RESP repeats the
bit of its request (R219). -/
def State.pathField (s : State) (p : Nat) (k : OutPkt) : Bool :=
  match k.path with
  | some b => b
  | none => match s.isSender, s.chimneyOf p with
    | true, some (_, pathB) => pathB
    | true, none => false
    | false, _ => s.nat Obj.TILE_A_PORT == p

/-- The blocks of a packet on a port. -/
def State.packetBlocks (s : State) (p : Nat) (k : OutPkt) : List Blk :=
  let (rest, data) := s.packetBody k
  (true, packetHeader k.typ k.cls (k.blocks - 1) k.dst s.srcField (s.pathField p k) rest) :: data.map fun w => (false, w)

/-- The free values that a packet's blocks have taken. -/
def State.usedBlocks (s : State) (k : OutPkt) : State :=
  if k.typ = 0x20 then { s with free := s.free + (k.blocks - 1) } else if k.typ = 0x30 ∧ k.words.headD 0 = 1 then s.used else s

/-! ### A sender's port (R180 to R185) -/

/-- What an ingest packet of a sender says, as `State.toFrontEnd` queued it. -/
def ingestTx (p : Nat) (k : OutPkt) : Tx :=
  let f (i : Nat) : Nat := (k.words.getD i 0).toNat
  .ingest p k.typ (f 0) (f 1) (f 2) ((k.words.drop 3).map Int.toNat)

/-- A queued packet leaves. The 10 ms of R195 run from the departure of the path A ASSIGN. -/
def State.sendQueued (s : State) (p : Nat) (k : OutPkt) : State :=
  let e := s.egress p
  let e := { e with queue := e.queue.erase k, allow := e.allow - k.blocks, busy := s.now + positionCycles k.blocks,
                    last7 := if k.cls = 7 then some s.now else e.last7 }
  let s := match s.chimneyOf p with
    | none => (s.setEgress p e).send (ingestTx p k)
    | some (c, pathB) =>
      let s := ((((s.setEgress p e).spend c pathB k).send (.packet p (s.packetBlocks p k))).usedBlocks k)
      if k.typ = 0x24 && !pathB then s.setChim c { s.chim c with left := some s.now } else s
  match k.last with
  | some slot =>
    if s.flue.egress.any fun q => q.2.queue.any fun w => w.last == some slot then s else s.finish slot
  | none => s

/-- The next line packet of a port leaves. -/
def State.sendLine (s : State) (p : Nat) : State :=
  match s.chimneyOf p with
  | none => s
  | some (c, pathB) => match s.nextLine c p with
    | none => s
    | some (j, y, a) =>
      let (k, joins) := s.linePacket c a y pathB
      let s := if pathB then s else s.addTo Obj.FRM_SPAN_JOINS 0 0 joins
      let done := s.now + positionCycles (lineWords k).length
      (s.setEgress p { s.egress p with lineAt := j + 1, busy := done, lineEnd := some done }).send (.line p (lineWords k))

/-- An insertion gap is due (R182): 7,990 payload positions have passed since the start of the last; the first is due at once. -/
def State.gapDue (s : State) (p : Nat) : Bool :=
  match (s.egress p).gapAt with
  | some t0 => decide (7990 ≤ positionsIn (s.now - t0))
  | none => true

/-- Ten IDLE blocks, the first with GAP; a transmitter that embeds training groups places one after it (R148). -/
def State.sendGap (s : State) (p : Nat) : State :=
  let s := (s.bumpAt Obj.FRM_GAPS p 0).send (.packet p (gapBlock :: List.replicate 9 idleBlock))
  let s := if s.txState p = 3 then s.send (.training p (s.trainingSlot p 0 0)) else s
  s.setEgress p { s.egress p with gapAt := some s.now, busy := s.now + positionCycles 10 }

/-- One evaluation of a sender port's arbiter. Class 3 drops its request after each packet (R181), and so do the queued
classes. A gap that is due takes the place of the line packet that wins. `gapOnly`: nothing else leaves. -/
def State.egressGrant (s : State) (p : Nat) (gapOnly : Bool) : State :=
  let a := (({ s.arb (200 + p) with owner := none }).see (s.requests p)).grant s.now (arbStream (.egress p)) (s.arbN (.egress p))
  match a.owner with
  | some 3 =>
    if s.gapDue p then (s.setArb (200 + p) a).sendGap p
    else if gapOnly then s else (s.setArb (200 + p) a).sendLine p
  | some cls =>
    if gapOnly then s
    else match s.headOf p cls with
      | some k => (((s.countStalls p).setArb (200 + p) a).sendQueued p k)
      | none => s
  | none => if gapOnly then s else s.countStalls p

/-! ### Gaps and allowance (R182) -/

/-- INSERTION_GAP: a gap that is due, in place of the line packet that wins the arbiter. -/
def insertionGap (p : Nat) (s : State) : State :=
  match s.isSender, s.chimneyOf p with
  | true, some _ => s.egressGrant p true
  | _, _ => s

def execInsertionGap (t : Cyc) (port : Nat) (s : State) : Host.Outcome State Fault Refusal :=
  s.run t (insertionGap port)

/-- ALLOWANCE_TICK: 800 further payload positions have passed since the boundary. -/
def allowanceTick (p : Nat) (s : State) : State :=
  match s.isSender, s.chimneyOf p with
  | true, some _ =>
    let e := s.egress p
    if (e.ticks + 1) * 800 ≤ positionsIn (s.now - e.since) then
      let s := s.noteRequests p false
      (s.setEgress p { e with allow := e.allow + 1, ticks := e.ticks + 1 }).noteRequests p true
    else s
  | _, _ => s

def execAllowanceTick (t : Cyc) (port : Nat) (s : State) : Host.Outcome State Fault Refusal :=
  s.run t (allowanceTick port)

/-- CREDIT: the later counts are taken (R185), and requests that find space with them are raised now. -/
def creditTaken (c a : Nat) (counts : List Nat) (s : State) : State :=
  if s.isSender ∧ c < 8 ∧ 1 ≤ a ∧ a ≤ 128 then
    let note (fresh : Bool) (s : State) : State := (s.chimPorts c).foldl (fun s p => s.noteRequests p fresh) s
    note true (creditEffect c a counts (note false s))
  else s

def execCredit (t : Cyc) (chim tile a7 a6 a0 b7 b6 b0 : Nat) (s : State) : Host.Outcome State Fault Refusal :=
  s.run t (creditTaken chim tile [a7, a6, a0, b7, b6, b0])

/-- At a frame boundary: the allowances are 0, the line sequences start again, late packets are forgotten (R182). -/
def State.egressBoundary (s : State) : State :=
  let s := (List.range 8).foldl (fun s c => s.setChim c { s.chim c with segs := 0, skip := [] }) s
  (List.range 16).foldl (fun s p =>
    if (s.chimneyOf p).isSome then
      s.setEgress p { s.egress p with allow := 0, ticks := 0, since := s.now, lineAt := 0 }
    else s) s

/-! ### Own packets of a tile (R188) -/

/-- The classes of a tile's waiting packets that fit a run, with the oldest wait of each. -/
def fitting (q : List OutPkt) (run : Nat) : List (Nat × Cyc) :=
  (List.range 8).filterMap fun cls =>
    ((q.filter fun k => k.cls == cls && decide (k.blocks ≤ run)).head?).map fun k => (cls, k.at_)

/-- The oldest FAULT entry that a port has not sent (R406), as a packet that waits. -/
def State.faultWaiting (s : State) (p : Nat) : Option Report :=
  if s.nat Obj.TILE_ADDRESS = 0 then none
  else s.flt.reports.find? fun r => if p = 0 then !r.sent0 else !r.sent1

/-- A port has sent an entry; one sent on both leaves the queue. -/
def State.faultSent (s : State) (p : Nat) (r : Report) : State :=
  let r' : Report := if p = 0 then { r with sent0 := true } else { r with sent1 := true }
  let l := s.flt.reports.map fun q => if q == r then r' else q
  (s.setFlt { s.flt with reports := l.filter fun q => !(q.sent0 && q.sent1) }).send
    (.faultPkt p (s.nat Obj.TILE_ADDRESS) r.entry)

def faultPacket (r : Report) : OutPkt :=
  { cls := 5, blocks := 3, dst := 0, at_ := r.at_, typ := 0x38, words := [0, (r.entry.word : Int)] }

/-- The IDLE positions without GAP at the head of a list. -/
def idleRun : List Blk → Nat
  | [] => 0
  | b :: r => if b == idleBlock then idleRun r + 1 else 0

/-- The run at the head of the relay, and whether it begins with GAP; the next gap ends it. During a break of the other
port every position is an ERROR that may be written over (R197): the run is then as long as any own packet. -/
def State.headRun (s : State) (p : Nat) : Nat × Bool :=
  match (s.egress p).relay with
  | [] => if s.inputDown p then (8, false) else (0, false)
  | b :: r => if b == gapBlock then (idleRun r + 1, true) else (idleRun (b :: r), false)

/-- Blocks written over the run at the head; a gap that they take counts as seen and used. -/
def State.overwrite (s : State) (p : Nat) (bs : List Blk) : State :=
  let gap := (s.headRun p).2
  let e := s.egress p
  let s := s.setEgress p { e with relay := e.relay.drop bs.length, sinceGap := if gap then 0 else e.sinceGap }
  let s := if gap then (s.bumpAt Obj.FRM_GAPS p 0).bumpAt Obj.FRM_GAPS_USED p 0 else s
  s.putAll p bs

/-- An own packet leaves; a DELAY_REQ's egress stamp is recorded for its port (R220). -/
def State.sendOwn (s : State) (p : Nat) (k : OutPkt) : State :=
  let s := if k.typ = 0x30 then
      State.used { s with time := { s.time with reqs := (p, (k.words.getD 2 0).toNat, s.stamp.toNat) :: s.time.reqs.take 31 } }
    else s
  let bs := s.packetBlocks p k
  ((s.send (.packet p bs)).overwrite p bs).usedBlocks k

/-- The own packets that may leave on a port: without an address only FAULT (R190). -/
def State.ownQueue (s : State) (p : Nat) : List OutPkt :=
  let q := (s.egress p).queue
  if s.nat Obj.TILE_ADDRESS = 0 then q.filter fun k => k.typ == 0x38
  else q ++ ((s.faultWaiting p).map faultPacket).toList

/-- The choice among the own packets that fit the run (R188). -/
def State.ownChoice (s : State) (p run : Nat) : Option (Arb × OutPkt) :=
  let q := s.ownQueue p
  let fits := fitting q run
  if fits.isEmpty then none
  else
    let a := ({ s.arb (200 + p) with owner := none, raised := fits }).grant s.now (fun _ => false) (s.nat Obj.FRM_ARB_N)
    (q.find? fun k => some k.cls == a.owner && decide (k.blocks ≤ run)).map fun k => (a, k)

/-- The tile's own training group: one block per lane over a run that fills one block slot, at most one in 64 link frames
(R148, R149, R188). -/
def State.ownGroup (s : State) (p run : Nat) : State :=
  let e := s.egress p
  if s.txState p = 3 ∧ 64 ≤ e.sinceGroup ∧ 4 ≤ run ∧ e.part.length % 4 = 0 ∧ e.part.length ≤ 24 then
    let slot := s.trainingSlot p 0 0
    let s := (s.send (.training p slot)).overwrite p (slot.map fun w => (true, w))
    s.setEgress p { s.egress p with sinceGroup := 0 }
  else s

/-- OWN_PACKET_INSERT: the relay has sent on `ahead` positions; R188's evaluation takes place at its head, for a training group
or for the tile's own packets. A gap is taken only where none of the last 127 was. -/
def ownPacketInsert (p ahead : Nat) (group : Bool) (s : State) : State :=
  if !s.isTile || decide (2 ≤ p) || !s.sends p then s
  else
    let s := s.relayOn p ahead
    let (run, gap) := s.headRun p
    if gap && decide ((s.egress p).sinceGap < 127) then s
    else if group then s.ownGroup p run
    else match s.ownChoice p run with
      | none => s
      | some (a, k) =>
        let s := (s.setArb (200 + p) { a with owner := none, raised := [] }).setEgress p
          { s.egress p with queue := (s.egress p).queue.erase k }
        match s.faultWaiting p with
        | some r => if k == faultPacket r then (s.faultSent p r).overwrite p (s.packetBlocks p k) else s.sendOwn p k
        | none => s.sendOwn p k

def execOwnPacketInsert (t : Cyc) (port ahead : Nat) (group : Bool) (s : State) : Host.Outcome State Fault Refusal :=
  s.run t (ownPacketInsert port ahead group)

/-! ### ARBITER_GRANT (R26 to R28, R30) -/

/-- A request that Table 1-9 admits: the input exists and its burst is within the bound. A port whose packets are held at a fence
raises no ingest write (R84). -/
def State.arbAdmits (s : State) (id : ArbId) (r : ArbReq) : Bool :=
  let stalled := match r.port with
    | some p => (s.slotOf p).all fun i => !(s.slot i).held.isEmpty
    | none => false
  decide (r.input < arbInputs id) && decide (r.burst ≤ arbBurst id r.input) && !stalled

/-- An evaluation of a memory channel's or the working store's arbiter. -/
def grantShared (id : ArbId) (raised : List ArbReq) (s : State) : State :=
  let r := (raised.filter (s.arbAdmits id)).map fun q => (q.input, min q.at_ s.now)
  s.setArb (arbKey id) (((s.arb (arbKey id)).see r).grant s.now (arbStream id) (s.arbN id))

/-- ARBITER_GRANT: one evaluation. An egress arbiter reads its port's own queues; the others are told which inputs are raised. A
tile has neither MEM2 to MEM7 nor the egress of FL2 to FL15 (Table 1-11). -/
def arbiterGrant (id : ArbId) (raised : List ArbReq) (s : State) : State :=
  match id with
  | .egress p => if s.isSender then s.egressGrant p false else ownPacketInsert p 0 false s
  | .mem c => if s.isTile && decide (2 ≤ c) then s else grantShared id raised s
  | .ws => grantShared id raised s

def execArbiterGrant (t : Cyc) (arb : ArbId) (raised : List ArbReq) (s : State) : Host.Outcome State Fault Refusal :=
  s.run t (arbiterGrant arb raised)

/-! ### Link frames and the relay (R167 to R174, R186, R187, R190, R196, R221) -/

/-- Half the asymmetry constant of a port in ns x 2^16 (R221, R222; rounded to nearest, log 15). -/
def State.asymHalf (s : State) (p : Nat) : Int :=
  roundAway ((if s.forwarded p then s.rdAt Obj.TIME_ASYM_FWD p 0 else s.rdAt Obj.TIME_ASYM_REC p 0) * 65536) 2000

/-- A tile takes the packet: DST is its address, or it is its own line packet (R186). -/
def State.takes (s : State) (w : Nat) : Bool :=
  let own := s.nat Obj.TILE_ADDRESS
  own != 0 && (if w / 2 ^ 56 = 0x40 then bits w 55 48 == own else bits w 49 42 == own)

/-- A packet interrupted before its last block is counted; LINE and CTRL copies are counted where they are judged (log 16). -/
def State.cut (s : State) (p : Nat) : State :=
  let x := s.port p
  if x.need = 0 then s
  else
    let s := if x.typ = 0x40 ∨ x.typ = 0x20 then s else s.bumpAt Obj.FRM_INCOMPLETE p 0
    s.setPort p { x with need := 0, mine := false, corr := none }

/-- The forwarded header of ASSIGN, SYNC or DELAY_REQ: HOP or HOPS moves on (R174, R221). -/
def State.forwardHeader (s : State) (w : Nat) : Nat :=
  let typ := w / 2 ^ 56
  if typ = 0x24 then
    let hop := bits w 32 25
    w - hop * 2 ^ 25 + nextHop hop (bit w 24) * 2 ^ 25
  else if typ = 0x30 && s.nat Obj.TILE_ADDRESS != 0 && (bits w 32 29 == 1 || bits w 32 29 == 2) then
    let hops := bits w 28 21
    w - hops * 2 ^ 21 + min (hops + 1) 255 * 2 ^ 21
  else w

/-- R196: one payload position. -/
def Port.position (x : Port) (error neutral : Bool) : Port :=
  if error then
    let n := x.errRun + 1
    { x with errRun := n, broken := x.broken || decide (32 ≤ n) }
  else { x with errRun := 0, broken := x.broken && neutral }

/-- The path state follows payload position by payload position (R196, R200, R203). -/
def State.seePaths (s : State) : State :=
  if s.usable false == s.paths.usableA && s.usable true == s.paths.usableB then s else s.pathsChanged

/-- A port that carries chimney packets rather than ingest packets (Table 7-1). -/
def State.chimneyPort (s : State) (p : Nat) : Bool := s.isTile || (s.chimneyOf p).isSome

/-- A data block: the packet's next, the last of a forwarded TIME packet with the relay's residence time added to CORR (R221), or
one outside a packet. -/
def State.rxData (s : State) (p : Nat) (b : Blk) : State × Blk :=
  let x := s.port p
  if x.need = 0 then ((s.setPort p (x.position false false)).seePaths, b)
  else
    let out := match x.corr with
      | some r => if x.need = 1 then (false, signed64 ((b.2 : Int) + r + s.asymHalf p)) else b
      | none => if x.mine then idleBlock else b
    ((s.setPort p ({ x with need := x.need - 1 }.position false x.tileSrc)).seePaths, out)

/-- The control block of a packet: its header is judged (R173), and forwarded, or taken and replaced with IDLE (R186). A header
that a relay corrects takes the next residence time. -/
def State.rxHeader (s : State) (p : Nat) (residence : List Int) (n w : Nat) : State × Blk × List Int :=
  let typ := w / 2 ^ 56
  let ok := headerOk (s.chimneyPort p) w
  let mine := ok && s.isTile && s.takes w
  let src := bits w 41 34
  let tileSrc := typ != 0x40 && (decide (1 ≤ src ∧ src ≤ 0x80) || src == 0xFE)
  let time := ok && !mine && typ == 0x30 && (bits w 32 29 == 1 || bits w 32 29 == 2) && s.isTile && s.nat Obj.TILE_ADDRESS != 0
  let s := if ok || typ = 0x40 || typ = 0x20 then s else s.bumpAt Obj.FRM_INCOMPLETE p 0
  let x := { s.port p with typ := typ, need := if ok then n else 0, mine := mine, tileSrc := tileSrc,
                           corr := if time then some (residence.headD 0) else none }
  ((s.setPort p (x.position false tileSrc)).seePaths,
    if mine then idleBlock else (true, if ok then s.forwardHeader w else w), if time then residence.drop 1 else residence)

/-- One payload position of a good frame: parsed, and the block that the relay sends on in its place. -/
def State.rxBlock (s : State) (p : Nat) (residence : List Int) (b : Blk) : State × Blk × List Int :=
  if !b.1 then
    let (s, o) := s.rxData p b
    (s, o, residence)
  else
    let s := s.cut p
    match packetLen (s.chimneyPort p) b.2 with
    | some n => s.rxHeader p residence n b.2
    | none =>
      let typ := b.2 / 2 ^ 56
      let s := if typ = 0x7F ∨ typ = 0xD2 ∨ typ = 0x78 then s else s.bumpAt Obj.FRM_BAD_BLOCKS p 0
      ((s.setPort p ((s.port p).position (typ == 0x7F) (typ == 0xD2))).seePaths,
        if typ = 0xD2 then idleBlock else b, residence)

def State.rxBlocks (s : State) (p : Nat) (residence : List Int) : List Blk → State × List Blk
  | [] => (s, [])
  | b :: bs =>
    let (s, o, residence) := s.rxBlock p residence b
    let (s, os) := s.rxBlocks p residence bs
    (s, o :: os)

/-- What the lanes of a link frame carry: the block stream, none where a sync header was invalid. Each lane's invalid headers are
counted and its descrambler goes on (R139 to R141, R151). In a near-end loop the port receives the frame that it sends itself,
of IDLE blocks since its block does not run (R159). -/
def State.rxLanes (s : State) (p : Nat) (lanes : List (List LaneBlock)) : State × List (Option Blk) :=
  if s.nearLoop p then
    let e := s.egress p
    if s.sends p then
      (s.setEgress p { e with fseq := (e.fseq + 1) % 65536 }, (frameOf e.fseq (List.replicate 31 idleBlock)).map some)
    else (s, List.replicate 32 none)
  else
    let (l, scr) := readLanes (s.natAt Obj.PHY_LANE_MAP p 0) (s.natAt Obj.PHY_LANE_INVERT p 0) (s.port p).scr lanes
    let s := s.setPort p { s.port p with scr := scr }
    ((l.zipIdx.foldl (fun s q => s.addTo Obj.PHY_SYNC_ERRORS p q.2 (badHeaders q.1)) s), blockStream l)

/-- The far-end loop: the blocks, after deskew and before descrambling, go out again on the transmit lanes (Table 6-7). -/
def State.loopBack (s : State) (p : Nat) (lanes : List (List LaneBlock)) : State :=
  s.send (.lanes p ((List.range 4).map fun k => lanes.getD (physLane (s.natAt Obj.PHY_LANE_MAP p 0) k) []))

/-- One lane's blocks against PRBS31 (R161): in the first 64 blocks the reference follows what comes; after them each differing
bit is an error. -/
def State.checkPattern (s : State) (p lane : Nat) : List (Option Blk) → State
  | [] => s
  | none :: r => s.checkPattern p lane r
  | some b :: r =>
    let x := s.port p
    let (h, n) := look (0, 0) lane x.prbs
    let (want, next) := prbs 64 h
    let err := bitErrors b.2 (ofBits want)
    let (h, n) := if n < 64 then (if err = 0 ∧ n ≠ 0 then next else b.2 % 2 ^ 31, n + 1) else (next, n)
    let s := s.setPort p { x with prbs := put (0, 0) lane (h, n) x.prbs }
    (if (look (0, 0) lane x.prbs).2 < 64 then s else s.addTo Obj.PHY_TEST_ERRORS p 0 err).checkPattern p lane r

/-- A received frame in the run of MARKERs (R171): good when its CRC is right and its FSEQ is one above the previous frame's. -/
def Port.marker (x : Port) (got : Option (List Blk × Nat)) : Port :=
  match got with
  | none => { x with good := 0, bad := x.bad + 1 }
  | some (_, m) =>
    let fseq := bits m 55 40
    if x.fseq.map (fun q => (q + 1) % 65536) = some fseq then { x with good := x.good + 1, bad := 0, fseq := some fseq }
    else { x with good := 0, bad := x.bad + 1, fseq := some fseq }

/-- The 31 payload positions of a frame: of one that fails, all ERROR (R172). -/
def payloadOf (got : Option (List Blk × Nat)) : List Blk :=
  match got with
  | some (body, _) => body
  | none => List.replicate 31 errorBlock

/-- The blocks of a frame in the receiver: counted and checked; the run of good or bad MARKERs; the positions parsed; in a
tile, the relay's positions of the frame before leave and these join it (R186). A frame in which a lane realigned is lost
(R144). -/
def State.frameBlocks (s : State) (p : Nat) (f : LinkFrame) (stream : List (Option Blk)) : State :=
  let got := if (s.port p).spoilt then none else frameRead stream
  let s := (s.bumpAt Obj.FRM_FRAMES p 0).setPort p { (s.port p).marker got with spoilt := false }
  let s := if got.isSome then s else (s.bumpAt Obj.FRM_CRC_ERRORS p 0).raise 0x06 p 0
  let relays := s.isTile && decide (p < 2) && s.rxUp p
  let (s, out) := s.rxBlocks p f.residence (payloadOf got)
  if relays then (s.relayAll (1 - p)).relayIn (1 - p) out f.slip else s

/-- LINK_FRAME: the lanes are read (R139 to R141) and, in the far-end loop, sent on; a port that checks a test pattern frames
nothing (R161). -/
def linkFrame (p : Nat) (f : LinkFrame) (s : State) : State :=
  if !s.portHears p then s
  else
    let s := (if s.txState p = 7 then s.loopBack p f.lanes else s).adapt p f.eq
    let (s, stream) := s.rxLanes p f.lanes
    if s.flagAt Obj.PHY_TEST_PATTERN p 0 then
      (if s.nearLoop p then s
       else (List.range 4).foldl (fun s k =>
        s.checkPattern p k ((List.range 8).map fun m => stream.getD (4 * m + k) none)) s)
    else s.frameBlocks p f stream

def execLinkFrame (t : Cyc) (port : Nat) (f : LinkFrame) (s : State) : Host.Outcome State Fault Refusal :=
  s.run t (linkFrame port f)

/-! ### CTRL reassembly (R175) -/

def Asm.is (a : Asm) (src : Nat) (pathB : Bool) (id : Nat) : Bool := a.src == src && a.pathB == pathB && a.msgId == id

/-- A message counts as passed for 10 ms. -/
def State.wasPassed (s : State) (src id : Nat) : Bool :=
  s.flue.passed.any fun q => q.1 == src && q.2.1 == id && decide (s.now ≤ q.2.2 + ms 10)

/-- Another copy of a message is under way. -/
def State.copyRuns (s : State) (src id : Nat) : Bool := s.flue.asm.any fun a => a.src == src && a.msgId == id

def State.dropFailed (s : State) (src id : Nat) : State :=
  s.setFlue { s.flue with failed := s.flue.failed.filter fun q => !(q.1 == src && q.2.1 == id) }

/-- A copy has failed. ctrl-message-lost is raised once no copy is left that could complete: the other has failed too, or none
has come within the 1 ms of a copy. Until then the failure is noted. -/
def State.copyLost (s : State) (src id : Nat) (timedOut : Bool) : State :=
  if s.wasPassed src id then s
  else if !s.copyRuns src id && (timedOut || s.flue.failed.any fun q => q.1 == src && q.2.1 == id) then
    (s.dropFailed src id).raise 0x08 0 id
  else
    let s := s.dropFailed src id
    s.setFlue { s.flue with failed := (src, id, s.now) :: s.flue.failed }

/-- A message is complete: the first copy passes to pair M, a later one within 10 ms is a duplicate. -/
def State.copyDone (s : State) (src id : Nat) (bytes : List Byte) : State :=
  if s.wasPassed src id then s.bump Obj.FRM_CTRL_DUPS
  else
    s.setFlue { s.flue with passed := (src, id, s.now) :: s.flue.passed.filter fun q => decide (s.now ≤ q.2.2 + ms 10),
                            received := (src, id, bytes) :: s.flue.received,
                            failed := s.flue.failed.filter fun q => !(q.1 == src && q.2.1 == id) }

/-- CTRL: a segment for this device. A sender's sources are chimney * 256 + SRC. -/
def ctrlEffect (port : Nat) (g : CtrlSeg) (s : State) : State :=
  let own := s.nat Obj.TILE_ADDRESS
  let forUs := !s.deadPort port && if s.isSender then g.dst == 0 && (s.chimneyOf port).isSome else own != 0 && (g.dst == own || g.dst == 0xFF)
  let src := match s.isSender, s.chimneyOf port with
    | true, some (c, _) => c * 256 + g.src
    | _, _ => g.src
  if !forUs then s
  else
    let s := if s.isTile then s.freeEntry g.pathB 6 else s
    if !g.complete || decide (19 < g.seg) then s.bumpAt Obj.FRM_INCOMPLETE port 0
    else if g.seg = 0 then
      let mine := s.flue.asm.filter fun a => a.src == src && a.pathB == g.pathB
      if mine.length ≥ 8 then
        ((s.setFlue { s.flue with refused := (src, g.pathB, g.msgId) :: s.flue.refused }).bump
          Obj.FRM_CTRL_OVERFLOWS).copyLost src g.msgId false
      else if g.last then s.copyDone src g.msgId g.bytes
      else s.setFlue { s.flue with asm := s.flue.asm ++ [⟨src, g.pathB, g.msgId, 1, s.now, g.bytes⟩] }
    else if s.flue.refused.contains (src, g.pathB, g.msgId) then
      if g.last then s.setFlue { s.flue with refused := s.flue.refused.filter fun q => q != (src, g.pathB, g.msgId) }
      else s
    else match s.flue.asm.find? fun a => a.is src g.pathB g.msgId with
    | none => s
    | some a =>
      let rest := s.flue.asm.filter fun b => !b.is src g.pathB g.msgId
      if a.next ≠ g.seg then (s.setFlue { s.flue with asm := rest }).copyLost src g.msgId false
      else if g.last then (s.setFlue { s.flue with asm := rest }).copyDone src g.msgId (a.bytes ++ g.bytes)
      else s.setFlue { s.flue with asm := rest ++ [{ a with next := a.next + 1, bytes := a.bytes ++ g.bytes }] }

/-- CTRL_REASSEMBLY_TIMEOUT: 1 ms from the copy's first segment; or 1 ms after a copy was dropped, where no other came. -/
def ctrlReassemblyTimeout (src : Nat) (pathB : Bool) (id : Nat) (s : State) : State :=
  match s.flue.asm.find? fun a => a.is src pathB id with
  | some a =>
    if a.start + ms 1 ≤ s.now then
      ((s.setFlue { s.flue with asm := s.flue.asm.filter fun b => !b.is src pathB id }).bump
        Obj.FRM_CTRL_TIMEOUTS).copyLost src id true
    else s
  | none => match s.flue.failed.find? fun q => q.1 == src && q.2.1 == id with
    | some (_, _, t0) => if t0 + ms 1 ≤ s.now ∧ s.copyRuns src id = false then (s.dropFailed src id).raise 0x08 0 id else s
    | none => s

def execCtrlReassemblyTimeout (t : Cyc) (src : Nat) (pathB : Bool) (msgId : Nat) (s : State) :
    Host.Outcome State Fault Refusal :=
  s.run t (ctrlReassemblyTimeout src pathB msgId)

/-! ### Forwarded messages (R44, R183) -/

/-- CTRL_FORWARD_SEND: the next queued message of a chimney goes to class 6 on both ports, at most 32 segments in a
frame period. -/
def ctrlForwardSend (c : Nat) (s : State) : State :=
  let x := s.chim c
  match x.fwd with
  | [] => s
  | (op, m, n) :: rest =>
    let k := segments n
    if s.isSender ∧ chimneyOn s.rdAt c ∧ x.segs + k ≤ 32 then
      let dst := match m.route with | .chimney _ a => a | _ => 0xFF
      ((s.setChim c { x with fwd := rest, segs := x.segs + k }).queueCtrl (s.chimPorts c) 6 dst n).send (.forward op m)
    else s

def execCtrlForwardSend (t : Cyc) (chim : Nat) (s : State) : Host.Outcome State Fault Refusal :=
  s.run t (ctrlForwardSend chim)

/-! ### Unaddressed tiles (R190) -/

/-- UNADDR_FAULT_REPORT: a waiting entry, or the latest unaddressed-tile entry, with SRC 0xFE, once per second. -/
def unaddrFaultReport (s : State) : State :=
  let due := match s.paths.unaddrAt with | some t0 => decide (t0 + seconds 1 ≤ s.now) | none => true
  if s.isTile && s.nat Obj.TILE_ADDRESS == 0 && due then
    match (s.flt.reports.head?.map (·.entry)).or (s.flt.ash.find? fun e => e.source == 0x07) with
    | some e =>
      let s := { s with flt := { s.flt with reports := s.flt.reports.drop 1 } }
      let s := s.ownPacket 5 3 0x38 [0xFE, e.word]
      s.setPaths { s.paths with unaddrAt := some s.now }
    | none => s
  else s

def execUnaddrFaultReport (t : Cyc) (s : State) : Host.Outcome State Fault Refusal := s.run t unaddrFaultReport

end Sys2Proof.Machine
end

