-- ==== Sys2Proof/Machine/Time.lean ====
section
/-! DEFINITION. Wall time and frame lock (chapter 9): clocks, the schedule, the sender's sources, SYNC, DELAY and
ANCHOR, the tile's time states, time pulse outputs. -/

namespace Sys2Proof.Machine

/-- Nanoseconds in 2^-18 ns. -/
def ns18 (n : Int) : Int := n * 262144

/-- A computed value reported in an object; beyond the type's range the manual states no value (free, log 4). -/
def State.wrIn (s : State) (r : ObjRow) (i j : Nat) (v : Int) : State :=
  if r.lo ≤ v ∧ v ≤ r.hi then s.wrAt r i j v
  else (s.wrAt r i j (r.lo + (s.freeVal % (r.hi - r.lo + 1).toNat : Nat))).used

/-! ### Clocks (R212, R213) -/

/-- The nominal ADDEND or rate, and ±250 ppm of it. -/
def nominalRate : Nat := 46912496118443
def clampRate (span ppm v : Nat) : Nat := max (span - span * ppm / 1000000) (min (span + span * ppm / 1000000) v)

/-- A new rate from now on; wall time does not jump (R213). TIME_RATE follows. -/
def State.setRate (s : State) (rate : Nat) : State :=
  let s := { s with clock := { base := s.clock.read s.now, at_ := s.now, rate := rate } }
  s.wr Obj.TIME_RATE (roundAway (((rate : Int) - nominalRate) * 1000000000) nominalRate)

/-- A step by `d` (2^-18 ns). A wall time below 0 or above the TIME96 range is not stated (free, log 3). -/
def State.stepClock (s : State) (d : Int) : State :=
  let v : Int := s.clock.read s.now + d * 2 ^ 28
  let top : Nat := 2 ^ 48 * 1000000000 * 2 ^ 46
  let s := (s.wr Obj.TIME_STEPS ((s.nat Obj.TIME_STEPS + 1) % 16 : Nat))
  if 0 ≤ v ∧ v < top then { s with clock := { s.clock with base := v.toNat, at_ := s.now } }
  else { s with clock := { s.clock with base := s.freeVal % top, at_ := s.now } }.used

/-! ### The schedule (R226) -/

/-- T in 2^-18 ns as num / den. -/
def period18 (rate : Nat) : Nat × Nat := ((periodNs rate).1 * 262144, (periodNs rate).2)

/-- B(k), rounded down. -/
def Schedule.instant (c : Schedule) (k : Nat) : Int :=
  c.t + (((k : Int) - c.k) * (period18 c.rate).1) / ((period18 c.rate).2 : Int)

/-- The first k not below `lo` whose boundary satisfies a test that holds from some k near `w` on. -/
def Schedule.firstFrom (c : Schedule) (lo : Nat) (w : Int) (test : Int → Bool) : Nat :=
  let guess : Int := c.k + ((w - c.t) * (period18 c.rate).2) / ((period18 c.rate).1 : Int)
  let g := max lo (guess - 1).toNat
  (((List.range 4).map (g + ·)).find? fun k => test (c.instant k)).getD (g + 4)

/-- The schedule that governs boundary k, announced changes included. -/
def State.scheduleFor (s : State) (k : Nat) : Option Schedule :=
  match (s.time.announced.filter fun c => decide (c.k ≤ k)).getLast? with
  | some c => some c
  | none => s.time.sched

/-- T_ANCHOR as TIME96. One that a step has taken below 0 has no value in that type (free, log 3). -/
def State.anchor96 (s : State) (t : Int) : Nat :=
  time96 (if 0 ≤ t then t.toNat else s.freeVal % (2 ^ 48 * 1000000000 * 2 ^ 18))

/-- The schedule takes force; the objects of Table 9-11 follow. -/
def State.setSchedule (s : State) (c : Schedule) : State :=
  let s := s.setTime { s.time with sched := some c }
  let s := (s.wr Obj.TIME_ANCHOR_WFC c.k).wr Obj.TIME_ANCHOR_TIME (s.anchor96 c.t : Nat)
  if 0 ≤ c.t then s else s.used

/-- The first schedule a device adopts (R226). -/
def State.firstSchedule (s : State) (c : Schedule) : State :=
  let w : Int := s.wall18
  let s := s.setSchedule c
  s.setTime { s.time with first := some (c.firstFrom 0 w fun b => decide (w < b)) }

/-- Insertion by target. -/
def addSchedule (c : Schedule) (l : List Schedule) : List Schedule :=
  (l.filter fun x => decide (x.k < c.k)) ++ [c] ++ l.filter fun x => decide (c.k < x.k)

/-! ### ANCHOR at the sender (R219, R228) -/

/-- KIND, HOPS, SEQ, STEPS and data blocks of an ANCHOR for chimney c (Tables 9-3 and 9-4). -/
def State.anchorWords (s : State) (c : Nat) (a : Schedule) : List Int :=
  let t := s.anchor96 a.t
  let flags := (if s.nat Obj.TIME_STATE = 2 then 2 ^ 31 else 0) + if s.flag Obj.TIME_EPOCH_ALIGN then 2 ^ 30 else 0
  [4, 0, s.time.anchorSeq, s.nat Obj.TIME_STEPS,
   (a.k % 2 ^ 48 * 2 ^ 16 + a.rate * 2 ^ 8 + s.natAt Obj.WALL_CHIM_TILES 0 c : Nat), (t / 2 ^ 32 : Nat),
   (t % 2 ^ 32 * 2 ^ 32 + flags : Nat)]

/-- ANCHOR on both paths of a chimney: TIME packets of class 7 to every tile, with the next SEQ of their kind. -/
def State.sendAnchor (s : State) (c : Nat) (a : Schedule) : State :=
  let s := s.setTime { s.time with anchorSeq := (s.time.anchorSeq + 1) % 65536 }
  s.onBoth c fun _ => { cls := 7, blocks := 4, dst := 0xFF, at_ := s.now, typ := 0x30, words := s.anchorWords c a }

def State.activeChims (s : State) : List Nat := (List.range 8).filter fun c => chimneyOn s.rdAt c

def State.announceAll (s : State) (a : Schedule) : State :=
  s.activeChims.foldl (fun s c => s.sendAnchor c a) s

/-- A future anchor is decided: announced at once, and three more times (R228). -/
def State.announce (s : State) (a : Schedule) : State :=
  let others := s.time.repeats.filter fun r => r.1 != a.k
  let s := s.setTime { s.time with announced := addSchedule a s.time.announced,
                                   repeats := others ++ [(a.k, 3, s.now + us 100)] }
  s.announceAll a

/-- A rate change armed for boundary k (R130, R227). -/
def State.announceRate (s : State) (k rate : Nat) : State :=
  match s.scheduleFor k with
  | some c => if c.rate = rate then s else s.announce { k := k, t := c.instant k, rate := rate }
  | none => s

/-- An armed rate change is discarded with its set. -/
def State.withdraw (s : State) (k : Nat) : State :=
  s.setTime { s.time with announced := s.time.announced.filter (fun c => c.k != k),
                          repeats := s.time.repeats.filter fun r => r.1 != k }

/-- The first instant origin + j n T at or after `b`, rounded down to 2^-18 ns. -/
def gridBy (rate n : Nat) (origin b : Int) : Int :=
  let n : Int := (period18 rate).1 * n
  let d : Int := (period18 rate).2
  let j := -(((origin - b) * d) / n)
  origin + j * n / d

/-- The first instant origin + j T at or after `b`. -/
def gridAfter (rate : Nat) (origin b : Int) : Int := gridBy rate 1 origin b

/-- A realignment is decided and announced: at target k, where schedule `c` stands, the anchor becomes (k, g). Changes announced for
later boundaries keep their rates, and their anchors follow the new schedule (log 74). -/
def State.placeAnchor (s : State) (k : Nat) (c : Schedule) (g : Int) : State :=
  let a : Schedule := { k := k, t := g, rate := c.rate }
  let later := s.time.announced.filter fun x => decide (k < x.k)
  (later.foldl (fun q x =>
    let x : Schedule := { x with t := q.2.instant x.k }
    (q.1.announce x, x)) (s.announce a, a)).1

/-- A realignment onto a grid of every n-th T, at the first boundary from WFC plus COMMIT_LEAD on whose frame it lengthens
by less than T (R227). -/
def State.realignBy (s : State) (n : Nat) (origin : Int) : State :=
  let k0 := s.nat Obj.WFC + s.nat Obj.COMMIT_LEAD
  let grid (k : Nat) (c : Schedule) : Int := gridBy c.rate n origin (c.instant k)
  let fits (k : Nat) : Bool := match s.scheduleFor k with
    | some c => decide (grid k c < c.instant (k + 1))
    | none => false
  let k := (((List.range n).map (k0 + ·)).find? fits).getD k0
  match s.scheduleFor k with
  | some c => s.placeAnchor k c (grid k c)
  | none => s

/-- A realignment at WFC plus COMMIT_LEAD onto the grid of T. -/
def State.realign (s : State) (origin : Int) : State :=
  let k := s.nat Obj.WFC + s.nat Obj.COMMIT_LEAD
  match s.scheduleFor k with
  | some c => s.placeAnchor k c (gridAfter c.rate origin (c.instant k))
  | none => s

def State.epochGrid (s : State) : Int := ns18 (s.nat Obj.TIME_FRAME_PHASE)

/-- TIME_REALIGN. -/
def State.timeRealign (s : State) : State × Nat × Bool :=
  if s.time.announced ≠ [] then (s, st.BUSY, false) else (s.realign s.epochGrid, st.OK, false)

/-- POWER_ON_ANCHOR (R227): 1 ms after the configuration is in force. -/
def powerOnAnchor (s : State) : State :=
  match s.sys.configAt with
  | some t0 =>
    if s.isSender ∧ s.time.sched.isNone ∧ t0 + ms 1 ≤ s.now then
      let w : Nat := s.clock.read (t0 + ms 1) / 2 ^ 28
      let a : Schedule := { k := 0, t := w, rate := s.rate }
      (s.setSchedule a).setTime { (s.setSchedule a).time with first := some (if w < s.wall18 then a.firstFrom 0 s.wall18
        fun b => decide ((s.wall18 : Int) ≤ b) else 0) }
    else s
  | none => s

def execPowerOnAnchor (t : Cyc) (s : State) : Host.Outcome State Fault Refusal := s.run t powerOnAnchor

/-- ANCHOR_INTERVAL: the schedule in force goes to a chimney, at most once in a frame (R183, R219). -/
def anchorInterval (c : Nat) (s : State) : State :=
  match s.time.sched with
  | some a =>
    let k := s.nat Obj.WFC + 1
    if s.isSender && chimneyOn s.rdAt c && look 0 c s.time.anchorSent != k then
      State.sendAnchor (s.setTime { s.time with anchorSent := put 0 c k s.time.anchorSent }) c a
    else s
  | none => s

def execAnchorInterval (t : Cyc) (chim : Nat) (s : State) : Host.Outcome State Fault Refusal :=
  s.run t (anchorInterval chim)

/-- ANCHOR_ANNOUNCE_REPEAT: every announced anchor whose next copy is due. -/
def anchorRepeat (s : State) : State :=
  if s.isSender then
    let x := s.time
    let due (r : Nat × Nat × Cyc) : Bool := decide (r.2.2 ≤ s.now)
    let next (r : Nat × Nat × Cyc) : Option (Nat × Nat × Cyc) :=
      if !due r then some r else if r.2.1 ≤ 1 then none else some (r.1, r.2.1 - 1, r.2.2 + us 100)
    let go := x.announced.filter fun a => x.repeats.any fun r => due r && r.1 == a.k
    go.foldl (fun s a => s.announceAll a) (s.setTime { x with repeats := x.repeats.filterMap next })
  else s

def execAnchorAnnounceRepeat (t : Cyc) (s : State) : Host.Outcome State Fault Refusal := s.run t anchorRepeat

/-! ### SYNC and DELAY_RESP at the sender (R219, R221) -/

/-- 2^log seconds in cycles, for a log2 of -30 to 10. -/
def logSeconds (log : Int) : Cyc := seconds 1 * 2 ^ (log + 32).toNat / 2 ^ 32

/-- SYNC_INTERVAL: a port sends SYNC every 2^TIME_SYNC_LOG s. The copies of one interval carry one SEQ: the next SEQ is taken once
the port has sent the last (R219, R224). -/
def syncInterval (p : Nat) (s : State) : State :=
  match s.isSender, s.chimneyOf p with
  | true, some _ =>
    let due := match s.time.syncAt.find? fun q => q.1 == p with
      | some (_, t0) => decide (t0 + logSeconds (s.rd Obj.TIME_SYNC_LOG) ≤ s.now)
      | none => true
    if due then
      let x := s.time
      let again := x.syncPorts.contains p
      let n := if again then (x.syncSeq + 1) % 65536 else x.syncSeq
      let s := s.setTime { x with syncAt := put 0 p s.now x.syncAt, syncSeq := n,
                                  syncPorts := if again then [p] else p :: x.syncPorts }
      s.enqueue p { cls := 7, blocks := 4, dst := 0xFF, at_ := s.now, typ := 0x30, words := [1, 0, n, 0] }
    else s
  | _, _ => s

def execSyncInterval (t : Cyc) (port : Nat) (s : State) : Host.Outcome State Fault Refusal :=
  s.run t (syncInterval port)

/-- DELAY_REQ at the sender: DELAY_RESP with the receipt stamp and CORR with the port's half asymmetry (R219, R221). -/
def delayReqEffect (p : Nat) (k : TimePkt) (s : State) : State :=
  match s.isSender, s.chimneyOf p with
  | true, some _ =>
    let t4 := (timeBlocks s.stamp.toNat).map Int.ofNat
    s.used.enqueue p { cls := 7, blocks := 4, dst := k.src, at_ := s.now, typ := 0x30, path := some k.pathB,
                       words := [3, (k.hops : Int), (k.seq : Int), (s.nat Obj.TIME_STEPS : Int)] ++ t4 ++ [k.corr + s.asymHalf p] }
  | _, _ => s

def execDelayReq (t : Cyc) (port : Nat) (p : TimePkt) (s : State) : Host.Outcome State Fault Refusal :=
  s.run t (delayReqEffect port p)

/-! ### The sender's time states (R215, R218) -/

/-- A time state is entered (Table 9-1). Holdover keeps the frequency estimate and raises time-source-lost. -/
def State.senderTo (s : State) (st : Nat) : State :=
  let was := s.nat Obj.TIME_STATE
  let s := s.wr Obj.TIME_STATE st
  let s := s.setTime { s.time with good := 0, placed := if st = 1 then false else s.time.placed,
                                   mayStep := st == 1 && was == 0 && s.nat Obj.TIME_SOURCE == 1 }
  let s := if st = 3 then (s.setRate s.time.estimate).raiseHeld 0x20 0 0 else s.hold 0x20 0 false
  if st = 2 ∧ was = 1 ∧ s.flag Obj.TIME_EPOCH_ALIGN = true then s.realign s.epochGrid else s

/-- The source is lost. -/
def State.loseSource (s : State) : State := if s.nat Obj.TIME_STATE = 2 then s.senderTo 3 else s

/-- The servo's answer to an offset (2^-18 ns): gains are not given (free, log 20); ADDEND stays within TIME_SLEW_PPM of
the estimate and ±250 ppm of nominal. -/
def State.servo (s : State) (offset : Int) (slew : Nat) : State :=
  let est := clampRate nominalRate 250 (Config.servoRate s.time.estimate (offset * 2 ^ 28) s.free)
  let rate := clampRate nominalRate 250 (clampRate est slew (Config.servoRate s.clock.rate (offset * 2 ^ 28) (s.free + 1)))
  let s := (s.setTime { s.time with estimate := est }).used.used
  s.setRate rate

/-- TIME_OFFSET after a measurement (the filter is not given: free, log 20). -/
def State.filterTo (s : State) (offset : Int) : State :=
  let f := Config.filterOffset s.time.filtered offset s.free
  ((s.setTime { s.time with filtered := f }).used).wrIn Obj.TIME_OFFSET 0 0 (roundAway f 262144)

/-- A measurement of the selected source. -/
def State.measure (s : State) (offset : Int) : State :=
  let st := s.nat Obj.TIME_STATE
  let s := if st = 0 ∨ st = 3 then s.senderTo 1 else s
  let s := s.filterTo offset
  if s.nat Obj.TIME_STATE = 1 ∧ s.time.mayStep ∧ ns18 (s.nat Obj.TIME_STEP_THRESH) < offset.natAbs then
    s.setTime { s.time with mayStep := false, good := 0, steps18 := s.time.steps18 ++ [(-offset, s.now + ms 1, none)] }
  else
    let s := s.servo offset (s.nat Obj.TIME_SLEW_PPM)
    let good := if offset.natAbs ≤ ns18 100 then s.time.good + 1 else 0
    let s := s.setTime { s.time with good := good }
    if s.nat Obj.TIME_STATE = 1 ∧ 16 ≤ good then s.senderTo 2 else s

/-- TIME_STEP: refused with BUSY under source 1; otherwise at the first boundary at least 1 ms on, which the reply
waits for (R55). -/
def State.timeStep (s : State) (slot : Nat) (delta : Int) : State × Nat × Bool :=
  if s.nat Obj.TIME_SOURCE = 1 then (s, st.BUSY, false)
  else (s.setTime { s.time with steps18 := s.time.steps18 ++ [(ns18 delta, s.now + ms 1, some slot)] }, st.OK, true)

/-- TIME_PTP_RESTEP in state 2 or 3 under PTP: a step by the filtered offset. In other states the manual gives no status;
the refusal's status is free (log 23). -/
def State.ptpRestep (s : State) : State × Nat × Bool :=
  let ts := s.nat Obj.TIME_STATE
  if s.nat Obj.TIME_SOURCE = 1 ∧ (ts = 2 ∨ ts = 3) then
    (s.setTime { s.time with steps18 := s.time.steps18 ++ [(-s.time.filtered, s.now + ms 1, none)] }, st.OK, false)
  else (s.used, s.freeRefusal.1, false)

/-- After a step of wall time the time pulse outputs look for their edges from the new time on. A once pulse that the step passes
over does not come: the manual states none (log 149). -/
def State.tpoStepped (s : State) : State :=
  s.setTime { s.time with tpo := s.time.tpo.map fun q => (q.1, { q.2 with after := s.wall18 }) }

/-- One step of the clock: clock, anchors and the last FREF edge move together (R218). -/
def State.stepBy (s : State) (d : Int) : State :=
  let move (c : Schedule) : Schedule := { c with t := c.t + d }
  let s := (s.stepClock d).raise 0x23 0 0
  let s := State.tpoStepped (s.setTime { s.time with announced := s.time.announced.map move, edgeAt := s.time.edgeAt.map (· + d) })
  match s.time.sched with
  | some c => s.setSchedule (move c)
  | none => s

/-- CLOCK_STEP at a boundary (R218): the steps decided at least 1 ms ago take place, and their replies go (R55). -/
def State.clockStep (s : State) : State :=
  let due (q : Int × Cyc × Option Nat) : Bool := decide (q.2.1 ≤ s.now)
  let l := s.time.steps18.filter due
  let s := s.setTime { s.time with steps18 := s.time.steps18.filter fun q => !due q }
  (l.filterMap fun q => q.2.2).foldl State.finish (l.foldl (fun s q => s.stepBy q.1) s)

/-! ### PTP (R216) -/

/-- The order of the best master clock algorithm (IEEE 1588-2019, log 17). -/
def PtpRank (a : PtpAnnounce) : List Nat :=
  [a.priority1, a.clockClass, a.accuracy, a.variance, a.priority2, a.master, a.stepsRemoved]

def lexLess : List Nat → List Nat → Bool
  | a :: as, b :: bs => decide (a < b) || (a == b && lexLess as bs)
  | _, _ => false

def bestMaster : List Foreign → Option Foreign
  | [] => none
  | f :: fs => match bestMaster fs with
    | none => some f
    | some g => if lexLess (PtpRank g.ann) (PtpRank f.ann) then some g else some f

def State.setPtp (s : State) (p : Ptp) : State := s.setTime { s.time with ptp := p }

def State.usesPtp (s : State) (domain : Nat) : Bool :=
  s.isSender && s.nat Obj.TIME_SOURCE == 1 && domain == s.nat Obj.PTP_DOMAIN

/-- The selected master follows the data sets; a change raises ptp-master-change and enters state 1. -/
def State.selectMaster (s : State) : State :=
  let p := s.time.ptp
  let best := (bestMaster p.masters).map (·.ann)
  let id := best.map (·.master)
  let s := match best with
    | some a => s.wrIn Obj.TIME_UTC_OFFSET 0 0 a.utcOffset
    | none => s
  if id = p.selected then s
  else
    let s := (s.setPtp { p with selected := id, meanDelay := none, forth := none, twoStep := none, req := none,
                                syncAt := none }).wr Obj.PTP_MASTER (id.getD 0)
    match p.selected, id with
    | some _, some _ => (s.raise 0x21 0 0).senderTo 1 |> fun s => s.setTime { s.time with mayStep := false }
    | _, _ => s

def ptpAnnounce (a : PtpAnnounce) (s : State) : State :=
  if s.usesPtp a.domain then
    let p := s.time.ptp
    let others := p.masters.filter fun f => f.ann.master != a.master
    if others.length = p.masters.length ∧ 8 ≤ others.length then s
    else (s.setPtp { p with masters := others ++ [⟨a, s.now⟩] }).selectMaster
  else s

def execPtpAnnounce (t : Cyc) (p : PtpAnnounce) (s : State) : Host.Outcome State Fault Refusal :=
  s.run t (ptpAnnounce p)

/-- PTP_ANNOUNCE_TIMEOUT: three Announce intervals of a master without one; the source is lost when it was the
selected one. -/
def ptpAnnounceTimeout (s : State) : State :=
  let p := s.time.ptp
  let late (f : Foreign) : Bool := decide (f.at_ + 3 * logSeconds f.ann.logInterval ≤ s.now)
  if s.isSender && p.masters.any late then
    let lost := p.masters.any fun f => late f && some f.ann.master == p.selected
    let s := s.setPtp { p with masters := p.masters.filter fun f => !late f }
    (if lost then s.loseSource else s).selectMaster
  else s

def execPtpAnnounceTimeout (t : Cyc) (s : State) : Host.Outcome State Fault Refusal := s.run t ptpAnnounceTimeout

/-- PTP_SYNC_TIMEOUT: four Sync intervals without a Sync. -/
def ptpSyncTimeout (s : State) : State :=
  let p := s.time.ptp
  match p.syncAt with
  | some t0 =>
    if s.isSender ∧ t0 + 4 * logSeconds p.syncLog ≤ s.now then (s.setPtp { p with syncAt := none }).loseSource else s
  | none => s

def execPtpSyncTimeout (t : Cyc) (s : State) : Host.Outcome State Fault Refusal := s.run t ptpSyncTimeout

/-- A Sync's t2 - t1 - correction, measured against the mean delay once that is known. -/
def State.ptpForth (s : State) (d : Int) : State :=
  let s := s.setPtp { s.time.ptp with forth := some d }
  match s.time.ptp.meanDelay with
  | some m => s.measure (d - m)
  | none => s

/-- Ingress and egress stamps on MGMT (R214): picoseconds of PHY latency in 2^-18 ns. -/
def ps18 (p : Nat) : Int := roundAway (p * 262144 : Nat) 1000
def State.ptpIn (s : State) : Int := s.stamp - ps18 (s.nat Obj.PTP_PHY_RX)
def State.ptpOut (s : State) : Int := s.stamp + ps18 (s.nat Obj.PTP_PHY_TX)

def ptpSync (k : PtpSync) (s : State) : State :=
  if s.usesPtp k.domain ∧ s.time.ptp.selected = some k.master then
    let p := s.time.ptp
    let s := s.setPtp { p with syncAt := some s.now, syncLog := k.logInterval }
    if k.twoStep then (s.setPtp { s.time.ptp with twoStep := some (k.seq, s.ptpIn.toNat, k.corr) }).used
    else s.used.ptpForth (s.ptpIn - k.stamp - 4 * k.corr)
  else s

def execPtpSync (t : Cyc) (p : PtpSync) (s : State) : Host.Outcome State Fault Refusal := s.run t (ptpSync p)

def ptpFollowUp (k : PtpSync) (s : State) : State :=
  match s.time.ptp.twoStep with
  | some (seq, t2, corr) =>
    if s.usesPtp k.domain ∧ s.time.ptp.selected = some k.master ∧ seq = k.seq then
      (s.setPtp { s.time.ptp with twoStep := none }).ptpForth ((t2 : Int) - k.stamp - 4 * (corr + k.corr))
    else s
  | none => s

def execPtpFollowUp (t : Cyc) (p : PtpSync) (s : State) : Host.Outcome State Fault Refusal := s.run t (ptpFollowUp p)

def ptpDelayResp (k : PtpSync) (s : State) : State :=
  match s.time.ptp.req, s.time.ptp.forth with
  | some (seq, t3), some d =>
    if s.usesPtp k.domain ∧ s.time.ptp.selected = some k.master ∧ seq = k.seq then
      let m := (d + ((k.stamp : Int) - t3 - 4 * k.corr)) / 2
      (s.setPtp { s.time.ptp with req := none, meanDelay := some m, masterLog := k.logInterval }).wrIn
        Obj.PTP_MEAN_DELAY 0 0 (roundAway m 262144)
    else s
  | _, _ => s

def execPtpDelayResp (t : Cyc) (p : PtpSync) (s : State) : Host.Outcome State Fault Refusal := s.run t (ptpDelayResp p)

/-- PTP_DELAY_REQ_INTERVAL: the larger of PTP_LOG_DELAY_REQ and the master's interval; unicast goes to the selected master. -/
def ptpDelayReqInterval (s : State) : State :=
  let p := s.time.ptp
  let due := match p.reqAt with
    | some t0 => decide (t0 + logSeconds (max (s.rd Obj.PTP_LOG_DELAY_REQ) p.masterLog) ≤ s.now)
    | none => true
  if s.isSender ∧ s.nat Obj.TIME_SOURCE = 1 ∧ p.selected.isSome ∧ due = true then
    let n := (p.seq + 1) % 65536
    let target : List Int := if s.nat Obj.PTP_DELAY_MODE = 1 then [((p.selected.getD 0 : Nat) : Int)] else []
    (s.setPtp { p with seq := n, req := some (n, s.ptpOut.toNat), reqAt := some s.now }).used.send
      (.ptp 1 ([(n : Int), (s.nat Obj.PTP_DOMAIN : Int), (s.nat Obj.PTP_DELAY_MODE : Int), (s.nat Obj.PTP_TRANSPORT : Int)] ++ target))
  else s

def execPtpDelayReqInterval (t : Cyc) (s : State) : Host.Outcome State Fault Refusal := s.run t ptpDelayReqInterval

/-! ### FREF (R217) -/

/-- The distance of an instant from the nearest boundary k with (k - K) mod FREF_DIV = 0. -/
def Schedule.frefError (c : Schedule) (div : Nat) (x : Int) : Int :=
  let n : Int := (period18 c.rate).1 * div
  let d : Int := (period18 c.rate).2
  let y := (x - c.t) * d
  ((y + n / 2).emod n - n / 2) / d

def frefEdge (falling : Bool) (s : State) : State :=
  if !s.isSender || s.nat Obj.TIME_SOURCE != 2 || falling != (s.nat Obj.FREF_EDGE == 1) then s
  else
    let w := s.wall18
    let near := match s.time.edgeAt with
      | some e => decide ((w : Int) - e < ns18 10)
      | none => false
    if near then s
    else
      let x : Int := w + ns18 (s.rd Obj.FREF_DELAY)
      let st := s.nat Obj.TIME_STATE
      match s.time.sched with
      | none => s.setTime { s.time with edgeAt := some w, missed := 0 }
      | some c =>
        let e := c.frefError (s.nat Obj.FREF_DIV) x
        let s := s.wrIn Obj.FREF_ERROR 0 0 (roundAway e 262144)
        if st = 2 ∧ ns18 1000 < e.natAbs then
          let s := (s.setTime { s.time with missed := s.time.missed + 1 }).raise 0x22 0 0
          if 4 ≤ s.time.missed then s.loseSource else s
        else
          let s := s.setTime { s.time with edgeAt := some w, missed := 0 }
          let s := if st = 0 ∨ st = 3 then s.senderTo 1 else s
          if s.nat Obj.TIME_STATE = 1 ∧ ¬ s.time.placed then
            (s.setTime { s.time with placed := true }).realignBy (max 1 (s.nat Obj.FREF_DIV)) x
          else s.measure e

def execFrefEdge (t : Cyc) (falling : Bool) (s : State) : Host.Outcome State Fault Refusal :=
  s.run t (frefEdge falling)

/-- FREF_EDGE_MISSING: an expected edge has not come within 1 us of its instant. -/
def frefEdgeMissing (s : State) : State :=
  match s.time.edgeAt, s.time.sched with
  | some e, some c =>
    let n := (period18 c.rate).1 * s.nat Obj.FREF_DIV * (s.time.missed + 1) / (period18 c.rate).2
    if s.isSender ∧ s.nat Obj.TIME_SOURCE = 2 ∧ (e : Int) + n + ns18 1000 ≤ s.wall18 then
      let s := s.setTime { s.time with missed := s.time.missed + 1 }
      if 4 ≤ s.time.missed then s.loseSource else s
    else s
  | _, _ => s

def execFrefEdgeMissing (t : Cyc) (s : State) : Host.Outcome State Fault Refusal := s.run t frefEdgeMissing

/-! ### The tile's time states (R223 to R225) -/

/-- D_P in 2^-18 ns, times 2 n and its n, over the pairs held. -/
def TimePath.delay (x : TimePath) : Int := roundAway (sumInt x.sums) (2 * max 1 x.sums.length)

def State.frameLocked (s : State) : Bool :=
  s.nat Obj.TIME_STATE == 3 || (s.nat Obj.TIME_STATE == 4 && s.time.left == 3)

/-- A time state is entered (Table 9-5), with the faults of leaving lock; `quiet` marks a rate change. -/
def State.tileTo (s : State) (st : Nat) (quiet : Bool) : State :=
  let was := s.nat Obj.TIME_STATE
  if was = st then s
  else
    let locked := s.frameLocked
    let s := s.wr Obj.TIME_STATE st
    let s := s.setTime { s.time with good := 0, far := 0, phaseGood := 0, phaseFar := 0,
                                     stepped := if st = 1 then false else s.time.stepped,
                                     left := if st = 4 then was else s.time.left,
                                     holdAt := if st = 4 then s.now else s.time.holdAt }
    let s := if st = 1 ∧ 2 ≤ was then s.raise 0x24 0 0 else s
    if locked && decide (st = 1 ∨ st = 2) && !quiet then s.raise 0x25 0 0 else s

/-- A tile's wall time steps by -theta. -/
def State.tileStep (s : State) (theta : Int) : State :=
  let s := (s.stepClock (-theta)).tpoStepped
  s.setTime { s.time with reqs := [], a := { s.time.a with a := none, theta := none },
                          b := { s.time.b with a := none, theta := none } }

/-- An offset of the time path reaches the servo and the states of Table 9-5. -/
def State.tileMeasure (s : State) (theta : Int) : State :=
  let s := s.filterTo theta
  let st := s.nat Obj.TIME_STATE
  let s := if st = 0 then s.tileTo 1 false
    else if st = 4 then s.tileTo (if theta.natAbs ≤ ns18 20 then s.time.left else 1) false else s
  if s.nat Obj.TIME_STATE = 1 then
    if !s.time.stepped && decide (ns18 (s.nat Obj.TIME_STEP_THRESH) < theta.natAbs) then
      (s.setTime { s.time with stepped := true, good := 0 }).tileStep theta
    else
      let s := s.servo theta 250
      let good := if theta.natAbs ≤ ns18 2 then s.time.good + 1 else 0
      let s := s.setTime { s.time with good := good }
      if 16 ≤ good then s.tileTo 2 false else s
  else
    let s := s.servo theta 250
    let far := if ns18 20 < theta.natAbs then s.time.far + 1 else 0
    let s := s.setTime { s.time with far := far }
    if 4 ≤ far then s.tileTo 1 false else s

/-- TIME_PATH_DIFF after a SYNC for which both fit paths have an offset (R224). -/
def State.pathDiff (s : State) : State :=
  match s.time.a.theta, s.time.b.theta with
  | some (i, x), some (j, y) =>
    if i = j ∧ s.time.a.fit ∧ s.time.b.fit ∧ s.time.lastDiff ≠ some i then
      let s := s.setTime { s.time with diffs := ((x - y) :: s.time.diffs).take 16, lastDiff := some i }
      let mean := roundAway (sumInt s.time.diffs * 1000) (s.time.diffs.length * 262144)
      let bad := decide (s.nat Obj.TIME_PATH_DIFF_MAX < mean.natAbs)
      let was := s.flt.conds.contains (0x27 * 65536)
      let s := s.wrIn Obj.TIME_PATH_DIFF 0 0 mean
      (if bad && !was then s.raise 0x27 0 0 else s).hold 0x27 0 bad
    else s
  | _, _ => s

/-- SYNC at a tile. -/
def syncEffect (p : Nat) (k : TimePkt) (s : State) : State :=
  match s.isTile, s.pathOf p with
  | true, some pathB =>
    if s.nat Obj.TILE_ADDRESS = 0 then s
    else
      let s := s.freeEntry k.pathB 7
      let corr := 4 * (k.corr + s.asymHalf p)
      let a : Int := s.stamp - k.stamp - corr
      let s := s.used
      let gap := match (s.timePath pathB).last with
        | some (n, t0) => if n = k.seq then s.time.gap else (s.now - t0) / ((k.seq + 65536 - n) % 65536)
        | none => s.time.gap
      let s := s.setTimePath pathB { s.timePath pathB with a := some a, syncHops := k.hops, last := some (k.seq, s.now) }
      let s := (s.evalFit (!pathB)).evalFit pathB
      let x := s.timePath pathB
      if !x.fit then (s.bump Obj.TIME_PATH_UNFIT).raise 0x26 (if pathB then 1 else 0) 0
      else
        let s := s.setTime { s.time with fitSync := some s.now, gap := gap }
        if x.sums.isEmpty then s
        else
          let theta := a - x.delay
          let s := (s.setTimePath pathB { x with theta := some (k.seq, theta) }).pathDiff
          if s.nat Obj.TIME_PATH ≠ (if pathB then 1 else 0) then s
          else
            let jump := match s.time.steps with | some n => n != k.steps | none => false
            let s := s.setTime { s.time with steps := some k.steps }
            if jump then
              let s := s.setTime { s.time with good := if theta.natAbs ≤ ns18 2 then s.time.good + 1 else 0,
                                               far := if ns18 20 < theta.natAbs then s.time.far + 1 else 0 }
              (s.tileStep theta).raise 0x23 0 0
            else s.tileMeasure theta
  | _, _ => s

def execSync (t : Cyc) (port : Nat) (p : TimePkt) (s : State) : Host.Outcome State Fault Refusal :=
  s.run t (syncEffect port p)

/-- DELAY_RESP at a tile: one pair (A + B) with the latest SYNC of the path (log 21). -/
def delayRespEffect (p : Nat) (k : TimePkt) (s : State) : State :=
  match s.isTile, s.pathOf p with
  | true, some pathB =>
    let s := if s.nat Obj.TILE_ADDRESS = 0 then s else s.freeEntry k.pathB 7
    match s.time.reqs.find? fun q => q.1 == p && q.2.1 == k.seq with
    | none => s
    | some q =>
      let s := s.setTime { s.time with reqs := s.time.reqs.filter fun r => r != q }
      let b : Int := (k.stamp : Int) - q.2.2 - 4 * k.corr
      let x := s.timePath pathB
      let sums := match x.a with | some a => ((a + b) :: x.sums).take 16 | none => x.sums
      let s := (s.setTimePath pathB { x with respHops := some k.hops, sums := sums }).evalFit (!pathB)
      let s := s.evalFit pathB
      let d := (s.timePath pathB).delay
      s.wrIn (if pathB then Obj.TIME_DELAY_B else Obj.TIME_DELAY_A) 0 0 (roundAway (d * 1000) 262144)
  | _, _ => s

def execDelayResp (t : Cyc) (port : Nat) (p : TimePkt) (s : State) : Host.Outcome State Fault Refusal :=
  s.run t (delayRespEffect port p)

/-- DELAY_REQ_INTERVAL at a tile with an address (R220): a request waits on both ports; its stamps are taken as it leaves. -/
def delayReqInterval (s : State) : State :=
  let due := match s.time.reqAt with
    | some t0 => decide (t0 + logSeconds (s.rd Obj.TIME_DELAY_LOG) ≤ s.now)
    | none => true
  if s.isTile ∧ s.nat Obj.TILE_ADDRESS ≠ 0 ∧ due = true then
    let n := (s.time.reqSeq + 1) % 65536
    let s := s.setTime { s.time with reqSeq := n, reqAt := some s.now }
    s.ownPacket 7 2 0x30 [2, 0, n, 0, 0]
  else s

def execDelayReqInterval (t : Cyc) (s : State) : Host.Outcome State Fault Refusal := s.run t delayReqInterval

/-- TILE_SYNC_TIMEOUT: no SYNC from a fit path for four intervals, as the last two SYNCs of one path showed them (log 19). -/
def tileSyncTimeout (s : State) : State :=
  let st := s.nat Obj.TIME_STATE
  match s.time.fitSync with
  | some t0 =>
    if s.isTile ∧ (st = 2 ∨ st = 3) ∧ 0 < s.time.gap ∧ t0 + 4 * s.time.gap ≤ s.now then s.tileTo 4 false else s
  | none => s

def execTileSyncTimeout (t : Cyc) (s : State) : Host.Outcome State Fault Refusal := s.run t tileSyncTimeout

def holdoverMaxExpiry (s : State) : State :=
  if s.isTile ∧ s.nat Obj.TIME_STATE = 4 ∧ s.time.holdAt + seconds (s.nat Obj.TIME_HOLDOVER_MAX) ≤ s.now then
    s.tileTo 1 false else s

def execHoldoverMaxExpiry (t : Cyc) (s : State) : Host.Outcome State Fault Refusal := s.run t holdoverMaxExpiry

/-- The scan-phase error of a pass start, in ps (R225, R230). -/
def State.scanPhase (s : State) (err : Int) : State :=
  let s := s.wrIn Obj.TIME_SCAN_ERR 0 0 err
  let near := if err.natAbs ≤ 2000 then s.time.phaseGood + 1 else 0
  let far := if 5000 < err.natAbs then s.time.phaseFar + 1 else 0
  let s := s.setTime { s.time with phaseGood := near, phaseFar := far }
  let st := s.nat Obj.TIME_STATE
  if st = 2 ∧ s.time.byAnchor ∧ 256 ≤ near then s.tileTo 3 false
  else if st = 3 ∧ 4 ≤ far then s.tileTo 2 false else s

/-! ### ANCHOR at a tile (R226, R228) -/

def anchorEffect (p : Nat) (a : AnchorPkt) (s : State) : State :=
  match s.isTile, s.pathOf p with
  | true, some pathB =>
    if s.nat Obj.TILE_ADDRESS = 0 then s
    else
      let s := (s.freeEntry pathB 7).setTime { (s.freeEntry pathB 7).time with chimN := a.chimN }
      let c : Schedule := { k := a.k, t := a.time, rate := a.rate }
      match s.time.sched with
      | none => (s.firstSchedule c).setTime { (s.firstSchedule c).time with byAnchor := true }
      | some c0 =>
        let next := s.time.first.getD (s.nat Obj.WFC + 1)
        if s.nat Obj.WFC < a.k then s.setTime { s.time with announced := addSchedule c s.time.announced }
        else if c0.rate = c.rate ∧ c0.instant next = c.instant next then s.setTime { s.time with byAnchor := true }
        else s.setTime { s.time with replace := some c }
  | _, _ => s

def execAnchor (t : Cyc) (port : Nat) (a : AnchorPkt) (s : State) : Host.Outcome State Fault Refusal :=
  s.run t (anchorEffect port a)

/-- The schedule's part of a boundary at which WFC becomes k: announced changes take force; a tile leaves frame lock at
a rate change. -/
def State.adoptAt (s : State) (k : Nat) : State :=
  match (s.time.announced.filter fun c => decide (c.k ≤ k)).getLast? with
  | none => s
  | some c =>
    let rateChange := match s.time.sched with | some c0 => c0.rate != c.rate | none => false
    let s := (s.setSchedule c).setTime { (s.setSchedule c).time with
      announced := s.time.announced.filter (fun x => decide (k < x.k)), byAnchor := true }
    if s.isTile && rateChange && s.nat Obj.TIME_STATE == 3 then s.tileTo 2 true else s

/-- A committed WALL_RATE that the schedule does not have yet: the anchor is (k, B_old(k)) (R130, R228). -/
def State.rateApplied (s : State) (k : Nat) : State :=
  match s.time.sched with
  | some c =>
    if c.rate = s.rate then s
    else
      let c' : Schedule := { k := k, t := c.instant k, rate := s.rate }
      let s := (s.setSchedule c').setTime { (s.setSchedule c').time with byAnchor := false }
      if s.isTile && s.nat Obj.TIME_STATE == 3 then s.tileTo 2 true else s
  | none => s

/-- Masters of another domain than PTP_DOMAIN are ranked no more; the source is lost with the selected one (R216). -/
def State.domainApplied (s : State) : State :=
  let p := s.time.ptp
  let mine (f : Foreign) : Bool := f.ann.domain == s.nat Obj.PTP_DOMAIN
  if p.masters.all mine then s
  else
    let lost := p.masters.any fun f => !mine f && some f.ann.master == p.selected
    let s := s.setPtp { p with masters := p.masters.filter mine }
    (if lost then s.loseSource else s).selectMaster

/-- What applied sets do to time: a change of TIME_SOURCE (Table 9-1) or of PTP_DOMAIN; the first configuration leaves state 0 to
the first measurement. -/
def State.timeApplied (s old : State) : State :=
  if s.isSender ∧ old.sys.configAt.isSome ∧ old.nat Obj.TIME_SOURCE ≠ s.nat Obj.TIME_SOURCE then
    let s := s.setTime { s.time with ptp := {}, edgeAt := none, missed := 0 }
    s.senderTo (if s.nat Obj.TIME_SOURCE = 0 then 0 else 1)
  else if s.isSender then s.domainApplied
  else s

/-! ### Time pulse outputs (R232) -/

def State.tpo (s : State) (n : Nat) : Tpo := look {} n s.time.tpo
def State.setTpo (s : State) (n : Nat) (x : Tpo) : State := s.setTime { s.time with tpo := put {} n x s.time.tpo }

/-- The first leading edge after an instant (Table 9-7). -/
def State.nextEdge (s : State) (x : Tpo) : Option Int :=
  match x.mode with
  | 1 => if x.after < x.start then some x.start else none
  | 2 =>
    if x.period = 0 then none
    else if x.after < x.start then some x.start
    else some (x.start + ((x.after - x.start) / x.period + 1) * x.period : Nat)
  | 3 =>
    match s.time.sched with
    | none => none
    | some c =>
      let off : Int := ns18 (s.nat Obj.TIME_SCAN_OFFSET) + ns18 x.offset
      let d := max 1 x.div
      let k := c.firstFrom c.k ((x.after : Int) - off) fun b => decide ((x.after : Int) < b + off)
      let k := ceilDiv k d * d
      some (c.instant k + off)
  | _ => none

/-- The TPO settings take effect at the end of the current pulse. -/
def State.tpoTake (s : State) (n : Nat) : State :=
  let x : Tpo :=
    { mode := s.natAt Obj.TPO_MODE n 0, start := ofTime96 (s.natAt Obj.TPO_START n 0),
      period := s.natAt Obj.TPO_PERIOD n 0, width := s.natAt Obj.TPO_WIDTH n 0, div := s.natAt Obj.TPO_FRAME_DIV n 0,
      offset := s.rdAt Obj.TPO_OFFSET n 0, falling := s.flagAt Obj.TPO_POLARITY n 0, after := s.wall18 }
  let s := (s.setTpo n x).send (.pin (.tpo n) (if x.falling then 1 else 0))
  if x.mode = 1 ∧ (x.start : Int) < s.wall18 + ns18 1000 then
    ((s.setTpo n { x with mode := 0 }).wrAt Obj.TPO_STATE n 0 3).raise 0x28 n 0
  else s.wrAt Obj.TPO_STATE n 0 (if x.mode = 0 then 0 else 1)

def State.tpoApply (s : State) (n : Nat) : State :=
  let x := s.tpo n
  if x.pulse.isSome then s.setTpo n { x with waiting := true } else s.tpoTake n

/-- TPO_EDGE: a leading edge comes due. -/
def tpoEdge (n : Nat) (s : State) : State :=
  let x := s.tpo n
  match s.nextEdge x with
  | some e =>
    if e ≤ s.wall18 ∧ x.pulse.isNone then
      let s := s.setTpo n { x with after := e.toNat, pulse := some (s.now + ceilDiv (x.width * 3) 2) }
      (s.wrAt Obj.TPO_STATE n 0 2).send (.pin (.tpo n) (if x.falling then 0 else 1))
    else s
  | none => s

def execTpoEdge (t : Cyc) (n : Nat) (s : State) : Host.Outcome State Fault Refusal := s.run t (tpoEdge n)

/-- TPO_PULSE_END: the pulse is over; a waiting change takes effect; a once pulse leaves the output idle. -/
def tpoPulseEnd (n : Nat) (s : State) : State :=
  let x := s.tpo n
  match x.pulse with
  | some t0 =>
    if t0 ≤ s.now then
      let s := (s.setTpo n { x with pulse := none }).send (.pin (.tpo n) (if x.falling then 1 else 0))
      if x.waiting then s.tpoTake n
      else if x.mode = 1 then (s.setTpo n {}).wrAt Obj.TPO_STATE n 0 0
      else s
    else s
  | none => s

def execTpoPulseEnd (t : Cyc) (n : Nat) (s : State) : Host.Outcome State Fault Refusal := s.run t (tpoPulseEnd n)

end Sys2Proof.Machine
end

