-- ==== Sys2Proof/Machine/Lamp.lean ====
section
/-! DEFINITION. Per-lamp correction (chapter 10): from a settled frame to drive codes, with the working sets, the power
scale and the drive deadline. -/

namespace Sys2Proof.Machine

def State.setLampSt (s : State) (x : LampSt) : State := { s with lamp := x }
def State.setMods (s : State) (x : Mods) : State := { s with mods := x }
def State.module (s : State) (m : Nat) : Module := look {} m s.mods.mods
def State.setModule (s : State) (m : Nat) (x : Module) : State :=
  s.setMods { s.mods with mods := put {} m x s.mods.mods }
def State.setPower (s : State) (x : Power) : State := { s with power := x }
def State.zone (s : State) (z : Nat) : Zone := look {} z s.power.zones
def State.setZone (s : State) (z : Nat) (x : Zone) : State :=
  s.setPower { s.power with zones := put {} z x s.power.zones }

/-- The key of lamp j of pixel (x, y). -/
def lampKey (x y j : Nat) : Nat := (y * 512 + x) * 4 + j
def State.lampOf (s : State) (k : Nat) : Lamp := look {} k s.lamp.lamps
def State.setLamp (s : State) (k : Nat) (x : Lamp) : State :=
  s.setLampSt { s.lamp with lamps := put {} k x s.lamp.lamps }

/-- A view of a latched configuration. -/
def confView (conf : List (Nat × Int)) : View := fun r i j => look (r.default j) (r.key i j) conf
def vNat (v : View) (r : ObjRow) (i j : Nat) : Nat := (v r i j).toNat

/-! ### The lamp map (R284) -/

def strandOn (v : View) (n : Nat) : Bool := bit (vNat v Obj.STR_MAP 0 n) 7
def enabledStrands (v : View) : List Nat := (List.range 256).filter (strandOn v)
def strandProfile (v : View) (n : Nat) : Nat := bits (vNat v Obj.STR_MAP 0 n) 11 8
/-- C and BW of a strand. -/
def strandC (v : View) (n : Nat) : Nat := sumNat (profileChannels v (strandProfile v n))
def strandBw (v : View) (n : Nat) : Nat := strandC v n / max 1 (vNat v Obj.TILE_LAMPS 0 0)
def strandX0 (v : View) (n : Nat) : Nat := bits (vNat v Obj.STR_MAP 0 n) 31 23
def strandY0 (v : View) (n : Nat) : Nat := bits (vNat v Obj.STR_MAP 0 n) 22 14

/-- The strand that drives a pixel. -/
def strandAt (v : View) (x y : Nat) : Option Nat :=
  (enabledStrands v).find? fun n =>
    decide (strandX0 v n ≤ x) && decide (x < strandX0 v n + strandBw v n) && decide (strandY0 v n ≤ y) &&
      decide (y < strandY0 v n + scanRows (viewScan v))

/-- The lamp (x, y, j) of global channel g, row r of strand n. -/
def lampAt (v : View) (n g r : Nat) : Nat × Nat × Nat :=
  let l := max 1 (vNat v Obj.TILE_LAMPS 0 0)
  let e := vNat v Obj.STR_MAP 0 n
  let col := if bit e 13 then strandBw v n - 1 - g / l else g / l
  let row := if bit e 12 then scanRows (viewScan v) - 1 - r else r
  let p := g % l
  (strandX0 v n + col, strandY0 v n + row,
   bits (vNat v Obj.STR_PROF_ORDER (strandProfile v n) 0) (7 - 2 * p) (6 - 2 * p))

/-- The zone of a pixel: that of its strand (R320); none where no strand drives it. -/
def zoneAt (v : View) (x y : Nat) : Option Nat := (strandAt v x y).map fun n => vNat v Obj.DAMP_STRAND_ZONE 0 n

/-! ### Mode figures (R246, R255) -/

/-- U and W_max of a mode. -/
def widthUnit (rate scan : Nat) : Nat := max 1 (ceilDiv (passes rate scan * 100) 65535)
def wMax (rate scan : Nat) : Nat := passes rate scan * 100 / widthUnit rate scan
/-- W_fs as num / den. -/
def wFs (rate scan : Nat) : Nat × Nat :=
  ((periodNs rate).1 * 10, (periodNs rate).2 * 116 * scanRows scan * widthUnit rate scan)

/-- The window of R255 in ns as num / den, and the required engine count; none where no time is left. -/
def lampWindow (v : View) : Int × Nat :=
  let p := periodNs (viewRate v)
  ((p.1 : Int) - (vNat v Obj.PATH_CLOSE 0 0 * 1000 + 60000) * p.2, p.2)
def enginesRequired (v : View) : Option Nat :=
  let w := lampWindow v
  let c := if vNat v Obj.TILE_LAMPS 0 0 = 4 then 1664 else 1280
  if w.1 ≤ 0 then none
  else some (max 128 (ceilDiv (4 * vNat v Obj.TILE_WIDTH 0 0 * vNat v Obj.TILE_HEIGHT 0 0 * c * w.2) (3 * w.1.toNat)))

/-- The objects of Tables 10-8 and 12-7 that follow the mode. -/
def State.showLampMode (s : State) : State :=
  let r := s.rate
  let q := s.scan
  let f := wFs r q
  let s := (s.wr Obj.LAMP_WIDTH_UNIT (widthUnit r q : Nat)).wr Obj.LAMP_W_MAX (wMax r q : Nat)
  let s := s.wr Obj.LAMP_W_FS (roundAway (f.1 * 256 : Nat) f.2)
  let w := lampWindow s.rdAt
  s.wr Obj.LAMP_WINDOW (clampI 0 4294967295 (roundAway w.1 w.2))

/-! ### Coefficients (R239, R240, R243) -/

/-- H[c][s] of a set in Q1.15; 1 at step 0. -/
def effOf (t : TempSet) (c k : Nat) : Nat := if k = 0 then 32768 else t.h.getD (c * 7 + k - 1) 32768
/-- E[j][s][i]. -/
def chromaOf (t : TempSet) (j k i : Nat) : Int :=
  if k = 0 ∨ i = j then 0 else t.e.getD ((j * 7 + (k - 1)) * 3 + (if i < j then i else i - 1)) 0

/-- The nominal record's set (R243). -/
def nominalSet : TempSet :=
  { temp := 0, h := List.replicate 28 32768, e := List.replicate 84 0, aging := List.replicate 64 32768, pixels := [] }

/-- Row-major matrix and (kappa, b) of the nominal pixel. -/
def nominalPixel (lamps : Nat) : List Int × List (Int × Int) :=
  ([16384, 0, 0, 0, 16384, 0, 0, 0, 16384] ++ (if lamps = 4 then [0, 0, 0] else []), List.replicate lamps (0, 0))

/-- Where the matrix fields of a record stand, row-major, as (word, lowest bit), 16 bits each (Tables 10-2 and 10-3). -/
def matrixPlaces (lamps : Nat) : List (Nat × Nat) :=
  let all := (List.range 3).flatMap fun w => [(w, 56), (w, 40), (w, 24), (w, 8)]
  if lamps = 4 then all else all.take 9
/-- Where the lamp parameter fields stand, 18 bits each: kappa in [17:6], b in [5:0]. -/
def paramPlaces (lamps : Nat) : List (Nat × Nat) :=
  if lamps = 4 then [(3, 54), (3, 36), (3, 18), (3, 0)] else [(2, 38), (2, 20), (2, 2)]

/-- The matrix rows and (kappa, b) pairs of a record's words. -/
def recordOf (lamps : Nat) (ws : List Nat) : List Int × List (Int × Int) :=
  ((matrixPlaces lamps).map fun p => ofField 16 (ws.getD p.1 0 / 2 ^ p.2),
   (paramPlaces lamps).map fun p => (ofField 12 (ws.getD p.1 0 / 2 ^ (p.2 + 6)), ofField 6 (ws.getD p.1 0 / 2 ^ p.2)))

/-- The words of a record; unused bits are 0. -/
def recordWords (lamps : Nat) (r : List Int × List (Int × Int)) : List Nat :=
  let fields := List.zip (matrixPlaces lamps) (r.1.map (toField 16))
    ++ List.zip (paramPlaces lamps) (r.2.map fun q => toField 12 q.1 * 64 + toField 6 q.2)
  (List.range (pixelWords lamps)).map fun w =>
    sumNat ((fields.filter fun f => f.1.1 == w).map fun f => f.2 * 2 ^ f.1.2)

/-- Interpolation of R240 with weight w of 32,768. -/
def mixI (w a b : Int) : Int := a + ((b - a) * w + 16384) / 32768
def mixN (w : Int) (a b : Nat) : Nat := (mixI w a b).toNat

/-- A record interpolated field by field; its number of words says how many lamps the pixel has. -/
def mixPixel (w : Int) (p q : List Nat) : List Nat :=
  let lamps := if p.length = 4 then 4 else 3
  let a := recordOf lamps p
  let b := recordOf lamps q
  recordWords lamps (List.zipWith (mixI w) a.1 b.1, List.zipWith (fun u v => (mixI w u.1 v.1, mixI w u.2 v.2)) a.2 b.2)

def mixSet (w : Int) (temp : Int) (a b : TempSet) : TempSet :=
  { temp := temp, h := List.zipWith (mixN w) a.h b.h, e := List.zipWith (mixI w) a.e b.e,
    aging := List.zipWith (mixN w) a.aging b.aging,
    pixels := List.zipWith (mixPixel w) a.pixels b.pixels }

/-- Entries of E beyond ±4,096 are clamped when they are loaded. -/
def loadSet (t : TempSet) : TempSet := { t with e := t.e.map (clampI (-4096) 4096) }

/-- The working set at temperature theta, in 2^-8 of 0.125 degC. -/
def workingSet (sets : List TempSet) (theta : Int) : TempSet :=
  let s0 := sets.getD 0 nominalSet
  let s1 := sets.getD 1 nominalSet
  let s2 := sets.getD 2 nominalSet
  let at_ (a b : TempSet) : TempSet :=
    mixSet (roundAway ((theta - a.temp * 256) * 32768) ((b.temp - a.temp) * 256).toNat) theta a b
  if theta ≤ s0.temp * 256 then s0
  else if s2.temp * 256 ≤ theta then s2
  else if theta < s1.temp * 256 then at_ s0 s1 else at_ s1 s2

/-- The sets in use of a module: the field set where it holds and is not a revert, otherwise the package set (R377). -/
def Module.setsInUse (x : Module) : List TempSet :=
  (List.range 3).map fun i =>
    match x.fields.getD i none with
    | some f => if f.revert then x.sets.getD i nominalSet else f.set
    | none => x.sets.getD i nominalSet

/-- MW, MH and DELTA_D of the package. -/
def Module.width (x : Module) : Nat := (x.found.map pkgWidth).getD 0
def Module.height (x : Module) : Nat := (x.found.map pkgHeight).getD 0
def Module.deltaD (x : Module) : Nat := (x.found.map pkgDeltaD).getD 0

/-- Whether a pixel lies in a module's rectangle (R371). -/
def State.inModule (s : State) (v : View) (m x y : Nat) : Bool :=
  let e := s.module m
  let x0 := vNat v Obj.MOD_X0 m 0
  let y0 := vNat v Obj.MOD_Y0 m 0
  decide (x0 ≤ x) && decide (x < x0 + e.width) && decide (y0 ≤ y) && decide (y < y0 + e.height)

def State.boundModules (s : State) : List Nat := (List.range 16).filter fun m => (s.module m).bound
def State.moduleAt (s : State) (v : View) (x y : Nat) : Option Nat :=
  s.boundModules.find? fun m => s.inModule v m x y

/-! ### Light and width (R246) -/

/-- What the solve needs of one lamp: g as num / den, its colour's H, kappa and b. -/
structure LampPar where
  gn : Nat
  gd : Nat
  h : Nat → Nat
  kap : Int
  b : Int

/-- eta in 2^-29. -/
def LampPar.eta (p : LampPar) (k : Nat) : Int := p.h k * (16384 + p.kap * k)

/-- Y(wn / wd, s) as num / den. -/
def LampPar.light (p : LampPar) (wn wd k : Nat) : Int × Nat :=
  if wn = 0 then (0, 1)
  else (max 0 (16 * wn - p.b * wd) * p.gn * p.eta k, 16 * wd * p.gd * 2 ^ 29 * 2 ^ k)

/-- W_s(v), before any limit. -/
def LampPar.width (p : LampPar) (k : Nat) (v : Int) : Int :=
  let d := p.gn * p.eta k
  let w : Int := if d ≤ 0 then Config.widthCorner v k
    else roundAway (16 * v * 2 ^ k * p.gd * 2 ^ 29 + p.b * d) (16 * d).toNat
  if 16 * w ≤ p.b then 0 else w

/-- What the step search reads: LAMP_STEP_MAX, LAMP_STEP_HYST and W_max. -/
structure StepRule where
  top : Nat
  hyst : Nat
  wMax : Nat

/-- The step search of R247: the largest step that qualifies; step 0 and a clip where none does; the previous step for v
at or below 0. -/
def searchStep (c : StepRule) (p : LampPar) (prev : Nat) (v : Int) : Nat × Bool :=
  if v ≤ 0 then (prev, false)
  else
    match ((List.range (c.top + 1)).reverse).find? fun k =>
      decide (p.width k v ≤ (if k ≤ prev then c.wMax else c.wMax * (32 - c.hyst) / 32 : Nat)) with
    | some k => (k, false)
    | none => (0, true)

/-- comp of R248. -/
def compTerm (e u : Int) : Int := (e * u + 16384) / 32768

/-- v[i] for steps s: u[i] less the chroma terms of the other lamps. -/
def compensated (on : Bool) (set : TempSet) (u : List Int) (steps : List Nat) : List Int :=
  u.zipIdx.map fun q =>
    if on then q.1 - sumInt ((u.zipIdx.filter fun r => r.2 != q.2).map fun r =>
      compTerm (chromaOf set r.2 (steps.getD r.2 0) q.2) r.1)
    else q.1

/-- The joint solve of R248: code and final demand of each lamp, and the lamps clipped. A lamp that one of its searches or
its final width clips counts once in a solve. DEDUCED (log 26). -/
def solvePixel (c : StepRule) (on : Bool) (set : TempSet) (ps : List LampPar) (prev : List Nat) (u : List Int) :
    PxOut :=
  let search (v : List Int) : List (Nat × Bool) :=
    (List.zip ps (List.zip prev v)).map fun q => searchStep c q.1 q.2.1 q.2.2
  let r1 := search u
  let r2 := search (compensated on set u (r1.map (·.1)))
  let s2 := r2.map (·.1)
  let v := compensated on set u s2
  let ws := (List.zip ps (List.zip s2 v)).map fun q => if q.2.2 ≤ 0 then (0 : Int) else q.1.width q.2.1 q.2.2
  let codes := (List.zip ws s2).map fun q => ({ w := (min q.1 (c.wMax : Int)).toNat, s := q.2, probe := false } : Code)
  { codes := codes, v := v, clips := ((List.zip ws (List.zip r1 r2)).filter fun q =>
      q.2.1.2 || q.2.2.2 || decide ((c.wMax : Int) < q.1)).length }

/-! ### Stages 1 to 4 (R236 to R245) -/

/-- The 18-bit lamp code of R238: encoding and decoding a target. -/
def quant18 (v : Int) : Int :=
  let n := (clampI 0 16776704 v).toNat
  if n < 16384 then n
  else
    let e := log2 n - 13
    let m := (2 * n + 2 ^ (e - 1)) / 2 ^ e - 16384
    if m = 16384 then (32768 * 2 ^ (e - 1) : Nat) else ((16384 + m) * 2 ^ (e - 1) : Nat)

/-- A target between stages: four-lamp pixels are carried in lamp codes. -/
def carry (lamps : Nat) (v : Int) : Int := if lamps = 4 then quant18 v else v

/-- Stage 2 for one lamp, and whether it clamped. -/
def stage2 (row : List Int) (x : List Nat) : Int × Bool :=
  let t := (sumInt (List.zipWith (fun m v => m * v) row (x.map Int.ofNat)) + 8192) / 16384
  (clampI 0 (2 ^ 24 - 1) t, decide (t < 0 ∨ 2 ^ 24 - 1 < t))

/-- What a frame in processing fixes: the view of its configuration, its mode, and the working sets by module, each with
the width of its module's rectangle. -/
structure LampCtx where
  v : View
  rate : Nat
  scan : Nat
  lamps : Nat
  sets : List (Nat × Nat × TempSet)

def lampCtx (conf : List (Nat × Int)) (sets : List (Nat × Nat × TempSet)) : LampCtx :=
  let v := confView conf
  { v := v, rate := viewRate v, scan := viewScan v, lamps := vNat v Obj.TILE_LAMPS 0 0, sets := sets }

def LampCtx.setOf (c : LampCtx) (m : Option Nat) : TempSet :=
  match m with
  | some k => ((c.sets.find? fun q => q.1 == k).map (·.2.2)).getD nominalSet
  | none => nominalSet

/-- The pixel record in use at (x, y). -/
def LampCtx.record (c : LampCtx) (m : Option Nat) (x y : Nat) : List Int × List (Int × Int) :=
  match m.bind fun k => c.sets.find? fun q => q.1 == k with
  | some (k, width, set) =>
    match set.pixels[(y - vNat c.v Obj.MOD_Y0 k 0) * width + (x - vNat c.v Obj.MOD_X0 k 0)]? with
    | some ws => recordOf c.lamps ws
    | none => nominalPixel c.lamps
  | none => nominalPixel c.lamps

def LampCtx.pars (c : LampCtx) (m : Option Nat) (x y : Nat) : List LampPar :=
  let f := wFs c.rate c.scan
  let set := c.setOf m
  let kb := (c.record m x y).2
  (List.range c.lamps).map fun j =>
    { gn := 2 ^ 24 * f.2, gd := f.1, h := effOf set j, kap := (kb.getD j (0, 0)).1, b := (kb.getD j (0, 0)).2 }

def LampCtx.stepRule (c : LampCtx) : StepRule :=
  { top := vNat c.v Obj.LAMP_STEP_MAX 0 0, hyst := vNat c.v Obj.LAMP_STEP_HYST 0 0, wMax := wMax c.rate c.scan }

/-- Stages 1 to 3 for linear inputs x: the targets, the clamps, and the marks of a target 0. -/
def LampCtx.targets (c : LampCtx) (s : State) (m : Option Nat) (x y : Nat) (lin : List Nat) :
    List Int × Nat :=
  let rec_ := (c.record m x y).1
  let t := (List.range c.lamps).map fun j => stage2 ((rec_.drop (3 * j)).take 3) lin
  let aged := t.zipIdx.map fun q =>
    let g := if vNat c.v Obj.LAMP_AGE_ENABLE 0 0 = 1 then (s.lampOf (lampKey x y q.2)).gain else 16384
    carry c.lamps ((carry c.lamps q.1.1 * g + 8192) / 16384)
  (aged, (t.filter (·.2)).length)

/-- A pixel repeats its previous codes: its engine retired (R19), its share is uncovered (R22), or its working-set word
failed in this frame (R242). -/
def State.repeats (s : State) (x y : Nat) : Bool :=
  s.sys.takeovers.any (fun t => Config.engineOwns t.pe 0 x y)
  || s.sys.uncovered.any (fun pe => Config.engineOwns pe 0 x y)
  || s.lamp.errors.contains (x, y)

/-- The fade gain of a line in the frame latched at `at_` (R206): its age at the frame's presentation. -/
def State.lineGain (s : State) (c : LampCtx) (at_ : Cyc) (l : HeldLine) : Nat :=
  match l.selAt with
  | none => 32768
  | some t0 => s.fadeGain (at_ + 3 * ((ratePeriod c.rate).1 * 1500000000 / (ratePeriod c.rate).2) - t0)

/-- The pixel of a content as it enters the engines, and the clamps of stage 2. -/
def State.pixelItem (s : State) (c : LampCtx) (l : Latch) (content : List (Nat × HeldLine)) (x y : Nat) :
    PxItem × Nat :=
  let line : HeldLine := look {} y content
  let px := line.px.getD x (0, 0, 0)
  let prot := line.spans.any fun r => decide (r.1 ≤ x) && decide (x ≤ r.2)
  let m := s.moduleAt c.v x y
  let gain := s.lineGain c l.at_ line
  let pattern := match l.pattern with
    | some (k, p) => if !prot && s.inModule c.v k x y then some p else none
    | none => none
  let fade (v : Nat) : Nat := if prot then v else (v * gain + 16384) / 32768
  let lin := match pattern with
    | some _ => List.replicate 3 (expandCode (vNat c.v Obj.CAL_CHECK_LEVEL 0 0))
    | none => [fade (expandCode px.1), fade (expandCode px.2.1), fade (expandCode px.2.2)]
  let (t, n) := c.targets s m x y lin
  let z := zoneAt c.v x y
  let cz := match z with | some k => l.ceil.getD k 32768 | none => 32768
  let t4 := if prot || pattern.isSome then t else t.map fun v => carry c.lamps ((v * cz + 16384) / 32768)
  let dark := (List.range 16).any fun k => (s.module k).dark && s.inModule c.v k x y
  ({ x := x, y := y, zone := z, prot := prot, mod := m, again := s.repeats x y, dark := dark, pattern := pattern,
     t := t4.map Int.toNat, zero := t.map (· == 0) }, n)

def State.pixelItems (s : State) (c : LampCtx) (l : Latch) (content : List (Nat × HeldLine)) :
    List (PxItem × Nat) :=
  (List.range (vNat c.v Obj.TILE_HEIGHT 0 0)).flatMap fun y =>
    (List.range (vNat c.v Obj.TILE_WIDTH 0 0)).map fun x => s.pixelItem c l content x y

/-! ### Stages 5 to 8 (R249 to R252) -/

/-- The code of a lamp in a frame's buffer. -/
def State.codeOf (s : State) (k key : Nat) : Code :=
  let b : DriveBuf := look {} (k % 3) s.lamp.bufs
  if b.frame = some k then look {} key b.codes else {}

/-- The light of a probe that frame k - 1 sent for a lamp, rounded (log 27). -/
def State.probeLight (s : State) (c : LampCtx) (k key : Nat) (p : LampPar) : Int :=
  if (s.codeOf (k - 1) key).probe then
    let y := p.light 4 (widthUnit c.rate c.scan) 3
    roundAway y.1 y.2
  else 0

/-- One pass over a pixel with the power scale sigma (R248 to R252). -/
def State.passPixel (s : State) (c : LampCtx) (k : Nat) (sigma : Nat) (it : PxItem) : PxOut :=
  let ps := c.pars it.mod it.x it.y
  let keys := (List.range c.lamps).map fun j => lampKey it.x it.y j
  let prev := keys.map fun q => (s.lampOf q).step
  let again : PxOut := { codes := keys.map fun q => { s.codeOf (k - 1) q with probe := false }, v := [], clips := 0 }
  if it.again || s.repeats it.x it.y then again
  else
    let colour : Option (Nat × Nat) := match it.pattern with
      | some p => if p = 0 then none else some ((p - 1) / 8, (p - 1) % 8)
      | none => none
    match colour with
    | some (col, st) =>
      let w := wMax c.rate c.scan * vNat c.v Obj.CAL_PATTERN_LEVEL 0 0 / 32768
      { codes := prev.zipIdx.map fun q => if q.2 = col then { w := w, s := st } else { w := 0, s := q.1 },
        v := [], clips := 0 }
    | none =>
      let diffuse := vNat c.v Obj.LAMP_DIFFUSE 0 0 == 1 && it.pattern.isNone
      let scaled (t : Nat) : Int := if it.pattern.isSome || sigma = 32768 then t
        else carry c.lamps (((t : Int) * sigma + 16384) / 32768)
      let probes := (List.zip keys ps).map fun q => s.probeLight c k q.1 q.2
      let u := (List.range c.lamps).map fun j =>
        let r := if diffuse && !it.zero.getD j false then (s.lampOf (keys.getD j 0)).res else 0
        scaled (it.t.getD j 0) + r - probes.getD j 0
      let out := solvePixel c.stepRule (vNat c.v Obj.LAMP_CHROMA_COMP 0 0 == 1) (c.setOf it.mod) ps prev u
      let fix := (List.range c.lamps).map fun j => decide (probes.getD j 0 ≠ 0 ∧ u.getD j 0 ≤ 0)
      { out with
        codes := out.codes.zipIdx.map fun q => if fix.getD q.2 false then { q.1 with w := 0 } else q.1,
        v := out.v.zipIdx.map fun q => if fix.getD q.2 false then u.getD q.2 0 else q.1 }

/-- The demand of one code (R251). -/
def codeDemand (v : View) (j : Nat) (c : Code) : Nat := c.w * vNat v Obj.LAMP_IFS 0 j * 2 ^ (7 - c.s)
/-- A probe's demand (R302). -/
def probeDemand (c : LampCtx) (j : Nat) : Nat := ceilDiv (64 * vNat c.v Obj.LAMP_IFS 0 j) (widthUnit c.rate c.scan)

def pixelDemand (v : View) (o : PxOut) : Nat := sumNat (o.codes.zipIdx.map fun q => codeDemand v q.2 q.1)

/-- Q_z and Q_p of the eight zones (R251). -/
def zoneDemands (v : View) (items : List PxItem) (outs : List PxOut) : List (Nat × Nat) :=
  let l := List.zip items outs
  (List.range 8).map fun z =>
    let mine := l.filter fun q => q.1.zone == some z
    (sumNat (mine.map fun q => pixelDemand v q.2),
     sumNat ((mine.filter fun q => q.1.prot).map fun q => pixelDemand v q.2))

/-- sigma_p and sigma_u of a zone whose demand exceeds its grant (R252). -/
def powerScale (g : Nat) (d : Nat × Nat) : Option (Nat × Nat) :=
  if d.1 ≤ g then none
  else if d.2 ≤ g then some (32768, 32768 * (g - d.2) / (d.1 - d.2))
  else some (32768 * g / d.2, 0)

/-- The first pass of a content. -/
def State.firstPass (s : State) (c : LampCtx) (l : Latch) (r : LampRes) : LampRes :=
  let outs := r.items.map (s.passPixel c l.frame 32768)
  let d := zoneDemands c.v r.items outs
  { r with outs := outs, demand := d, clips := r.clips + sumNat (outs.map (·.clips)),
           scale := (List.range 8).map fun z => powerScale (l.grants.getD z 0) (d.getD z (0, 0)) }

/-- The second pass over the zones that need one; its clips count beside those of the first. -/
def State.secondPass (s : State) (c : LampCtx) (l : Latch) (r : LampRes) : LampRes :=
  let new := (List.zip r.items r.outs).map fun q =>
    match q.1.zone.bind fun z => r.scale.getD z none with
    | some (sp, su) => let o := s.passPixel c l.frame (if q.1.prot then sp else su) q.1
                       (o, o.clips)
    | none => (q.2, 0)
  { r with outs := new.map (·.1), clips := r.clips + sumNat (new.map (·.2)) }

/-! ### The commands of processing (R235, R252, R254) -/

/-- LAMP_PROCESS_START at the close of frame k (R235): the items are formed from the settled content. -/
def State.lampStart (s : State) (k : Nat) : State :=
  match s.lamp.latches.find? fun l => l.frame == k with
  | none => s
  | some l =>
    let sets := s.boundModules.filterMap fun m => (s.module m).active.map fun a => (m, (s.module m).width, a)
    let c := lampCtx l.conf sets
    let load (content : List (Nat × HeldLine)) : LampRes :=
      let q := s.pixelItems c l content
      { items := q.map (·.1), outs := [], demand := [], scale := [], clips := sumNat (q.map (·.2)) }
    let held := match s.lamp.hold with
      | some (k0, content) => if k0 ≤ k ∧ k ≤ k0 + 2 then some (load content) else none
      | none => none
    let job : LampJob := { latch := l, start := s.now, sets := sets, fresh := load s.lamp.content, held := held,
                           first := false, done := false }
    s.setLampSt { s.lamp with job := some job }

/-- FRAME_CLOSE: the oldest frame past its close settles and its processing starts. Frame k - 1 is what a hold from
boundary k repeats (R131). -/
def frameClose (s : State) : State :=
  match s.paths.frames with
  | [] => s
  | f :: _ =>
    if s.now < f.closeAt then s
    else
      let s := s.closeFrame.showFlags
      let hold := match s.lamp.hold with
        | some (k0, old) => some (k0, if f.k + 1 = k0 then s.paths.lines else old)
        | none => none
      let s := s.setLampSt { s.lamp with before := s.lamp.content, content := s.paths.lines, hold := hold }
      let s := s.setMods { s.mods with lineSeen := s.mods.lineSeen || s.paths.closedAny }
      s.lampStart f.k

def execFrameClose (t : Cyc) (s : State) : Host.Outcome State Fault Refusal := s.run t frameClose

def LampJob.ctx (j : LampJob) : LampCtx := lampCtx j.latch.conf j.sets

/-- LAMP_FIRST_PASS_DONE: demands are known and the zones above their grant get a second pass. -/
def lampFirstPassDone (s : State) : State :=
  match s.lamp.job with
  | none => s
  | some j =>
    if j.first then s
    else
      let c := j.ctx
      let fresh := s.firstPass c j.latch j.fresh
      let n := (fresh.scale.filter (·.isSome)).length
      let prot := (List.range 8).filter fun z => match fresh.scale.getD z none with
        | some (sp, _) => decide (sp < 32768)
        | none => false
      let j := { j with fresh := fresh, held := j.held.map (s.firstPass c j.latch), first := true }
      let s := s.setLampSt { s.lamp with job := some j, resolved := n != 0 }
      let s := s.addTo Obj.LAMP_RESOLVES 0 0 n
      let s := (List.range 8).foldl (fun s z =>
        let s := s.wrIn Obj.LAMP_ZONE_DEMAND 0 z (fresh.demand.getD z (0, 0)).1
        s.wrAt Obj.LAMP_ZONE_SCALE 0 z (match fresh.scale.getD z none with | some q => q.2 | none => 32768)) s
      prot.foldl (fun s z => (s.bump Obj.LAMP_PROT_SCALED).raise 0x45 z 0) s

def execLampFirstPassDone (t : Cyc) (s : State) : Host.Outcome State Fault Refusal := s.run t lampFirstPassDone

/-- Mean of Y / 2^24 over a zone's unprotected lamps in Q4.44 (Table 13-1). -/
def zoneLight (c : LampCtx) (r : LampRes) (z : Nat) : Option Int :=
  let mine := (List.zip r.items r.outs).filter fun q => q.1.zone == some z && !q.1.prot
  let ys := mine.flatMap fun q =>
    ((c.pars q.1.mod q.1.x q.1.y).zipIdx).map fun p =>
      let o := q.2.codes.getD p.2 {}
      let y := p.1.light o.w 1 o.s
      roundAway (y.1 * 2 ^ 20) y.2
  if ys.isEmpty then none else some (roundAway (sumInt ys) ys.length)

/-- LAMP_PROCESSING_DONE: the frame's codes are complete. -/
def lampProcessingDone (s : State) : State :=
  match s.lamp.job with
  | none => s
  | some j =>
    if !j.first || j.done then s
    else
      let c := j.ctx
      let fresh := s.secondPass c j.latch j.fresh
      let ns := (roundAway ((s.now - j.start) * 2 : Nat) 3).toNat
      let s := s.setLampSt { s.lamp with
        job := some { j with fresh := fresh, held := j.held.map (s.secondPass c j.latch), done := true },
        lastDemand := some (j.latch.frame, fresh.demand) }
      let s := if s.nat Obj.LAMP_PROC_MAX < ns then s.wrIn Obj.LAMP_PROC_MAX 0 0 ns else s
      let s := (List.range 8).foldl (fun s z => match zoneLight c fresh z with
        | some y => s.setZone z { s.zone z with light := y }
        | none => s) s
      let clean := s.upd.window && s.upd.swapped && decide (s.upd.swapAt ≤ j.latch.frame)
      let s := if clean then { s with upd := { s.upd with cleanFrames := s.upd.cleanFrames + 1 } } else s
      s.bump Obj.LAMP_FRAMES

def execLampProcessingDone (t : Cyc) (s : State) : Host.Outcome State Fault Refusal := s.run t lampProcessingDone

/-! ### Stage 9 and the drive deadline (R244, R249, R253, R254, R300 to R303) -/

/-- A frame's dose for a realised light (R244), in 2^-24 full-scale seconds, rounded (log 24). -/
def doseOf (rate : Nat) (y : Int × Nat) : Nat :=
  (roundAway (y.1 * (ratePeriod rate).1) (y.2 * (ratePeriod rate).2)).toNat

/-- PROBE and PULSE_AGE of R300. -/
def probeRule (c : LampCtx) (k x y j w age : Nat) : Bool × Nat :=
  let p := max 1 (passes c.rate c.scan)
  if 4 ≤ ceilDiv (w * widthUnit c.rate c.scan) p then (false, 0)
  else
    let age := min (age + 1) 127
    if vNat c.v Obj.SCAN_PROBE_ENABLE 0 0 = 1 ∧ 64 ≤ age ∧ (k + x + 8 * y + j) % 64 = 0 then (true, 0) else (false, age)

/-- Stage 9 for one lamp: the code written and the lamp's new state word and dose. A pixel whose engine retired or whose
word failed since its pass repeats too (R19, R242); a repeated code keeps the residual and PULSE_AGE (R249, R303). -/
def State.stage9 (s : State) (c : LampCtx) (k : Nat) (it : PxItem) (o : PxOut) (j : Nat) : Code × Lamp :=
  let l := s.lampOf (lampKey it.x it.y j)
  let again := it.again || s.repeats it.x it.y
  let code : Code := if again then { s.codeOf (k - 1) (lampKey it.x it.y j) with probe := false } else o.codes.getD j {}
  let y := match (c.pars it.mod it.x it.y)[j]? with | some p => p.light code.w 1 code.s | none => (0, 1)
  let l := if it.dark then l else { l with dose := l.dose + doseOf c.rate y }
  let l := if vNat c.v Obj.LAMP_DIFFUSE 0 0 = 0 then { l with res := 0 } else l
  if again then (code, l)
  else if it.pattern.isSome then (code, { l with step := code.s })
  else
    let res := if vNat c.v Obj.LAMP_DIFFUSE 0 0 = 0 ∨ it.zero.getD j false = true then 0
      else clampI (-32768) 32767 (roundAway (o.v.getD j 0 * y.2 - y.1) y.2)
    let (probe, age) := probeRule c k it.x it.y j code.w l.age
    ({ code with probe := probe }, { l with res := res, step := code.s, age := age })

/-- The codes of a content written for frame k. -/
def State.writePixels (s : State) (c : LampCtx) (k : Nat) (l : List (PxItem × PxOut)) :
    List (Nat × Code) × State :=
  l.foldl (fun q r =>
    (List.range c.lamps).foldl (fun q j =>
      let (code, lamp) := q.2.stage9 c k r.1 r.2 j
      let key := lampKey r.1.x r.1.y j
      (put {} key code q.1, q.2.setLamp key lamp)) q) ([], s)

/-- Every lamp late: its previous code repeats with PROBE clear (R254, R303). -/
def State.latePixels (s : State) (c : LampCtx) (k : Nat) : List (PxItem × PxOut) :=
  (List.range (vNat c.v Obj.TILE_HEIGHT 0 0)).flatMap fun y =>
    (List.range (vNat c.v Obj.TILE_WIDTH 0 0)).map fun x =>
      let it : PxItem := { x := x, y := y, zone := zoneAt c.v x y, prot := false, mod := s.moduleAt c.v x y, again := true,
                           dark := false, pattern := none, t := [], zero := [] }
      (it, s.passPixel c k 32768 it)

/-- The zone check of R253 and R302 on the codes of one zone: probes removed, widths trimmed, what was done. -/
structure ZoneCheck where
  codes : List (Nat × Code)
  sum : Nat
  dropped : Nat
  trimmed : Bool
deriving DecidableEq, Repr

def zoneCheck (c : LampCtx) (grant : Nat) (codes : List (Nat × Code)) : ZoneCheck :=
  let total (l : List (Nat × Code)) : Nat := sumNat (l.map fun q => codeDemand c.v (q.1 % 4) q.2)
  let probes := codes.filter fun q => q.2.probe
  let tooMuch := decide (grant < total codes + sumNat (probes.map fun q => probeDemand c (q.1 % 4)))
  let kept := if tooMuch then codes.map fun q => (q.1, { q.2 with probe := false }) else codes
  let q' := total kept
  let trim := decide (grant < q')
  let out := if trim then kept.map fun q => (q.1, { q.2 with w := q.2.w * grant / q' }) else kept
  { codes := out, sum := total out, dropped := if tooMuch then probes.length else 0, trimmed := trim }

/-- PROBE_REMOVE and ZONE_TRIM for the eight zones of a frame. -/
def State.checkZones (s : State) (c : LampCtx) (l : Latch) (codes : List (Nat × Code)) : List (Nat × Code) × State :=
  let zoneOfKey (key : Nat) : Option Nat := zoneAt c.v (key / 4 % 512) (key / 2048)
  let r := (List.range 8).foldl (fun q z =>
    let mine := codes.filter fun p => zoneOfKey p.1 == some z
    let k := zoneCheck c (l.grants.getD z 0) mine
    let s := q.2.2.addTo Obj.SCAN_PROBES_DROPPED 0 0 k.dropped
    let s := if k.trimmed then s.bump Obj.LAMP_TRIMS else s
    (k.codes.foldl (fun m p => put {} p.1 p.2 m) q.1, q.2.1 ++ [(k.sum, k.trimmed)], s)) (codes, [], s)
  let sums := r.2.1.map (·.1)
  let trims := (List.range 8).filter fun z => (r.2.1.getD z (0, false)).2
  let s := r.2.2
  (r.1, s.setLampSt { s.lamp with trimmedQ := ((l.frame, sums) :: s.lamp.trimmedQ).take 6, lastTrim := trims })

/-- What a frame with a pattern leaves for the run (R340, R346): that a zone with lamps of the module was trimmed, the
pixels that were protected, and the codes of the white check. -/
def State.markPattern (s : State) (l : Latch) (items : List PxItem) (codes : List (Nat × Code)) : State :=
  match l.pattern with
  | none => s
  | some (m, p) =>
    let mine := items.filter fun it => it.mod == some m
    let hit := mine.any fun it => match it.zone with
      | some z => s.lamp.lastTrim.contains z
      | none => false
    let cal := s.mods.cal
    let prot := (mine.filter (·.prot)).foldl (fun q it => addMember (it.y * 512 + it.x) q) cal.prot
    let white := if p = 0 then codes.filter fun q => mine.any fun it => it.y * 512 + it.x == q.1 / 4 else cal.white
    s.setMods { s.mods with cal :=
      { cal with trims := if hit then (l.frame :: cal.trims).take 8 else cal.trims, prot := prot, white := white } }

/-- The codes of frame k settle at its drive deadline (R253, R254, R131, log 24). -/
def State.settleCodes (s : State) (l : Latch) : State :=
  let k := l.frame
  let job := match s.lamp.job with
    | some j => if j.latch.frame = k then some j else none
    | none => none
  let c := match job with | some j => j.ctx | none => lampCtx l.conf []
  let done := match job with | some j => j.first | none => false
  let res := match job with
    | some j => match j.held with
      | some h => if s.lamp.hold.isSome && !s.frameLocked then some h else some j.fresh
      | none => some j.fresh
    | none => none
  let pixels := match res with
    | some r => if done then List.zip r.items r.outs else s.latePixels c k
    | none => s.latePixels c k
  let s := match res with
    | some r => s.addTo Obj.LAMP_CLIPS 0 0 r.clips
    | none => s
  let s := if done then s else ((s.addTo Obj.LAMP_LATE_LAMPS 0 0 (pixels.length * c.lamps)).bump Obj.LAMP_FRAMES_LATE).raise 0x40 0 0
  let (codes, s) := s.writePixels c k pixels
  let (codes, s) := s.checkZones c l codes
  let s := s.markPattern l (pixels.map (·.1)) codes
  s.setLampSt { s.lamp with
    bufs := put {} (k % 3) { frame := some k, codes := codes, rate := c.rate, scan := c.scan } s.lamp.bufs,
    job := none, errors := [] }

/-! ### Working sets (R240 to R243) -/

/-- Whether a module's build is due (R241); with a bad stored set it waits until the package has been read again (R242). -/
def State.buildDue (s : State) (m : Nat) : Bool :=
  let x := s.module m
  let moved := match x.theta with
    | some th => decide (s.nat Obj.LAMP_TEMP_HYST * 256 ≤ (th - s.rdAt Obj.LAMP_MOD_TEMP 0 m * 256).natAbs)
    | none => false
  x.bound && x.badSets.isEmpty && x.building.isNone && (x.due || (x.active.isSome && moved))

/-- LAMP_REFRESH_PER_FRAME as the last frame boundary took it, its safe point (Table 10-8); 1 from thermal stage 1 on
(R386). -/
def State.refreshLimit (s : State) : Nat :=
  if 1 ≤ s.mods.thermal.applied then 1 else s.lamp.quota

/-- WORKING_SET_BUILD_START: the lowest module whose build is due. A module that has no temperature yet builds at a free
one (log 28). -/
def buildStart (m : Nat) (s : State) : State :=
  if s.isTile && s.buildDue m && !((List.range m).any s.buildDue) && decide (s.lamp.starts < s.refreshLimit) then
    let x := s.module m
    let (theta, s) := match x.theta with
      | some th => (th, s)
      | none => ((s.freeVal % 2 ^ 24 : Nat) - (2 ^ 23 : Int), s.used)
    let s := s.setLampSt { s.lamp with starts := s.lamp.starts + 1 }
    let s := s.setModule m { x with building := some { workingSet x.setsInUse theta with temp := theta }, due := false }
    s.wrAt Obj.LAMP_MOD_STATE 0 m 3
  else s

def execWorkingSetBuildStart (t : Cyc) (module : Nat) (s : State) : Host.Outcome State Fault Refusal :=
  s.run t (buildStart module)

/-- WORKING_SET_BUILD_DONE: the built half becomes active for the frames that start from now on. -/
def buildDone (m : Nat) (s : State) : State :=
  let x := s.module m
  match x.building with
  | none => s
  | some b =>
    let s := s.setModule m { x with building := none, active := some b, builtAt := s.now }
    let s := s.wrIn Obj.LAMP_MOD_TEMP 0 m (roundAway b.temp 256)
    (s.wrAt Obj.LAMP_MOD_STATE 0 m 2).bumpAt Obj.LAMP_MOD_REFRESHES 0 m

def execWorkingSetBuildDone (t : Cyc) (module : Nat) (s : State) : Host.Outcome State Fault Refusal :=
  s.run t (buildDone module)

/-- WORKING_SET_AGE_TIMEOUT: 10 s since the active half was built. -/
def buildAge (m : Nat) (s : State) : State :=
  let x := s.module m
  if x.bound ∧ x.active.isSome ∧ x.builtAt + seconds 10 ≤ s.now then s.setModule m { x with due := true } else s

def execWorkingSetAgeTimeout (t : Cyc) (module : Nat) (s : State) : Host.Outcome State Fault Refusal :=
  s.run t (buildAge module)

/-- COEF_WORD_ERROR (R242). -/
def coefWordError (x y : Nat) (s : State) : State :=
  if s.isTile then
    let s := s.setLampSt { s.lamp with errors := (x, y) :: s.lamp.errors }
    let m := s.moduleAt s.rdAt x y
    let s := match m with
      | some k => s.setModule k { s.module k with due := true }
      | none => s
    (s.bump Obj.LAMP_COEF_ERRORS).raise 0x41 (m.getD 0) 0
  else s

def execCoefWordError (t : Cyc) (x y : Nat) (s : State) : Host.Outcome State Fault Refusal :=
  s.run t (coefWordError x y)

/-- STORED_SET_ERROR (R242): the nominal record until the package has been read again. -/
def storedSetError (m k : Nat) (s : State) : State :=
  let x := s.module m
  if s.isTile && x.bound then
    (s.setModule m { x with badSets := addMember k x.badSets, active := none, building := none, due := false,
                            polled := false, pollAt := none }).wrAt
      Obj.LAMP_MOD_STATE 0 m 4
  else s

def execStoredSetError (t : Cyc) (module set : Nat) (s : State) : Host.Outcome State Fault Refusal :=
  s.run t (storedSetError module set)

/-! ### Frames latched, and the rate-change hold (R131, R235) -/

/-- What frame k takes at step 0 + 4 CCLK of its boundary. -/
def State.latchFrame (s : State) (k : Nat) : State :=
  let zs := List.range 8
  let l : Latch :=
    { frame := k, at_ := s.now, ceil := zs.map fun z => (s.zone z).inForce, grants := zs.map fun z => (s.zone z).grantQ,
      tileGrant := s.nat Obj.PWR_TILE_GRANT, gseq := s.nat Obj.PWR_GRANT_SEQ, conf := s.dict,
      pattern := s.mods.cal.pattern.map fun p => (s.mods.cal.module, p) }
  s.setLampSt { s.lamp with latches := (l :: s.lamp.latches).take 8, starts := 0, quota := s.nat Obj.LAMP_REFRESH_PER_FRAME }

/-- A rate change committed for boundary k holds the content of frame k - 1, which closes after that boundary (R131). -/
def State.startHold (s : State) (k : Nat) : State :=
  s.setLampSt { s.lamp with hold := some (k, s.lamp.content) }

/-- At the presentation boundary of frame j: the hold goes on, ends with lock, or times out after three frames. -/
def State.presentHold (s : State) (j : Nat) : State :=
  match s.lamp.hold with
  | none => s
  | some (k, _) =>
    if j < k then s
    else if !s.frameLocked && decide (j ≤ k + 2) then (s.bump Obj.WALL_HOLDS).wr Obj.TILE_STATE 3
    else
      let s := if s.frameLocked then s else s.raise 0x3B 0 0
      (s.setLampSt { s.lamp with hold := none }).wr Obj.TILE_STATE 2

/-- MODE_HOLD_TIMEOUT: the presentation boundary of frame k + 3 has come without lock. -/
def modeHoldTimeout (s : State) : State :=
  match s.lamp.hold with
  | some (k, _) => if s.isTile && decide (k + 6 ≤ s.nat Obj.WFC) && !s.frameLocked then s.presentHold (k + 3) else s
  | none => s

def execModeHoldTimeout (t : Cyc) (s : State) : Host.Outcome State Fault Refusal := s.run t modeHoldTimeout

end Sys2Proof.Machine
end

