-- ==== Sys2Proof/Machine/StrandCode.lean ====
section
/-! DEFINITION. The strand code (R258 to R269, R278, R279): cells, symbols and words as the tile sends them on STO and reads
them on STI, and the data cells of a scan. -/

namespace Sys2Proof.Machine

/-! ### Cells (R258, R259) -/

/-- High ticks of a cell (Table 11-1). -/
def Cell.highTicks (c : Cell) : Nat := match c with | .z => 1 | .m => 2 | .o => 3

/-- The cell that two samples spell; none where it is invalid. -/
def readCell (c : CellSample) : Option Cell :=
  match c.early, c.late with
  | false, false => some .z
  | true, false => some .m
  | true, true => some .o
  | false, true => none

def dataCell (b : Bool) : Cell := if b then .o else .z
/-- The low n bits of v in data cells, most significant bit first. -/
def dataCells (n v : Nat) : List Cell := (bitsOf n v).map dataCell

/-- The bit of a data cell; none of an M or an invalid cell. -/
def readBit (c : CellSample) : Option Bool :=
  match readCell c with
  | some .z => some false
  | some .o => some true
  | _ => none

/-- The number that data cells spell; none where a cell is no data cell, so that the word fails its check (R259). -/
def readWord (l : List CellSample) : Option Nat :=
  l.foldl (fun a c => match a, readBit c with | some n, some b => some (n * 2 + b.toNat) | _, _ => none) (some 0)

/-! ### Symbols (R261, R264, R267, R278, R279) -/

/-- A control symbol: its lead, type and payload of n bits. -/
def symbolCells (typ n payload : Nat) : List Cell := .m :: dataCells 3 typ ++ dataCells n payload

/-- The payload of a received symbol of a type, with n payload cells; none where it is no such symbol. -/
def readSymbol (typ n : Nat) (l : List CellSample) : Option Nat :=
  if l.length = n + 4 ∧ (l.head?.bind readCell) = some .m ∧ readWord ((l.drop 1).take 3) = some typ then readWord (l.drop 4)
  else none

/-- Six bits, then their complement: the payload of ENUM and BREAK. -/
def withComplement (v : Nat) : Nat := v % 64 * 64 + (63 - v % 64)
/-- The six bits where the complement fits. -/
def checkComplement (p : Nat) : Option Nat := if p = withComplement (p / 64) then some (p / 64) else none

/-- CRC-4 of R268 over an n-bit value. -/
def crc4 (n v : Nat) : Nat := crcBits 4 0x3 0xF (bitsOf n v)
/-- The value with its CRC-4 appended. -/
def withCrc4 (n v : Nat) : Nat := v * 16 + crc4 n v
/-- An n-bit word that passes its CRC-4. -/
def crc4Ok (n w : Nat) : Bool := decide (w < 2 ^ n) && crc4 (n - 4) (w / 16) == w % 16

def headerCrc (body : Nat) : Nat := crcBits 16 0x1021 0xFFFF (bitsOf 44 body)

/-- Table 11-4, bits [59:0]. -/
def frameHeader (frame shares scan p unit : Nat) : Nat :=
  let body := (((frame % 256 * 64 + shares) * 8 + scan) * 65536 + p) * 64 + unit
  let body := body * 32
  body * 65536 + headerCrc body

/-- A returned FRAME symbol passes its CRC-16 (R267, R285). -/
def strandHeaderOk (l : List CellSample) : Bool :=
  match readSymbol 1 60 (l.take 64) with
  | some w => headerCrc (w / 65536) == w % 65536
  | none => false

def shareHeader (a q : Nat) : Nat := withCrc4 12 (((a - 1) * 2) * 64 + (q - 1))
def driveWord (c : Code) : Nat := withCrc4 20 ((c.w * 8 + c.s) * 2 + if c.probe then 1 else 0)
/-- The slot as sent (R269). -/
def emptySlot : Nat := 15 - crc4 28 0
/-- A returned slot that passes its check. -/
def slotOk (w : Nat) : Bool := crc4Ok 32 w

/-- A ROW (type 010) or ROW_LAST (110) symbol (Table 11-3). -/
def rowSymbol (last : Bool) (row pre : Nat) : List Cell :=
  let typ := if last then 6 else 2
  let body := (row % 64 * 8 + bits pre 5 3) * 4 + bits pre 2 1
  let ones := ((bitsOf 3 typ ++ bitsOf 11 body).filter id).length
  symbolCells typ 12 (body * 2 + ones % 2)

/-- CMD payload (Table 11-8). -/
def cmdPayload (addr : Nat) (read : Bool) (reg value : Nat) : Nat :=
  withCrc4 32 ((((addr * 2 + if read then 1 else 0) * 2) * 256 + reg) * 65536 + value)

def cmdSymbol (payload : Nat) : List Cell := symbolCells 3 36 payload
/-- ENUM with COUNT 1, as the tile sends it. -/
def enumSymbol : List Cell := symbolCells 4 12 (withComplement 1)
def haltSymbol : List Cell := symbolCells 5 4 6

/-! ### The cells of a scan (R262, R263) -/

/-- When data cell j leaves STO after the scan start, in ns. -/
def cellTime (j : Nat) : Nat := j / 100 * 1160 + j % 100 * 10

/-- The first place for n cells in a row at or after `from` (ns after the scan start) that lies in the data cells of one visit,
or in the frame tail, which begins at `tail`. -/
def freePlace (tail from_ n : Nat) : Nat :=
  let cell := ceilDiv (from_ % 1160) 10
  if tail ≤ from_ then tail + ceilDiv (from_ - tail) 10 * 10
  else if cell + n ≤ 100 then from_ / 1160 * 1160 + cell * 10
  else (from_ / 1160 + 1) * 1160

/-- The first slot at or after `from` (ns after the scan start). -/
def slotAfter (from_ : Nat) : Nat :=
  if from_ % 1160 ≤ 1000 then from_ / 1160 * 1160 + 1000 else (from_ / 1160 + 1) * 1160 + 1000

end Sys2Proof.Machine
end

