-- ==== Sys2Proof/Machine/Strand.lean ====
section
/-! DEFINITION. Strands and the scan (chapters 11 and 12): strand frames out and back, enumeration, driver registers,
the open-lamp table and the scan sequencer. -/

namespace Sys2Proof.Machine

def State.strand (s : State) (n : Nat) : Strand := look {} n s.strands
def State.setStrand (s : State) (n : Nat) (x : Strand) : State := { s with strands := put {} n x s.strands }
def State.setSeq (s : State) (x : Scan) : State := { s with seq := x }

/-- The data plane runs: started (R416), not shut down (R391), not held (R25). What a data plane 'held in its last frame' does,
R25 does not say: here it takes no new frame, sends no line packet and starts no scan or pass, so that nothing of the last frame
is sent or scanned again. DESIGN CHOICE (log 132). -/
def State.dataRuns (s : State) : Bool :=
  s.sys.dataPlane && !s.mods.thermal.shutdown && !s.held && s.sys.jtag != 2

/-! ### The values that armed sets bring (R48, R50) -/

def inScope (scope key : Nat) : Bool := bit scope (areaOf (key / 256))

def isRws (key : Nat) : Bool :=
  match rowOfKey key with
  | some (r, _, _) => r.acc == .rws
  | none => false

/-- The values of a set put over values in force: every RWS object of its scope takes the value of the set. -/
def overlay (scope : Nat) (nums dict : List (Nat × Int)) : List (Nat × Int) :=
  (nums.filter fun p => inScope scope p.1 && isRws p.1).foldl (fun d p => insertAt p.1 p.2 d)
    (dict.filter fun p => !(inScope scope p.1 && isRws p.1))

/-- A set placed behind those of the same or an earlier target. -/
def placeSet (a : ArmedSet) : List ArmedSet → List ArmedSet
  | [] => [a]
  | b :: bs => if b.target ≤ a.target then b :: placeSet a bs else a :: b :: bs

/-- Armed sets in the order in which they apply: by target, those of one target as they were armed (R50). -/
def byTarget (l : List ArmedSet) : List ArmedSet := l.foldl (fun m a => placeSet a m) []

/-- The values in force at boundary k: those of now with the sets armed for it or an earlier boundary over them. -/
def State.dictAt (s : State) (k : Nat) : List (Nat × Int) :=
  (byTarget (s.sess.armed.filter fun a => decide (a.target ≤ k))).foldl (fun d a => overlay a.scope a.nums d) s.dict
/-- The view of boundary k as the device knows it now; a tile that has lost both paths applies no armed set (R54). -/
def State.confAt (s : State) (k : Nat) : View :=
  confView (if s.isTile && s.lostBoth then s.dict else s.dictAt k)

/-- STR_STATE follows the strand (Table 11-14). -/
def State.showStrand (s : State) (n : Nat) : State :=
  let x := s.strand n
  let d := (profileChannels s.rdAt (strandProfile s.rdAt n)).length
  s.wrAt Obj.STR_STATE 0 n
    (if !strandOn s.rdAt n then 0 else if x.halted then 4 else if x.broken then 3 else if !x.known then 1
     else if s.natAt Obj.STR_FOUND 0 n ≠ d then 5 else 2)

/-! ### Places on a strand (R262, R263) -/

/-- The passes of the scan that runs, in ns: its frame tail follows. -/
def State.scanLength (s : State) : Nat := passes s.seq.rate s.seq.ratio * (scanRows s.seq.ratio * 1160)

/-- The scan start (2^-18 ns) that follows the scan of boundary j. -/
def State.nextScan (s : State) (j : Nat) : Option Int :=
  match s.time.sched with
  | some _ => (s.scheduleFor (j + 1)).map fun c =>
      c.instant (j + 1) + ns18 (vNat (s.confAt (j + 1)) Obj.TIME_SCAN_OFFSET 0 0)
  | none => none

/-- A wall time (2^-18 ns) in whole ns after the scan start, not before it. -/
def State.inScan (s : State) (w : Int) : Nat := ((w - s.seq.start + 262143) / 262144).toNat

/-- When (2^-18 ns) a symbol of `len` cells leaves STO[n]: the first place that R262 allows behind the strand frame and the
symbols placed before it; none where none is left before the next FRAME lead. While no scan runs it leaves at once. Which of
the places it takes is a DESIGN CHOICE (log 158). -/
def State.strandPlace (s : State) (n len : Nat) : Option Int :=
  let x := s.strand n
  let w : Int := max s.wall18 x.free
  match s.seq.boundary with
  | none => some w
  | some j =>
    let behind := match x.sent with | some f => cellTime f.cells | none => 0
    let at_ := s.seq.start + ns18 (freePlace s.scanLength (max (s.inScan w) behind) len : Nat)
    match s.nextScan j with
    | some e => if at_ + ns18 (len * 10) ≤ e then some at_ else none
    | none => some at_

/-- When a HALT leaves STO[n]: in the next slot (R262). The frame tail has no slot, and a HALT may not wait for the next scan
(R391, R401): there, and while no scan runs, it leaves at once. DESIGN CHOICE (log 158). -/
def State.haltPlace (s : State) (n : Nat) : Int :=
  let p := slotAfter (s.inScan s.wall18)
  if s.seq.boundary.isSome ∧ p < s.scanLength then s.seq.start + ns18 p else max s.wall18 (s.strand n).free

/-- A symbol leaves STO[n] at its place. -/
def State.strandSymbol (s : State) (n : Nat) (at_ : Int) (l : List Cell) : State :=
  (s.setStrand n { s.strand n with free := at_ + ns18 (l.length * 10) }).send (.strand n at_ l)

/-- The cycle of the time base at a wall time that is not past. -/
def State.cycleAt (s : State) (at_ : Int) : Cyc := s.now + (((at_ - s.wall18) * 3 + 524287) / 524288).toNat

/-! ### Commands on a strand (R279, R280) -/

/-- The next waiting CMD leaves when none is out and it has a place. -/
def State.pumpCmd (s : State) (n : Nat) : State :=
  let x := s.strand n
  match x.cmd, x.queue, s.strandPlace n 40 with
  | none, (p, go) :: rest, some a =>
    (s.setStrand n { x with cmd := some (p, go, s.cycleAt a), queue := rest }).strandSymbol n a (cmdSymbol p)
  | _, _, _ => s

def State.queueCmds (s : State) (n : Nat) (l : List (Nat × Bool)) : State :=
  (s.setStrand n { s.strand n with queue := (s.strand n).queue ++ l }).pumpCmd n

/-- The register writes of one driver (R280, R293, R298): levels, then phase and IFS of each channel. -/
def driverWrites (v : View) (n a g0 q : Nat) : List (Nat × Bool) :=
  let l := max 1 (vNat v Obj.TILE_LAMPS 0 0)
  let wr (reg value : Nat) : Nat × Bool := (cmdPayload a false reg value, false)
  (List.range 7).map (fun i => wr (0x11 + i) (vNat v Obj.SCAN_PRE_VOLT 0 i))
    ++ (List.range q).flatMap fun c =>
      let g := g0 + c
      let phase := (g * vNat v Obj.SCAN_LADDER_STEP 0 0 + n * vNat v Obj.SCAN_LADDER_SKEW 0 0) %
        max 1 (vNat v Obj.SCAN_LADDER_SPAN 0 0)
      let colour := bits (vNat v Obj.STR_PROF_ORDER (strandProfile v n) 0) (7 - 2 * (g % l)) (6 - 2 * (g % l))
      [wr (0x40 + c) phase, wr (0x80 + c) (vNat v Obj.LAMP_IFS 0 colour)]

/-- DRIVER_REG_WRITE: every driver that is both found and in the profile. -/
def State.writeDrivers (s : State) (n : Nat) : State :=
  let qs := profileChannels s.rdAt (strandProfile s.rdAt n)
  let k := min qs.length (s.natAt Obj.STR_FOUND 0 n)
  s.queueCmds n ((List.range k).flatMap fun i =>
    driverWrites s.rdAt n (i + 1) (sumNat (qs.take i)) (qs.getD i 0))

/-- A CMD ended: acknowledged (1), not acknowledged (2) or timed out (3). -/
def State.endCmd (s : State) (n result : Nat) (value : Option Nat) : State :=
  match (s.strand n).cmd with
  | none => s
  | some (_, go, _) =>
    let s := s.setStrand n { s.strand n with cmd := none }
    let s := if result = 1 then s else (s.bump Obj.STR_CMD_FAILS).raise 0x4B n result
    let s := if go then
        let s := s.wr Obj.STR_DRV_RESULT result
        match value with
        | some v => s.wr Obj.STR_DRV_VALUE v
        | none => s
      else s
    s.pumpCmd n

/-- CMD_RETURN: a CMD is back on STI. One that fails its check is discarded and counted (R261), and its CMD stays out until
its time is over (R279). -/
def cmdReturn (n : Nat) (symbol : List CellSample) (s : State) : State :=
  match (s.strand n).cmd with
  | some (p, _, _) =>
    if !s.isTile then s
    else match (readSymbol 3 36 symbol).filter (crc4Ok 36) with
    | some w => s.endCmd n (if bit w 28 then 1 else 2) (if bit w 28 && bit p 29 then some (bits w 19 4) else none)
    | none => s.bump Obj.STR_CHECK_ERRORS
  | none => s

def execCmdReturn (t : Cyc) (strand : Nat) (symbol : List CellSample) (s : State) : Host.Outcome State Fault Refusal :=
  s.run t (cmdReturn strand symbol)

/-- DRIVER_CMD_TIMEOUT: not returned within 10 us. -/
def driverCmdTimeout (n : Nat) (s : State) : State :=
  match (s.strand n).cmd with
  | some (_, _, t0) => if s.isTile ∧ t0 + us 10 ≤ s.now then s.endCmd n 3 none else s
  | none => s

def execDriverCmdTimeout (t : Cyc) (strand : Nat) (s : State) : Host.Outcome State Fault Refusal :=
  s.run t (driverCmdTimeout strand)

/-- STR_DRV_GO: 1 read, 2 write, with STR_DRV_TARGET, STR_DRV_REG and STR_DRV_VALUE. -/
def State.drvGo (s : State) (read : Bool) : State :=
  let tgt := s.nat Obj.STR_DRV_TARGET
  let p := cmdPayload (bits tgt 5 0) read (s.nat Obj.STR_DRV_REG) (if read then 0 else s.nat Obj.STR_DRV_VALUE)
  (s.wr Obj.STR_DRV_RESULT 0).queueCmds (bits tgt 15 8) [(p, true)]

/-! ### Enumeration (R278) -/

/-- A waiting ENUM leaves when it has a place. -/
def State.pumpEnum (s : State) (n : Nat) : State :=
  match (s.strand n).enumWait, s.strandPlace n 16 with
  | true, some a => (s.setStrand n { s.strand n with enumWait := false }).strandSymbol n a enumSymbol
  | _, _ => s

/-- What waits for a place on the enabled strands leaves where it finds one. -/
def State.pumpStrands (s : State) : State :=
  (enabledStrands s.rdAt).foldl (fun s n => (s.pumpEnum n).pumpCmd n) s

/-- ENUM with COUNT 1 on every strand in force that has drivers configured. -/
def State.enumStrand (s : State) (n : Nat) : State :=
  if strandOn s.rdAt n && !(profileChannels s.rdAt (strandProfile s.rdAt n)).isEmpty then
    (s.setStrand n { s.strand n with enumAt := some s.now, enumWait := true }).pumpEnum n
  else s

def State.enumAll (s : State) : State :=
  let s := (enabledStrands s.rdAt).foldl (fun s n => s.enumStrand n) s
  s.setSeq { s.seq with enumAt := some s.now }

/-- STR_ENUM: the strands enumerate afresh. -/
def State.strEnum (s : State) : State :=
  let s := (enabledStrands s.rdAt).foldl (fun s n => s.setStrand n { s.strand n with known := false }) s
  (enabledStrands s.rdAt).foldl (fun s n => s.showStrand n) s.enumAll

/-- ENUM_PERIODIC: 1 s after the last. -/
def enumPeriodic (s : State) : State :=
  match s.seq.enumAt with
  | some t0 => if s.isTile && s.dataRuns && decide (t0 + seconds 1 ≤ s.now) then s.enumAll else s
  | none => s

def execEnumPeriodic (t : Cyc) (s : State) : Host.Outcome State Fault Refusal := s.run t enumPeriodic

/-- The drivers that a returned COUNT says were found; for a COUNT of 0, which no chain returns, R278 states no number (free,
log 3). -/
def State.driversFound (s : State) (count : Nat) : Nat × State :=
  if count = 0 then (s.freeVal % 256, s.used) else (count - 1, s)

/-- ENUM_RETURN: STR_FOUND, the count fault, and the registers of drivers newly addressed. A symbol that fails its check is
discarded and counted (R261). -/
def enumReturn (n : Nat) (symbol : List CellSample) (s : State) : State :=
  let x := s.strand n
  if !s.isTile || x.enumAt.isNone then s
  else match (readSymbol 4 12 symbol).bind checkComplement with
  | none => s.bump Obj.STR_CHECK_ERRORS
  | some count =>
    let was := s.natAt Obj.STR_FOUND 0 n
    let (found, s) := s.driversFound count
    let d := (profileChannels s.rdAt (strandProfile s.rdAt n)).length
    let s := (s.setStrand n { x with enumAt := none, known := true }).wrAt Obj.STR_FOUND 0 n found
    let s := if found = d then s.hold 0x49 n false else s.raiseHeld 0x49 n found
    let s := if found ≠ was ∨ !x.known then s.writeDrivers n else s
    s.showStrand n

def execEnumReturn (t : Cyc) (strand : Nat) (symbol : List CellSample) (s : State) : Host.Outcome State Fault Refusal :=
  s.run t (enumReturn strand symbol)

/-! ### HALT (R275, R306) -/

/-- Every SCN output goes inactive, within 100 ns of the last HALT, and stays so until a scan shows valid codes (R306). -/
def State.scnInactive (s : State) (at_ : Int) : State :=
  if s.seq.off then s else ((s.setSeq { s.seq with off := true }).wr Obj.SCAN_STATE 2).send (.scnOff at_)

/-- HALT on one strand: the frame in progress ends, and none follows until it resumes. Where it is the last of the enabled
strands to halt, SCN goes inactive. -/
def State.haltStrand (s : State) (n : Nat) : State :=
  if strandOn s.rdAt n then
    let a := s.haltPlace n
    let s := ((s.setStrand n { s.strand n with halted := true, sent := none, shown := false }).strandSymbol n a
      haltSymbol).showStrand n
    if (enabledStrands s.rdAt).all fun k => (s.strand k).halted then s.scnInactive a else s
  else s

/-- HALT on every enabled strand, with SCN inactive. -/
def State.haltAllStrands (s : State) : State :=
  if s.isTile then ((enabledStrands s.rdAt).foldl (fun s n => s.haltStrand n) s).scnInactive s.wall18 else s

/-- A strand that a reaction or the thermal shutdown halts (R391, R401). -/
def State.strandHeld (s : State) (n : Nat) : Bool :=
  s.flt.haltAll || s.mods.thermal.shutdown || s.flt.haltStrands.contains n

/-- At a boundary, strands whose halt has been released resume (R401). -/
def State.strandsResume (s : State) : State :=
  if s.isTile then
    (enabledStrands s.rdAt).foldl (fun s n =>
      if (s.strand n).halted && !s.strandHeld n then
        (s.setStrand n { s.strand n with halted := false }).showStrand n
      else s) s
  else s

/-! ### What applied sets do -/

/-- What applied sets do to the strands: newly enabled ones enumerate, halted where a halt is in force, disabled ones are
forgotten, and changed register values are written (R278, R280). -/
def State.strandsApplied (s old : State) : State :=
  if !s.isTile then s
  else
    (List.range 256).foldl (fun s n =>
      let was := strandOn old.rdAt n
      let is := strandOn s.rdAt n
      if !was && !is then s
      else if !is then
        (((s.setStrand n {}).wrAt Obj.STR_STATE 0 n 0).hold 0x46 n false).hold 0x49 n false
      else if !was then
        let s := (s.setStrand n { s.strand n with known := false }).enumStrand n
        let s := if s.seq.enumAt.isNone then s.setSeq { s.seq with enumAt := some s.now } else s
        if s.strandHeld n then s.haltStrand n else s.showStrand n
      else
        let writes (v : View) : List (Nat × Bool) :=
          let qs := profileChannels v (strandProfile v n)
          (List.range qs.length).flatMap fun i => driverWrites v n (i + 1) (sumNat (qs.take i)) (qs.getD i 0)
        (if writes old.rdAt = writes s.rdAt then s else s.writeDrivers n).showStrand n) s

/-! ### The scan (R229, R230, R263 to R269, R288 to R291, R305, R306) -/

/-- The strand frame of a drive buffer on one strand: header, shares, slots (R266); a module in service takes width 0
(R381). -/
def strandFrame (v : View) (dark : Nat → Nat → Bool) (b : DriveBuf) (k n : Nat) : List Cell :=
  let qs := profileChannels v (strandProfile v n)
  let rows := scanRows b.scan
  let shares := (List.range qs.length).flatMap fun i =>
    let g0 := sumNat (qs.take i)
    let q := qs.getD i 0
    dataCells 16 (shareHeader (i + 1) q) ++ (List.range rows).flatMap fun r => (List.range q).flatMap fun c =>
      let l := lampAt v n (g0 + c) r
      let code : Code := look {} (lampKey l.1 l.2.1 l.2.2) b.codes
      dataCells 24 (driveWord (if dark l.1 l.2.1 then { code with w := 0, probe := false } else code))
  symbolCells 1 60 (frameHeader k qs.length b.scan (passes b.rate b.scan) (widthUnit b.rate b.scan)) ++ shares
    ++ (List.range qs.length).flatMap fun _ => dataCells 32 emptySlot

/-- Probes in a strand frame (SCAN_PROBES). -/
def strandProbes (v : View) (b : DriveBuf) (n : Nat) : Nat :=
  let qs := profileChannels v (strandProfile v n)
  ((List.range (scanRows b.scan)).flatMap fun r => (List.range (sumNat qs)).filter fun g =>
    let l := lampAt v n g r
    (look ({} : Code) (lampKey l.1 l.2.1 l.2.2) b.codes).probe).length

/-- The configuration that frame k was latched with; the one in force where it is no longer kept. -/
def State.confOf (s : State) (k : Nat) : List (Nat × Int) :=
  match s.lamp.latches.find? fun l => l.frame == k with
  | some l => l.conf
  | none => s.dict

/-- A pixel in the rectangle of a module whose service has taken force (R381). -/
def State.darkAt (s : State) (x y : Nat) : Bool :=
  (List.range 16).any fun m => (s.module m).dark && s.inModule s.rdAt m x y

/-- STRAND_FRAME_SEND on one strand: data cell j of the frame leaves `cellTime` j after the scan start (R263). -/
def State.sendStrand (s : State) (k : Nat) (b : DriveBuf) (v : View) (n : Nat) : State :=
  let x := s.strand n
  if x.halted then s
  else
    let w := strandFrame v s.darkAt b k n
    let d := (profileChannels v (strandProfile v n)).length
    let s := s.setStrand n { x with sent := some ⟨k, s.now, d, w.length⟩, shown := true, broke := false }
    (s.addTo Obj.SCAN_PROBES 0 0 (strandProbes v b n)).send (.strand n s.seq.start w)

/-- The zones start to collect the status words of this scan's frames (R326). -/
def State.collectHeadroom (s : State) (strands : List Nat) : State :=
  (List.range 8).foldl (fun s z =>
    s.setZone z { s.zone z with
      waiting := strands.filter (fun n => s.natAt Obj.DAMP_STRAND_ZONE 0 n == z), least := none }) s

/-- The current readings of the scan that ends belong to the frame it presented (R335). -/
def State.closeScanCurrent (s : State) : State :=
  (List.range 8).foldl (fun s z =>
    let x := s.zone z
    s.setZone z { x with iScan := (0, 0), iDone := s.seq.frame.map fun f => (f, x.iScan) }) s

/-! Showings of calibration patterns (R340) -/

def State.setCal (s : State) (c : Cal) : State := s.setMods { s.mods with cal := c }

/-- CAL_SHOWN_FROM, CAL_SHOWN_TO and CAL_SHOWN_TEMP of an index. -/
def State.showShowing (s : State) (p : Nat) : State :=
  match s.mods.cal.shown.find? fun q => q.1 == p with
  | none => s
  | some (_, x) =>
    let half (t : Int) : Nat := ((roundAway t 256) % 65536).toNat
    let s := (s.wrAt Obj.CAL_SHOWN_FROM 0 p (time96 x.start : Nat)).wrAt Obj.CAL_SHOWN_TO 0 p
      (match x.stop with | some e => (time96 e : Nat) | none => ((2 ^ 96 - 1 : Nat) : Int))
    s.wrAt Obj.CAL_SHOWN_TEMP 0 p
      (half x.least * 65536 + half x.most / 2 * 2 + (if x.trimmed then 1 else 0) : Nat)

def State.setShowing (s : State) (p : Nat) (x : Showing) : State :=
  (s.setCal { s.mods.cal with shown := (p, x) :: s.mods.cal.shown.filter fun q => q.1 != p }).showShowing p

/-- The running showing sees the module's temperature. -/
def State.showTheta (s : State) : State :=
  match s.mods.cal.showing, (s.module s.mods.cal.module).theta with
  | some p, some th =>
    match s.mods.cal.shown.find? fun q => q.1 == p with
    | some (_, x) => s.setShowing p { x with least := min x.least th, most := max x.most th }
    | none => s
  | _, _ => s

/-- The doses of the lamps that a colour's step-0 pattern lights, as its showing starts (R344). -/
def State.takeDoses (s : State) (m p : Nat) : State :=
  if p = 0 ∨ (p - 1) % 8 ≠ 0 then s
  else
    let c := (p - 1) / 8
    let x0 := s.natAt Obj.MOD_X0 m 0
    let y0 := s.natAt Obj.MOD_Y0 m 0
    let keys := (List.range (s.module m).height).flatMap fun y => (List.range (s.module m).width).map fun x =>
      lampKey (x0 + x) (y0 + y) c
    s.setCal { s.mods.cal with doses := keys.foldl (fun d k =>
      put 0 k ((s.lampOf k).table * 2 ^ 24 + (s.lampOf k).dose) d) s.mods.cal.doses }

/-- A scan starts that presents frame k, with pattern `pat`; `old` is the scan that ends (R340). -/
def State.showPattern (s : State) (old : Scan) (k : Nat) (pat : Option (Nat × Nat)) : State :=
  let cal := s.mods.cal
  let now := s.seq.start.toNat
  let ends := (old.start + ns18 (passes old.rate old.ratio * (scanRows old.ratio * 1160) : Nat)).toNat
  let s := match cal.showing with
    | some q =>
      if pat = some (cal.module, q) then s
      else
        let s := s.setCal { s.mods.cal with showing := none }
        match s.mods.cal.shown.find? fun e => e.1 == q with
        | some (_, x) => s.setShowing q { x with stop := some ends }
        | none => s
    | none => s
  match pat with
  | none => s
  | some (m, p) =>
    let s := if s.mods.cal.showing = some p then s
      else
        let th := (s.module m).theta.getD 0
        ((s.setCal { s.mods.cal with showing := some p }).takeDoses m p).setShowing p
          { start := now, stop := none, least := th, most := th, trimmed := false }
    if s.mods.cal.trims.contains k then
      match s.mods.cal.shown.find? fun e => e.1 == p with
      | some (_, x) => s.setShowing p { x with trimmed := true }
      | none => s
    else s

/-- A tile without an address drives no lamp, and one whose address has no enabled entry stays dark (R125). -/
def State.driving (s : State) : Bool := decide (2 ≤ s.nat Obj.TILE_STATE)

/-- SCAN_START at boundary WFC plus TIME_SCAN_OFFSET; symbols that waited for a place find one. A dark tile starts none. -/
def scanStart (s : State) : State :=
  match s.time.sched with
  | none => s
  | some c =>
    let j := s.nat Obj.WFC
    let start := c.instant j + ns18 (s.nat Obj.TIME_SCAN_OFFSET)
    if !s.isTile || !s.mods.lit || !s.dataRuns || decide ((s.wall18 : Int) < start) || s.seq.boundary == some j then s
    else if !s.driving then ((s.setSeq { s.seq with boundary := none, frame := none }).wr Obj.SCAN_STATE 0).pumpStrands
    else
      let frame := if 3 ≤ j then some (j - 3) else none
      let conf := match frame with | some f => s.confOf f | none => s.dict
      let v := confView conf
      let strands := enabledStrands s.rdAt
      let off := s.seq.off && !strands.any fun n => (s.strand n).shown
      let q := s.seq
      let s := s.closeScanCurrent
      let s := s.setSeq { s.seq with boundary := some j, frame := frame, rate := viewRate v, ratio := viewScan v,
                                     conf := conf, start := start, pass := 0, off := off }
      let s := s.wr Obj.SCAN_STATE (if off then 2 else 1)
      let shown := frame.bind fun f => s.lamp.latches.find? fun l => l.frame == f
      let s := s.showPattern q (frame.getD 0) (shown.bind (·.pattern))
      let s : State := match s.lamp.deadline with
        | none => s
        | some k =>
          let b : DriveBuf := look {} (k % 3) s.lamp.bufs
          let vk := confView (s.confOf k)
          let on := (enabledStrands vk).filter fun n => strandOn s.rdAt n
          let s := on.foldl (fun (s : State) n => s.sendStrand k b vk n) s
          s.collectHeadroom (on.filter fun n => (s.strand n).sent.isSome)
      s.pumpStrands

def execScanStart (t : Cyc) (s : State) : Host.Outcome State Fault Refusal := s.run t scanStart

/-- The visits of pass i (R263, R288 to R290). At 1:1 the row has no edge between the first visit of pass 0 and the last of pass
P - 1, and while SCN is held inactive no row has one (R306). -/
def passVisits (v : View) (rate ratio i : Nat) (off : Bool) : List Visit :=
  let rows := scanRows ratio
  let p := passes rate ratio
  let ref : Int := 640000 + vNat v Obj.SCAN_SCN_DELAY 0 0
  let lead : Int := vNat v Obj.SCAN_ROW_LEAD 0 0 * 1000
  let lag : Int := vNat v Obj.SCAN_ROW_LAG 0 0 * 1000
  (List.range rows).map fun k =>
    let next := vNat v Obj.SCAN_ROW_ORDER 0 ((k + 1) % rows)
    let last := i + 1 == p && k + 1 == rows
    { row := vNat v Obj.SCAN_ROW_ORDER 0 k, slot := rowSymbol last next (vNat v Obj.SCAN_ROW_PRE 0 next),
      rise := if off || rows = 1 && i ≠ 0 then none else some (ref - lead),
      fall := if off || rows = 1 && !last then none else some (ref + 1000000 + lag) }

/-- PASS_START: pass i of the scan, at the scan start plus i x s x 1,160 ns; a pass that would run past the next scan
start, with the TIME_SCAN_OFFSET in force at its boundary, is not driven. The servo corrects by one phase step, and an error
beyond one tick in the frame tail by one tick, which the single tail cell of a frame can carry (R230, R260). `level` is that of
an asserted SCN output (R289); every other output is at the opposite one. -/
def passStart (err : Int) (s : State) : State :=
  let q := s.seq
  let len : Int := ns18 (scanRows q.ratio * 1160 : Nat)
  let at_ := q.start + q.pass * len
  let fits := match q.boundary.bind s.nextScan with | some e => decide (at_ + len ≤ e) | none => true
  if !s.isTile || q.boundary.isNone || !s.dataRuns || !s.driving || decide (passes q.rate q.ratio ≤ q.pass) || !fits
      || decide ((s.wall18 : Int) < at_) then s
  else
    let s := (s.setSeq { q with pass := q.pass + 1 }).scanPhase err
    let step : Int := if err = 0 then 0 else if 0 < err then -1 else 1
    let tail : Int := if q.pass + 1 = passes q.rate q.ratio ∧ 2500 < err.natAbs then step else 0
    let v := confView q.conf
    s.send (.scan q.pass step tail (if vNat v Obj.SCAN_SCN_POLARITY 0 0 = 1 then 0 else 1)
      (passVisits v q.rate q.ratio q.pass q.off))

def execPassStart (t : Cyc) (err : Int) (s : State) : Host.Outcome State Fault Refusal := s.run t (passStart err)

/-! ### Headroom (R326) and module temperatures (R387, R388) -/

/-- The last frame that a zone waited for is back. -/
def State.settleHeadroom (s : State) (z : Nat) : State :=
  let x := s.zone z
  match x.least with
  | some h =>
    let s := ((s.setZone z { x with noStatus := 0, held := false }).wrAt Obj.ZONE_HEADROOM z 0 h).hold 0x62 z false
    let low := decide (h < s.natAt Obj.DAMP_HEADROOM_MIN z 0)
    (if low then s.raise 0x61 z h else s).hold 0x61 z low
  | none =>
    let n := x.noStatus + 1
    let s := s.setZone z { x with noStatus := n, held := true }
    if n = 16 then s.raiseHeld 0x62 z 0 else s

/-- A strand's frame has come back, or is lost: its valid HEADROOM codes enter its zone. -/
def State.headroomFrom (s : State) (n : Nat) (codes : List Nat) : State :=
  let z := s.natAt Obj.DAMP_STRAND_ZONE 0 n
  let x := s.zone z
  if x.waiting.contains n then
    let least := codes.foldl (fun m c => some (match m with | some q => min q c | none => c)) x.least
    let s := s.setZone z { x with waiting := x.waiting.filter (fun k => k != n), least := least }
    if (s.zone z).waiting.isEmpty then s.settleHeadroom z else s
  else s

/-- The bound modules that hold a lamp of driver i of strand n. -/
def State.driverModules (s : State) (n i : Nat) : List Nat :=
  let v := s.rdAt
  let qs := profileChannels v (strandProfile v n)
  let g0 := sumNat (qs.take i)
  s.boundModules.filter fun m => (List.range (qs.getD i 0)).any fun c => (List.range (scanRows s.scan)).any fun r =>
    let l := lampAt v n (g0 + c) r
    s.inModule v m l.1 l.2.1

/-- A valid TEMP of driver i (from 0) of strand n. -/
def State.takeTemp (s : State) (n i temp : Nat) : State :=
  (s.driverModules n i).foldl (fun s m =>
    let x := s.module m
    let key := n * 32 + i
    let temps := insertAt key ((temp : Int) - 64) (drop key x.temps)
    ((s.setModule m { x with temps := temps, tempAt := some s.now, lost := false }).wrAt Obj.THERM_MOD_STATE m 0 1).hold
      0x75 m false) s

/-- MODULE_TEMP_UPDATE: x_m in 2^-8 of 0.125 degC over the module's drivers as they are mapped now, and the filter of R387. -/
def State.filterTemp (s : State) (m : Nat) : State :=
  let x := s.module m
  let temps := x.temps.filter fun q => (s.driverModules (q.1 / 32) (q.1 % 32)).contains m
  if !x.bound || x.lost || temps.isEmpty then s
  else
    let mean := roundAway (sumInt (temps.map (·.2)) * 2048) temps.length + s.rdAt Obj.THERM_MOD_OFFSET m 0 * 256
    let th := match x.theta with
      | some q => q + (mean - q) / 2 ^ (s.nat Obj.THERM_MOD_SHIFT)
      | none => mean
    let sets := x.setsInUse
    let margin : Int := s.nat Obj.LAMP_TEMP_MARGIN * 2048
    let out := decide (th < (sets.getD 0 nominalSet).temp * 256 - margin)
      || decide ((sets.getD 2 nominalSet).temp * 256 + margin < th)
    let s := if out && !s.flt.conds.contains (0x42 * 65536 + m) then s.raise 0x42 m 0 else s
    ((s.setModule m { x with theta := some th }).wrIn Obj.THERM_MOD_TEMP m 0 (roundAway th 256)).hold 0x42 m out

/-- A strand frame is no longer out; with the last of a scan the module temperatures are filtered (log 29). -/
def State.strandBack (s : State) (n : Nat) (codes : List Nat) : State :=
  let s := (s.setStrand n { s.strand n with sent := none }).headroomFrom n codes
  if (enabledStrands s.rdAt).any fun k => (s.strand k).sent.isSome then s
  else (s.boundModules.foldl (fun s m => s.filterTemp m) s).showTheta

/-! ### SCAN_OPEN_TABLE (R304) -/

def openTable (s : State) (j : Nat) : Nat := s.natAt Obj.SCAN_OPEN_TABLE 0 j

/-- OPEN_LAMP_RECORD for the lamp (x, y, c). -/
def State.openLamp (s : State) (n x y c : Nat) : State :=
  let place := (x * 512 + y) * 4 + c
  match (List.range 256).find? fun j => bit (openTable s j) 8 && openTable s j / 4096 == place with
  | some j =>
    let e := openTable s j
    s.wrAt Obj.SCAN_OPEN_TABLE 0 j (if e % 256 = 255 then e else e + 1 : Nat)
  | none =>
    match (List.range 256).find? fun j => !bit (openTable s j) 8 with
    | some j => (s.wrAt Obj.SCAN_OPEN_TABLE 0 j (place * 4096 + 257 : Nat)).bump Obj.SCAN_OPEN_COUNT
    | none => (s.bump Obj.SCAN_OPEN_OVERFLOW).raise 0x4C n 0

/-- SCAN_OPEN_CLEAR of one entry, and of all. -/
def State.openClear (s : State) (j : Nat) : State :=
  if bit (openTable s j) 8 then
    (s.wrAt Obj.SCAN_OPEN_TABLE 0 j 0).wr Obj.SCAN_OPEN_COUNT (s.nat Obj.SCAN_OPEN_COUNT - 1 : Nat)
  else s
def State.openClearAll (s : State) : State := (List.range 256).foldl (fun s j => s.openClear j) s

/-- Every entry of a module is freed when its binding changes. -/
def State.openClearModule (s : State) (m : Nat) : State :=
  (List.range 256).foldl (fun s j =>
    let e := openTable s j
    if s.inModule s.rdAt m (bits e 31 23) (bits e 22 14) then s.openClear j else s) s

/-! ### Strand frames back (R282, R285) -/

/-- One status slot of driver i (from 0). -/
def State.statusSlot (s : State) (n i : Nat) (w : Option Nat) : State :=
  match w with
  | none => (s.bump Obj.STR_STATUS_MISSING).raise 0x48 n (i + 1)
  | some w =>
    if !slotOk w then (s.bump Obj.STR_STATUS_MISSING).raise 0x48 n (i + 1)
    else
      let s := (s.wrAt Obj.STR_DRV_STATUS i n w).takeTemp n i (bits w 25 18)
      let s := if bit w 4 then (s.bump Obj.STR_CHECK_ERRORS).raise 0x47 n (i + 1) else s
      if bit w 5 then
        let s := (s.bump Obj.STR_OPEN_REPORTS).raise 0x4A n (bits w 17 6)
        let v := s.rdAt
        let qs := profileChannels v (strandProfile v n)
        let ch := bits w 17 12
        let row := bits w 11 6
        if ch < qs.getD i 0 ∧ row < scanRows s.scan then
          let l := lampAt v n (sumNat (qs.take i) + ch) row
          s.openLamp n l.1 l.2.1 l.2.2
        else s
      else s

/-- The status slots of a returned frame; none for one that a cell is missing from or invalid in. -/
def returnedSlots (r : StrandReturn) (f : SentFrame) : List (Option Nat) :=
  (List.range f.drivers).map fun i =>
    let l := (r.cells.drop (f.cells - 32 * f.drivers + 32 * i)).take 32
    if l.length = 32 then readWord l else none

/-- STRAND_FRAME_RETURN. -/
def strandFrameReturn (n : Nat) (r : StrandReturn) (s : State) : State :=
  match (s.strand n).sent with
  | none => s
  | some f =>
    if !s.isTile then s
    else
      let slots := returnedSlots r f
      let s := s.wrIn Obj.STR_LOOP 0 n r.loop
      let s := if strandHeaderOk r.cells then s else (s.bump Obj.STR_CHECK_ERRORS).raise 0x47 n 0
      let s := slots.zipIdx.foldl (fun s q => s.statusSlot n q.2 q.1) s
      let codes := ((slots.filterMap id).filter slotOk).map fun w => bits w 31 26
      let x := s.strand n
      let s := if x.broke then s else (s.setStrand n { x with broken := false }).hold 0x46 n false
      (s.strandBack n codes).showStrand n

def execStrandFrameReturn (t : Cyc) (strand : Nat) (r : StrandReturn) (s : State) : Host.Outcome State Fault Refusal :=
  s.run t (strandFrameReturn strand r)

/-- BREAK on STI[n] (R277, R285); one that fails its check is discarded and counted (R261). -/
def breakEffect (n : Nat) (symbol : List CellSample) (s : State) : State :=
  if s.isTile && strandOn s.rdAt n then
    match (readSymbol 7 12 symbol).bind checkComplement with
    | some a =>
      let s := s.setStrand n { s.strand n with broken := true, broke := true }
      ((s.wrAt Obj.STR_BREAK_AT 0 n a).raiseHeld 0x46 n a).showStrand n
    | none => s.bump Obj.STR_CHECK_ERRORS
  else s

def execBreak (t : Cyc) (strand : Nat) (symbol : List CellSample) (s : State) : Host.Outcome State Fault Refusal :=
  s.run t (breakEffect strand symbol)

/-- When the last of a frame's cells should be back, in cycles after its lead left (R282). -/
def State.frameDue (s : State) (n cells : Nat) : Cyc :=
  let loop := if s.natAt Obj.STR_LOOP 0 n = 0 then 200 * s.natAt Obj.STR_FOUND 0 n else s.natAt Obj.STR_LOOP 0 n
  ceilDiv ((cellTime (cells - 1) + 10) * 30 + loop * 3) 20

/-- STRAND_RETURN_TIMEOUT: 1 us past the expected time. -/
def strandReturnTimeout (n : Nat) (s : State) : State :=
  match (s.strand n).sent with
  | some f =>
    if s.isTile ∧ f.at_ + s.frameDue n f.cells + us 1 ≤ s.now then
      let x := s.strand n
      let s := if x.broke then s else s.wrAt Obj.STR_BREAK_AT 0 n 0xFE
      let s := (s.setStrand n { x with broken := true }).raiseHeld 0x46 n (s.natAt Obj.STR_BREAK_AT 0 n)
      (s.strandBack n []).showStrand n
    else s
  | none => s

def execStrandReturnTimeout (t : Cyc) (strand : Nat) (s : State) : Host.Outcome State Fault Refusal :=
  s.run t (strandReturnTimeout strand)

/-- MODULE_TEMP_STALE (R388). -/
def moduleTempStale (m : Nat) (s : State) : State :=
  let x := s.module m
  let t0 := x.tempAt.getD x.boundAt
  if s.isTile ∧ x.bound ∧ ¬ x.lost ∧ t0 + ms (s.nat Obj.THERM_MOD_STALE) ≤ s.now then
    ((s.setModule m { x with lost := true }).wrAt Obj.THERM_MOD_STATE m 0 2).raiseHeld 0x75 m 0
  else s

def execModuleTempStale (t : Cyc) (module : Nat) (s : State) : Host.Outcome State Fault Refusal :=
  s.run t (moduleTempStale module)

/-! ### Figures of the mode (R299) -/

/-- floor(100 log2(n / d) + 1/2): the greatest g with 2^(2 g - 1) at most (n / d)^200 (R467), for n / d at least 1. -/
def centiLog2 (n d : Nat) : Nat :=
  ((List.range 4096).reverse.find? fun g => decide (2 ^ (2 * g) * d ^ 200 ≤ 2 * n ^ 200)).getD 0

/-- SCAN_PASS_RATE and SCAN_GREY_BITS follow the mode in force. -/
def State.showScan (s : State) : State :=
  let f := wFs s.rate s.scan
  (s.wr Obj.SCAN_PASS_RATE (roundAway (1000000000000 : Int) (scanRows s.scan * 1160))).wr Obj.SCAN_GREY_BITS
    (700 + centiLog2 f.1 f.2 : Nat)

end Sys2Proof.Machine
end

