-- ==== Sys2Proof/Machine/Loops.lean ====
section
/-! DEFINITION. The loop engine, the Damper, MON and TRIM (R309 to R325, R462). -/

namespace Sys2Proof.Machine

def State.loop (s : State) (k : Nat) : LoopSlot := look {} k s.power.slots
def State.setLoopSlot (s : State) (k : Nat) (x : LoopSlot) : State :=
  s.setPower { s.power with slots := put {} k x s.power.slots }
/-- The code of TRIM[n]: LOOP_TRIM_INIT[n] until its slot first samples (R317). -/
def State.trimCode (s : State) (n : Nat) : Nat :=
  if s.power.driven.contains n then (look (0, 0) n s.power.pwm).1 else s.natAt Obj.LOOP_TRIM_INIT 0 n
/-- A slot gives its TRIM output a code; the remainder stands. -/
def State.setTrim (s : State) (n code : Nat) : State :=
  s.setPower { s.power with pwm := put (0, 0) n (code, (look (0, 0) n s.power.pwm).2) s.power.pwm,
                            driven := addMember n s.power.driven }

/-! ### Formats (R310) -/

def q44 : Int := 2 ^ 44
/-- Saturation to the Q4.44 range, and whether it acted. -/
def sat44 (v : Int) : Int × Nat :=
  if v < -(2 ^ 47) then (-(2 ^ 47), 1) else if 2 ^ 47 - 1 < v then (2 ^ 47 - 1, 1) else (v, 0)
def mulCoef (c v : Int) : Int := (c * v + 2 ^ 28) / 2 ^ 29

/-- A loop's period in seconds as num / den: n x 15.625 us, or T / m (R312). -/
def State.loopPeriod (s : State) (k : Nat) : Nat × Nat :=
  let r := s.natAt Obj.LOOP_RATE k 0
  if bit r 15 then ((ratePeriod s.rate).1, (ratePeriod s.rate).2 * max 1 (r % 32768))
  else (r % 32768, 64000)

/-- rate x ts in Q4.44 for a rate in 2^-16 of full scale per second, rounded (log 31). -/
def rateStep (rate : Nat) (p : Nat × Nat) : Int := roundAway (rate * 2 ^ 28 * p.1 : Nat) (max 1 p.2)

/-- The rate limiter of R319. -/
def rampStep (rate : Nat) (p : Nat × Nat) (target value : Int) : Int :=
  let d := target - value
  if rate = 0 ∨ d.natAbs ≤ (rateStep rate p).natAbs then target
  else if 0 < d then value + rateStep rate p else value - rateStep rate p

/-! ### Sample instants (R312) -/

/-- The latest sample instant at or before now (2^-18 ns); none before the first. -/
def State.sampleInstant (s : State) (k : Nat) : Option Nat :=
  let r := s.natAt Obj.LOOP_RATE k 0
  let m := r % 32768
  let w := s.wall18
  if m = 0 then none
  else if bit r 15 then
    match s.time.sched with
    | none => none
    | some c =>
      let b := c.instant (s.nat Obj.WFC)
      let p := period18 s.rate
      let step (j : Nat) : Int := b + j * p.1 / (m * p.2)
      ((List.range m).reverse.find? fun j => decide (step j ≤ w)).map fun j => (step j).toNat
  else some (w / (m * 15625 * 262144) * (m * 15625 * 262144))

/-! ### Damper (R320, R321) -/

/-- The Damper input of zone z from slot destination code `dest`: 1.0 without a slot that drives it. -/
def State.damperInput (s : State) (dest : Nat) : Int :=
  match (List.range 32).find? fun k =>
    s.natAt Obj.LOOP_OUT k 0 == dest && s.natAt Obj.LOOP_IN k 0 != 0xFF && (s.loop k).dest == dest with
  | some k => (s.loop k).out
  | none => q44

def State.damperInputs (s : State) (z : Nat) : List Int :=
  [(s.zone z).op, s.damperInput (0x10 + z), s.damperInput (0x18 + z), s.damperInput (0x20 + z)]

/-- DAMPER_UPDATE: the lowest input wins, the first in order on a tie. -/
def State.damperUpdate (s : State) (z : Nat) : State :=
  let l := s.damperInputs z
  let m := l.foldl min (l.headD 0)
  let win := (l.findIdx? fun v => decide (v ≤ m)).getD 0
  (s.wrAt Obj.DAMP_CEILING z 0 (clampI 0 32768 (roundAway (m * 32768) (2 ^ 44)))).wrAt Obj.DAMP_WINNER z 0 win

/-- OP_RAMP_EVAL: the operator paths, every 125 us while pair C runs (R319, R324). -/
def opRampEval (s : State) : State :=
  if s.isTile && s.configured && s.pairCUp && decide (s.power.opAt + us 125 ≤ s.now) then
    let s := s.setPower { s.power with opAt := s.now }
    (List.range 8).foldl (fun s z =>
      let op := rampStep (s.natAt Obj.DAMP_OP_RATE z 0) (1, 8000) (s.natAt Obj.DAMP_OP_LEVEL z 0 * 2 ^ 29)
        (s.zone z).op
      (s.setZone z { s.zone z with op := op }).damperUpdate z) s
  else s

def execOpRampEval (t : Cyc) (s : State) : Host.Outcome State Fault Refusal := s.run t opRampEval

/-- DAMPER_STAGING_WRITE (R322). -/
def damperStaging (z : Nat) (s : State) : State :=
  if s.isTile && s.pairCUp && decide (z < 8) then
    s.setZone z { s.zone z with staged := s.natAt Obj.DAMP_CEILING z 0 }
  else s

def execDamperStagingWrite (t : Cyc) (zone : Nat) (s : State) : Host.Outcome State Fault Refusal :=
  s.run t (damperStaging zone)

/-! ### LOOP_SAMPLE (R311 to R318, R323) -/

/-- y of a source (Table 13-1); a value beyond Q4.44 is held at its end. -/
def State.loopInput (s : State) (src : Nat) : Int :=
  let v : Int :=
    if src < 0x10 then s.natAt Obj.LOOP_MON_VALUE 0 src * 2 ^ 32
    else if src < 0x18 then (s.zone (src - 0x10)).temp
    else if src < 0x20 then (s.zone (src - 0x18)).cur
    else if src < 0x28 then (s.zone (src - 0x20)).light
    else if src < 0x30 then s.natAt Obj.ZONE_HEADROOM (src - 0x28) 0 * 2 ^ 38
    else (s.loop (src - 0x30)).out
  (sat44 v).1

/-- Coefficient `i` of section `j`, or ki (30), in the active bank. -/
def State.coef (s : State) (k i : Nat) : Int :=
  if s.natAt Obj.LOOP_BANK k 0 = 0 then s.rdAt Obj.LOOP_COEF_B0 k i else s.rdAt Obj.LOOP_COEF_B1 k i

/-- One second-order section: its output, new states, and saturations. -/
def section2 (b0 b1 b2 a1 a2 x : Int) (st : Int × Int) : Int × (Int × Int) × Nat :=
  let v := sat44 (mulCoef b0 x + st.1)
  let s1 := sat44 (mulCoef b1 x - mulCoef a1 v.1 + st.2)
  let s2 := sat44 (mulCoef b2 x - mulCoef a2 v.1)
  (v.1, (s1.1, s2.1), v.2 + s1.2 + s2.2)

/-- The cascade: output, states, saturations. -/
def State.cascade (s : State) (k : Nat) (x : Int) (sec : List (Int × Int)) (n : Nat) :
    Int × List (Int × Int) × Nat :=
  (List.range n).foldl (fun a i =>
    let r := section2 (s.coef k (5 * i)) (s.coef k (5 * i + 1)) (s.coef k (5 * i + 2)) (s.coef k (5 * i + 3))
      (s.coef k (5 * i + 4)) a.1 (sec.getD i (0, 0))
    (r.1, a.2.1 ++ [r.2.1], a.2.2 + r.2.2)) (x, [], 0)

/-- A pending restart, resume or swap takes effect before the sample (R318, R324, R325). -/
def State.enterSample (s : State) (k : Nat) : State :=
  let x := s.loop k
  let x := match x.restart with
    | some v => { x with sec := [], acc := v, out := v, restart := none, resume := false }
    | none => if x.resume then { x with sec := [], acc := x.out, resume := false } else x
  let s := if x.swap then s.wrAt Obj.LOOP_BANK k 0 (1 - s.natAt Obj.LOOP_BANK k 0 : Nat) else s
  s.setLoopSlot k { x with swap := false }

/-- Whether a slot's integrator stands still: R323 for a Damper slot that is not the winner, R326 for a held input. -/
def State.loopFrozen (s : State) (k : Nat) : Bool :=
  let dest := s.natAt Obj.LOOP_OUT k 0
  let z := dest % 8
  let band : Int := s.natAt Obj.LOOP_BAND k 0 * 2 ^ 16
  let c : Int := s.natAt Obj.DAMP_CEILING z 0 * 2 ^ 29
  decide (0x10 ≤ dest ∧ dest < 0x28) && s.natAt Obj.DAMP_WINNER z 0 != dest / 8 - 1
    && decide (band < (s.loop k).out - c)

def State.inputHeld (s : State) (k : Nat) : Bool :=
  let src := s.natAt Obj.LOOP_IN k 0
  decide (0x28 ≤ src ∧ src < 0x30) && (s.zone (src - 0x28)).held

/-- The output of a slot reaches its destination (Table 13-2). -/
def State.deliver (s : State) (k : Nat) : State :=
  let dest := s.natAt Obj.LOOP_OUT k 0
  let s := s.setLoopSlot k { s.loop k with dest := dest }
  if dest < 8 then s.setTrim dest (clampI 0 65535 (roundAway (s.loop k).out (2 ^ 28))).toNat
  else if 0x10 ≤ dest ∧ dest < 0x28 ∧ s.isTile then s.damperUpdate (dest % 8)
  else s

/-- The sample instant that slot k has reached and not yet sampled. -/
def State.loopDue (s : State) (k : Nat) : Option Nat :=
  if 32 ≤ k || !s.configured || !s.pairCUp || s.natAt Obj.LOOP_IN k 0 == 0xFF || (s.loop k).last == s.sampleInstant k then none
  else s.sampleInstant k

/-- Slot k computes the sample of its latest instant (R311). -/
def State.sampleSlot (s : State) (k : Nat) : State :=
  let src := s.natAt Obj.LOOP_IN k 0
  let inst := s.sampleInstant k
  let s := s.enterSample k
  let x := s.loop k
  let p := s.loopPeriod k
  let y := s.loopInput src
  let sp := rampStep (s.natAt Obj.LOOP_SET_RATE k 0) p (s.rdAt Obj.LOOP_SETPOINT k 0 * 2 ^ 16) x.sp
  let e := sat44 (if s.flagAt Obj.LOOP_POL k 0 then y - sp else sp - y)
  let c := s.cascade k e.1 x.sec (s.natAt Obj.LOOP_NSEC k 0)
  let held := s.inputHeld k
  let frozen := s.loopFrozen k
  let lim (r : ObjRow) : Int := s.rdAt r k 0 * 2 ^ 16
  let sum := sat44 (x.acc + mulCoef (s.coef k 30) c.1)
  let acc := if frozen || held then (x.acc, 0)
    else (clampI (lim Obj.LOOP_INT_MIN) (lim Obj.LOOP_INT_MAX) sum.1, sum.2)
  let u0 := sat44 (c.1 + acc.1)
  let u := clampI (lim Obj.LOOP_OUT_MIN) (lim Obj.LOOP_OUT_MAX) u0.1
  let d := sat44 (u - x.out)
  let slew := rateStep (s.natAt Obj.LOOP_OUT_SLEW k 0) p
  let o := sat44 (x.out + if s.natAt Obj.LOOP_OUT_SLEW k 0 = 0 then d.1 else clampI (-slew) slew d.1)
  let sats := e.2 + c.2.2 + acc.2 + u0.2 + d.2 + o.2
  let s := s.setLoopSlot k { x with sec := c.2.1, acc := acc.1, out := o.1, sp := sp, y := y,
                                    last := inst }
  let s := (s.wrIn Obj.LOOP_OUT_VALUE k 0 (roundAway o.1 65536)).wrIn Obj.LOOP_SET_VALUE k 0 (roundAway sp 65536)
  let s := (s.wrIn Obj.LOOP_INPUT_VALUE k 0 (roundAway y 65536)).wrAt Obj.LOOP_STATE k 0
    (if held then 3 else if frozen then 2 else 1)
  let s := (List.range sats).foldl (fun s _ => (s.bump Obj.LOOP_SATS).raise 0x60 k 0) s
  s.deliver k

/-- LOOP_SAMPLE of slot k at a sample instant of its rate. Lower slots with the same instant come first (R315). -/
def loopSample (k : Nat) (s : State) : State :=
  match s.loopDue k with
  | some w =>
    (((List.range k).filter fun i => s.loopDue i == some w).foldl (fun (s : State) i => s.sampleSlot i) s).sampleSlot k
  | none => s

def execLoopSample (t : Cyc) (slot : Nat) (s : State) : Host.Outcome State Fault Refusal := s.run t (loopSample slot)

/-! ### LOOP_SWAP (R325) -/

/-- BUSY when a named slot already waits for a swap. -/
def State.loopSwap (s : State) (mask : Nat) : State × Nat × Bool :=
  let ks := (List.range 32).filter fun k => bit mask k
  if ks.any fun k => (s.loop k).swap then (s, st.BUSY, false)
  else (ks.foldl (fun s k => s.setLoopSlot k { s.loop k with swap := true }) s, st.OK, false)

/-- A coefficient write is refused for the active bank and for one that a pending swap will make active. -/
def State.bankBusy (s : State) (k bank : Nat) : Bool :=
  s.natAt Obj.LOOP_BANK k 0 == bank || (s.loop k).swap

/-! ### Restarts (R317, R318, R324) -/

/-- The value at which acc and out of a restarted slot start (R318): the TRIM code in force over 65,536, 1.0 for a Damper
input, 0 without a destination. -/
def State.restartValue (s : State) (k : Nat) : Int :=
  let dest := s.natAt Obj.LOOP_OUT k 0
  if dest < 8 then s.trimCode dest * 2 ^ 28 else if 0x10 ≤ dest ∧ dest < 0x28 then q44 else 0

/-- The latest sample instant of slot k, where it lies before `from_`: a slot that starts or resumes there has no sample at it. -/
def State.passedInstant (s : State) (k : Nat) (from_ : Int) : Option Nat :=
  (s.sampleInstant k).filter fun w => decide ((w : Int) < from_)

/-- A slot restarts at its first sample from `from_` on (R318), which `State.enterSample` begins with section states 0. An
instant at the boundary itself is such a sample: DESIGN CHOICE (log 159). -/
def State.restartSlot (s : State) (k : Nat) (from_ : Int) : State :=
  let x := s.loop k
  let s := s.setLoopSlot k { x with restart := some (s.restartValue k), last := s.passedInstant k from_ }
  s.wrAt Obj.LOOP_STATE k 0 (if s.natAt Obj.LOOP_IN k 0 = 0xFF then 0 else if s.pairCUp then 1 else 4)

/-- What sets applied at `from_` do to the loops: a change of LOOP_IN, LOOP_OUT, LOOP_NSEC, LOOP_RATE or LOOP_POL restarts. -/
def State.loopsApplied (s old : State) (from_ : Int) : State :=
  let s := (List.range 32).foldl (fun s k =>
    if [Obj.LOOP_IN, Obj.LOOP_OUT, Obj.LOOP_NSEC, Obj.LOOP_RATE, Obj.LOOP_POL].all
        fun r => old.rdAt r k 0 == s.rdAt r k 0 then s
    else s.restartSlot k from_) s
  if s.isTile && s.pairCUp then (List.range 8).foldl (fun s z => s.damperUpdate z) s else s

/-- The configuration comes into force: every slot begins (R317). -/
def State.loopsStart (s : State) : State := (List.range 32).foldl (fun s k => s.restartSlot k s.wall18) s

/-- Pair C enters reset: slots hold; and resumes (R324). -/
def State.loopsHeld (s : State) : State :=
  (List.range 32).foldl (fun s k => if s.natAt Obj.LOOP_IN k 0 = 0xFF then s else s.wrAt Obj.LOOP_STATE k 0 4) s
def State.loopsResume (s : State) : State :=
  (List.range 32).foldl (fun s k =>
    if s.natAt Obj.LOOP_IN k 0 = 0xFF then s
    else (s.setLoopSlot k { s.loop k with resume := true, last := (s.passedInstant k s.wall18).or (s.loop k).last }).wrAt
      Obj.LOOP_STATE k 0 1) s

/-! ### MON (R316, R462) and TRIM (R317) -/

/-- The code of R462 for voltages in any one unit; V_REFP at or below V_REFN is not stated (free, log 3). -/
def State.monCode (s : State) (v p n : Int) : Nat × State :=
  if n < p then ((clampI 0 4095 ((2 * 4096 * (v - n) + (p - n)) / (2 * (p - n)))).toNat, s)
  else (s.freeVal % 4096, s.used)

/-- The zone current input (R313): the current over the granted current, Q4.44. A zone grant of 0 makes the ratio
unstated (free, log 3). -/
def State.currentInput (s : State) (z code : Nat) : State :=
  let x := s.zone z
  let t := periodNs s.rate
  let q := x.grantQ * widthUnit s.rate s.scan * t.2 * 1000
  let cur := code * s.natAt Obj.ZONE_I_SCALE z 0
  if q = 0 then (s.setZone z { x with cur := (s.freeVal : Int) % 2 ^ 47 }).used
  else s.setZone z { x with cur := (sat44 (roundAway (cur * t.1 * 1280000 * 2 ^ 44 : Nat) (4096 * q))).1 }

/-- What a conversion of channel n gives the zones. -/
def State.monZones (s : State) (n code : Nat) : State :=
  (List.range 8).foldl (fun s z =>
    let x := s.zone z
    let s := if s.natAt Obj.ZONE_V_MON z 0 = n then s.setZone z { x with vNow := max x.vNow code } else s
    let x := s.zone z
    if s.natAt Obj.ZONE_I_MON z 0 = n then
      let x := { x with iFrame := (x.iFrame.1 + code, x.iFrame.2 + 1), iScan := (x.iScan.1 + code, x.iScan.2 + 1) }
      (s.setZone z x).currentInput z code
    else s) s

/-- MON_CONVERSION: the next enabled channel, in ascending order, one per microsecond. -/
def monConversion (v p n : Int) (s : State) : State :=
  let on := (List.range 16).filter fun k => bit (s.nat Obj.LOOP_MON_ENABLE) k
  match (on.find? fun k => decide (s.power.monNext ≤ k)).or on.head? with
  | none => s
  | some k =>
    if s.configured && decide (s.power.monAt + us 1 ≤ s.now) then
      let (code, s) := s.monCode v p n
      let s := s.setPower { s.power with monNext := k + 1, monAt := s.now }
      let s := s.wrAt Obj.LOOP_MON_VALUE 0 k code
      if s.isTile then s.monZones k code else s
    else s

def execMonConversion (t : Cyc) (vMon vRefP vRefN : Int) (s : State) : Host.Outcome State Fault Refusal :=
  s.run t (monConversion vMon vRefP vRefN)

/-- What TRIM[n] carries in a period that starts now: driven low until the configuration is in force, THERM_SD_TRIM during a
shutdown (R391). -/
def State.trimNow (s : State) (n : Nat) : Nat :=
  if s.mods.thermal.shutdown then s.natAt Obj.THERM_SD_TRIM 0 n else if s.configured then s.trimCode n else 0

/-- Whether 4,000 CCLK cycles have passed since the last period of TRIM[n] started. -/
def State.trimDue (s : State) (n : Nat) : Bool := s.power.pwmAt.all fun q => q.1 != n || decide (q.2 + 4000 ≤ s.now)

/-- TRIM_PWM_PERIOD: a period starts with its high time in CCLK cycles. -/
def trimPeriod (n : Nat) (s : State) : State :=
  if 8 ≤ n || !s.trimDue n then s
  else
    let q := look (0, 0) n s.power.pwm
    let a := s.trimNow n * 4000 + q.2
    (s.setPower { s.power with
      pwm := put (0, 0) n (q.1, a % 65536) s.power.pwm,
      pwmAt := (n, s.now) :: s.power.pwmAt.filter fun q => q.1 != n }).send (.pin (.trim n) (a / 65536 : Nat))

def execTrimPwmPeriod (t : Cyc) (n : Nat) (s : State) : Host.Outcome State Fault Refusal := s.run t (trimPeriod n)

end Sys2Proof.Machine
end

