-- ==== Sys2Proof/Machine/Power.lean ====
section
/-! DEFINITION. The power arbiter (R326 to R336) and the drive deadline (R253, R254). -/

namespace Sys2Proof.Machine

/-! ### Conversions (R326, R327) -/

/-- V_hi of a zone in 1/4,096 mV. -/
def State.vHi (s : State) (z : Nat) : Nat :=
  (s.zone z).vLast * s.natAt Obj.ZONE_V_SCALE z 0 + s.nat Obj.PWR_V_MARGIN * 4096

/-- WALL_RATE and WALL_SCAN of frame j: with the sets that its boundary will apply (R48, R54, R305). -/
def State.modeFor (s : State) (j : Nat) : Nat × Nat :=
  (viewRate (s.confAt j), viewScan (s.confAt j))

/-- The mode that frame k was computed in. -/
def State.modeOf (s : State) (k : Nat) : Nat × Nat :=
  let v := confView (s.confOf k)
  (viewRate v, viewScan v)

/-- The demand of R327. The common denominator of zone demands in a mode: D = `demandNum` / `demandDen` mW, with q_u / T =
U / (T x 1,280,000) A per charge unit and second. -/
def State.demandDen (s : State) (mode : Nat × Nat) : Nat :=
  1280000 * (periodNs mode.1).1 * s.nat Obj.PWR_RAIL_EFF * 4096
/-- The numerator of D = Q x q_u x V_hi / (T x e) for a zone demand of q charge units (R327). -/
def State.demandNum (s : State) (mode : Nat × Nat) (z q : Nat) : Nat :=
  q * widthUnit mode.1 mode.2 * (periodNs mode.1).2 * s.vHi z * 32768

/-- G_z = floor(P_z x e x T / (V_hi x q_u)) of a grant in mW in a mode (R327); at V_hi 0 the quotient is not stated (free, log 3). -/
def State.grantUnits (s : State) (mode : Nat × Nat) (z mw : Nat) : Nat × State :=
  let t := periodNs mode.1
  let d := 32768 * s.vHi z * t.2 * widthUnit mode.1 mode.2
  if d = 0 then (s.freeVal, s.used) else (mw * s.nat Obj.PWR_RAIL_EFF * t.1 * 1280000 * 4096 / d, s)

/-! ### Sharing a budget (R328) -/

/-- One item of a share: demands are numerators over the share's denominator, the others mW. -/
structure ShareItem where
  floor : Nat
  prot : Nat
  demand : Nat
  cap : Nat
deriving DecidableEq, Repr

/-- The sum at level lam / (k x den) of max(g, min(t, lam)), times k x den; g in mW, t over den. -/
def shareSum (den k lam : Nat) (l : List (Nat × Nat)) : Nat :=
  sumNat (l.map fun p => max (p.1 * den * k) (min (p.2 * k) lam))

/-- fill(t): the largest level within the budget, and the floors of the new values. A fill whose budget is already
exceeded leaves every item as it is (log 32). -/
def fill (den budget : Nat) (l : List (Nat × Nat)) : List Nat :=
  let b := budget * den
  if b < shareSum den 1 0 l then l.map (·.1)
  else
    let points := 0 :: l.map (·.2) ++ l.map fun p => p.1 * den
    let b0 := (points.filter fun x => decide (shareSum den 1 x l ≤ b)).foldl max 0
    let active := (l.filter fun p => decide (p.1 * den ≤ b0) && decide (b0 < p.2)).length
    if active = 0 then l.map fun p => max p.1 (min p.2 b0 / den)
    else
      let lam := b0 * active + (b - shareSum den 1 b0 l)
      l.map fun p => max p.1 (min (p.2 * active) lam / (den * active))

/-- The three fills. -/
def shareBudget (den budget : Nat) (items : List ShareItem) : List Nat :=
  let step (g : List Nat) (t : ShareItem → Nat) : List Nat := fill den budget (List.zip g (items.map t))
  let g := step (items.map (·.floor)) fun i => min i.prot (i.cap * den)
  let g := step g fun i => min i.demand (i.cap * den)
  step g fun i => i.cap * den

/-! ### The tile (R329, R331) -/

/-- Zones in use: an enabled strand names them (R320). -/
def State.zonesUsed (s : State) : List Nat :=
  (List.range 8).filter fun z => (enabledStrands s.rdAt).any fun n => s.natAt Obj.DAMP_STRAND_ZONE 0 n == z

/-- The pending grant comes into force for frame j where its TARGET is reached (R331). -/
def State.adoptGrant (s : State) (j : Nat) : State :=
  match s.power.pendingGrant with
  | some (g, target, mw) =>
    if target ≤ j then s.setPower { s.power with pendingGrant := none, adopted := some (j, g, mw) } else s
  | none => s

/-- The tile grant for a frame about to be computed. -/
def State.grantFor (s : State) : Nat :=
  match s.power.adopted with
  | some (_, _, mw) => mw
  | none => s.nat Obj.PWR_TILE_GRANT

/-- Zone grants for frame j, staged (R329). -/
def State.computeZones (s : State) (j : Nat) : State :=
  let s := s.adoptGrant j
  let zs := s.zonesUsed
  let (k, dm) := match s.lamp.lastDemand with | some q => q | none => (0, [])
  let was := s.modeOf k
  let mode := s.modeFor j
  let items : List ShareItem := zs.map fun z =>
    { floor := 0, prot := s.demandNum was z (dm.getD z (0, 0)).2, demand := s.demandNum was z (dm.getD z (0, 0)).1,
      cap := s.natAt Obj.PWR_ZONE_CAP z 0 }
  let g := shareBudget (s.demandDen was) s.grantFor items
  let s := (List.zip zs g).foldl (fun s p =>
    let (q, s) := s.grantUnits mode p.1 p.2
    s.setZone p.1 { s.zone p.1 with stagedMw := p.2, stagedQ := q }) s
  s.setPower { s.power with computed := some j }

/-- While pair C is in reset, a tile grant lower than the one in force at the restart scales every held zone grant; a higher
one waits (R12). One equal to it, after a lower one, waits as a higher one does: DESIGN CHOICE (log 129). -/
def State.scaleHeld (s : State) (j : Nat) : State :=
  match s.power.pendingGrant with
  | some (_, target, mw) =>
    if target ≤ j ∧ mw < s.sys.grantAtC then
      let s := s.adoptGrant j
      (List.range 8).foldl (fun s z =>
        let h := s.sys.heldGrants.getD z (0, 0)
        s.setZone z { s.zone z with stagedMw := h.1 * mw / s.sys.grantAtC, stagedQ := h.2 * mw / s.sys.grantAtC }) s
    else s
  | none => s

/-- The frame whose drive deadline comes next: the oldest latched one not yet settled. -/
def State.dueFrame (s : State) : Option Latch :=
  (s.lamp.latches.filter fun l => match s.lamp.deadline with | some d => decide (d < l.frame) | none => true).getLast?

/-- DRIVE_DEADLINE of frame k, 20 us before boundary k + 2: the codes settle, and pair C computes the grants of frame
k + 2. -/
def driveDeadline (s : State) : State :=
  match s.dueFrame, s.time.sched with
  | some l, some _ =>
    let j := l.frame + 2
    let due := match s.scheduleFor j with
      | some c => decide (c.instant j ≤ (s.wall18 : Int) + ns18 20000)
      | none => false
    if s.isTile && s.dataRuns && due then
      let s := s.settleCodes l
      let s := s.setLampSt { s.lamp with deadline := some l.frame }
      if s.pairCUp then s.computeZones j else s.scaleHeld j
    else s
  | _, _ => s

/-- STAGING_COPY (R8), the tile grant of frame k, and the zone figures of the frame that ended (Table 13-8). -/
def State.stagingCopy (s : State) (k : Nat) : State :=
  let s := (List.range 8).foldl (fun s z =>
    let x := s.zone z
    let s := s.wrAt Obj.PWR_ZONE_GRANT z 0 x.grantMw
    let s := s.wrIn Obj.ZONE_V z 0 (roundAway (x.vNow * s.natAt Obj.ZONE_V_SCALE z 0 : Nat) 4096)
    let s := if x.iFrame.2 = 0 then s
      else s.wrIn Obj.ZONE_I z 0 (roundAway (x.iFrame.1 * s.natAt Obj.ZONE_I_SCALE z 0 : Nat) (4096 * x.iFrame.2))
    s.setZone z { x with inForce := x.staged, grantMw := x.stagedMw, grantQ := x.stagedQ, vLast := x.vNow, vNow := 0,
                         iFrame := (0, 0) }) s
  match s.power.adopted with
  | some (j, g, mw) =>
    if j ≤ k then
      ((s.setPower { s.power with adopted := none, granted := true }).wr Obj.PWR_TILE_GRANT mw).wr Obj.PWR_GRANT_SEQ g
    else s
  | none => if s.power.granted then s else s.wr Obj.PWR_TILE_GRANT (s.nat Obj.PWR_BOOT_GRANT)

/-- GSEQ order (R330). -/
def newerSeq (a b : Nat) : Bool := decide (1 ≤ (a + 65536 - b) % 65536 ∧ (a + 65536 - b) % 65536 ≤ 32767)

/-- A POWER_GRANT taken at a tile. -/
def State.takeGrant (s : State) (gseq target : Nat) (grants : List Nat) : State :=
  let a := s.nat Obj.TILE_ADDRESS
  let s := (s.setPower { s.power with sinceMsg := 0 }).hold 0x64 0 false
  let newer := match s.power.newest with | some n => newerSeq gseq n | none => true
  if !newer || a = 0 then s
  else match grants[a - 1]? with
  | none => s
  | some mw =>
    let late := match s.power.computed with | some j => decide (target ≤ j) | none => false
    let s := s.setPower { s.power with newest := some gseq, pendingGrant := some (gseq, target, mw) }
    if late then (s.bump Obj.PWR_GRANTS_LATE).raise 0x63 0 0 else s

/-- GRANT_MISSING_TIMEOUT: 64 frames without a POWER_GRANT. -/
def grantMissing (s : State) : State :=
  if s.isTile ∧ 64 ≤ s.power.sinceMsg ∧ ¬ s.flt.held 0x64 = true then s.raiseHeld 0x64 0 0 else s

def execGrantMissingTimeout (t : Cyc) (s : State) : Host.Outcome State Fault Refusal := s.run t grantMissing

/-- POWER_REPORT_SEND at a boundary. -/
def State.sendReport (s : State) : State :=
  match s.lamp.lastDemand with
  | some (k, dm) =>
    if s.isTile && s.pairCUp && s.pairMUp && (s.session 0).isOpen && decide (s.nat Obj.WFC % s.nat Obj.PWR_REPORT_DIV = 0) then
      let mode := s.modeOf k
      let total (f : Nat × Nat → Nat) : Int :=
        roundAway (sumNat ((List.range 8).map fun z => s.demandNum mode z (f (dm.getD z (0, 0))))) (max 1 (s.demandDen mode))
      let l := s.lamp.latches.find? fun l => l.frame == k
      let d := total (·.1)
      let flags : Int := (if s.lamp.resolved then 1 else 0) + (if s.lamp.lastTrim.isEmpty then 0 else 2)
      let s := s.wrIn Obj.PWR_TILE_DEMAND 0 0 d
      s.sendIn 0 (.toSender 0x41 [k, (l.map (·.gseq)).getD 0, d, total (·.2), (l.map (·.tileGrant)).getD 0, flags])
    else s
  | none => s

/-- ZONE_CURRENT_CHECK for the frame whose scan has ended (R335). -/
def State.currentCheck (s : State) : State :=
  (List.range 8).foldl (fun s z =>
    let x := s.zone z
    match x.iDone with
    | none => s
    | some (f, sum, n) =>
      let s := s.setZone z { x with iDone := none }
      match s.lamp.trimmedQ.find? fun q => q.1 == f with
      | none => s
      | some (_, qs) =>
        let v := confView (s.confOf f)
        let t := periodNs (viewRate v)
        let q := qs.getD z 0 * widthUnit (viewRate v) (viewScan v) * t.2
        let cur := sum * s.natAt Obj.ZONE_I_SCALE z 0
        if s.natAt Obj.ZONE_I_MON z 0 ≠ 0xFF ∧ 0 < n
            ∧ q * (100 + s.nat Obj.PWR_I_TOL) * 4096 * n < cur * t.1 * 1280 * 100 then s.raise 0x66 z 0
        else s) s

/-! ### The sender (R332, R333) -/

/-- C_t: PWR_TILE_CAP until the tile's first report. -/
def State.ct (s : State) (c a : Nat) : Nat :=
  let v := s.tile c a
  if v.report.isNone then s.nat Obj.PWR_TILE_CAP else v.ct

/-- The tiles of a feeder, as (chimney, address). -/
def State.feederTiles (s : State) (f : Nat) : List (Nat × Nat) :=
  (List.range 8).flatMap fun c => ((s.mapped c).filter fun a => s.natAt Obj.PWR_TILE_FEEDER c (a - 1) == f).map fun a =>
    (c, a)

/-- The grants of one feeder (R332, R333). -/
def State.feederGrants (s : State) (f : Nat) : List ((Nat × Nat) × Nat) :=
  let tiles := s.feederTiles f
  let fixed := s.nat Obj.PWR_TILE_FIXED * tiles.length
  let budget := s.natAt Obj.PWR_FEEDER_BUDGET 0 f
  let items : List ShareItem := tiles.map fun p =>
    let r := (s.tile p.1 p.2).report
    { floor := s.nat Obj.PWR_BOOT_GRANT, prot := (r.map (·.prot)).getD 0, demand := (r.map (·.demand)).getD 0,
      cap := s.nat Obj.PWR_TILE_CAP }
  let g := List.zip tiles (shareBudget 1 (budget - fixed) items)
  let up := g.filter fun p => decide (s.ct p.1.1 p.1.2 < p.2)
  let others := sumNat ((g.filter fun p => decide (p.2 ≤ s.ct p.1.1 p.1.2)).map fun p => s.ct p.1.1 p.1.2)
  let rise := List.zip (up.map (·.1)) (fill 1 (budget - fixed - others) (up.map fun p => (s.ct p.1.1 p.1.2, p.2)))
  g.map fun p => match rise.find? fun q => q.1 == p.1 with
    | some q => (p.1, q.2)
    | none => p

/-- The grant of every address of a chimney. A tile on a feeder without a budget has no stated grant (free, log 3). -/
def State.chimGrants (s : State) (shares : List ((Nat × Nat) × Nat)) (c : Nat) : List Nat :=
  (List.range (s.natAt Obj.WALL_CHIM_TILES 0 c)).map fun i =>
    match shares.find? fun p => p.1 == (c, i + 1) with
    | some p => p.2
    | none => if s.natAt Obj.PWR_TILE_FEEDER c i = 0xFF then s.nat Obj.PWR_TILE_CAP else s.freeVal % 2 ^ 32

/-- PWR_FEEDER_COMMITTED and PWR_FEEDER_DEMAND. -/
def State.showFeeder (s : State) (f : Nat) : State :=
  let tiles := s.feederTiles f
  let fixed := s.nat Obj.PWR_TILE_FIXED * tiles.length
  let s := s.wrIn Obj.PWR_FEEDER_COMMITTED 0 f (fixed + sumNat (tiles.map fun p => s.ct p.1 p.2) : Nat)
  s.wrIn Obj.PWR_FEEDER_DEMAND 0 f
    (fixed + sumNat (tiles.map fun p => ((s.tile p.1 p.2).report.map (·.demand)).getD 0) : Nat)

/-- FEEDER_SHARE at the boundary at which WFC becomes j: a POWER_GRANT on every configured chimney. -/
def State.feederShare (s : State) (j : Nat) : State :=
  if !s.isSender || !s.pairCUp || !s.configured then s
  else
    let fs := (List.range 16).filter fun f => s.natAt Obj.PWR_FEEDER_BUDGET 0 f != 0
    let shares := fs.flatMap fun f => s.feederGrants f
    let s := shares.foldl (fun s p =>
      if s.ct p.1.1 p.1.2 < p.2 then s.setTile p.1.1 p.1.2 { s.tile p.1.1 p.1.2 with ct := p.2 } else s) s
    let s := s.activeChims.foldl (fun s c =>
      let n := (look 0 c s.power.gseq + 1) % 65536
      let g := s.chimGrants shares c
      let s := s.setPower { s.power with gseq := put 0 c n s.power.gseq,
                                         sentGrants := ((c, n, g) :: s.power.sentGrants).take 512 }
      s.used.toTiles c 0xFF 0x42 (8 + 4 * g.length)
        ([(n : Int), (j + s.nat Obj.PWR_GRANT_LEAD : Nat)] ++ g.map Int.ofNat)) s
    (List.range 16).foldl (fun s f => s.showFeeder f) s

/-- A POWER_REPORT taken at the sender: the first sets C_t to its GRANT; a later one lets C_t fall to the greatest grant
that its GSEQ leaves possible (R333). -/
def State.takeReport (s : State) (c a : Nat) (r : PowerReport) : State :=
  let v := s.tile c a
  let open_ := (s.power.sentGrants.filter fun m => m.1 == c && (m.2.1 == r.gseq || newerSeq m.2.1 r.gseq)).map fun m =>
    m.2.2.getD (a - 1) 0
  let shown := s.power.sentGrants.any fun m => m.1 == c && m.2.1 == r.gseq
  let ct := if v.report.isNone then r.grant else if shown then min v.ct (maxNat open_) else v.ct
  let s := s.setTile c a { v with report := some r, reportWfc := s.nat Obj.WFC, reportMissing := false, ct := ct }
  let s := s.hold 0x65 (c * 256 + a) false
  (List.range 16).foldl (fun s f => s.showFeeder f) s

/-- POWER_REPORT_MISSING: 64 frames without a report from a mapped tile. -/
def reportMissing (c a : Nat) (s : State) : State :=
  let v := s.tile c a
  if s.isSender ∧ (s.mapped c).contains a ∧ ¬ v.reportMissing ∧ v.reportWfc + 64 ≤ s.nat Obj.WFC then
    (s.setTile c a { v with reportMissing := true }).raiseFor 0x65 (c * 256 + a) c a
  else s

def execPowerReportMissing (t : Cyc) (chim tile : Nat) (s : State) : Host.Outcome State Fault Refusal :=
  s.run t (reportMissing chim tile)

end Sys2Proof.Machine
end

