-- ==== Sys2Proof/Machine/Collector.lean ====
section
/-! DEFINITION. The fault collector at work (chapter 17): counting, reactions, clearing, injection, saves and the wall
log. -/

namespace Sys2Proof.Machine

/-! ### Reactions (R401, R402) -/

/-- NOTIFY to every open session but session 0, while pair M runs. The event code is not stated (free, log 3). -/
def State.notifyAll (s : State) (src : Nat) : State :=
  if s.pairMUp then
    ((s.openSlots.filter fun k => k != 0).foldl (fun s' k =>
      s'.sendIn k (.notify k s.freeVal (0x71020000 + src * 256))) s).used
  else s

/-- Reactions that happen once: NOTIFY and RETRAIN, of the bits given. -/
def State.oneShot (s : State) (src unit : Nat) (which : List Nat) : State :=
  let s := if which.contains 7 && s.reactBit src 7 then s.notifyAll src else s
  if which.contains 6 && s.reactBit src 6 && s.named unit then s.openTraining unit else s

/-- The strands that HALT_UNIT names now. -/
def State.haltUnits (s : State) : List Nat :=
  (s.flt.real ++ s.flt.shadow).foldl (fun l q =>
    if q.2.acting && s.reactBit q.1 4 then addMember q.2.unit l else l) []

/-- HALT, ALARM and the pins follow the sources (R401, R404). -/
def State.reconcile (s : State) : State :=
  let units := s.haltUnits
  let all := (s.flt.real ++ s.flt.shadow).any fun q => q.2.acting && s.reactBit q.1 5
  let f := s.flt
  let s := s.setFlt { f with haltStrands := units, haltAll := all }
  let s := (units.filter fun n => !f.haltStrands.contains n).foldl (fun s n => s.haltStrand n) s
  (if all && !f.haltAll then s.haltAllStrands else s).showPins

/-- REACT_CHANGE, and rings emptied where N or the window changed (R397, R402). -/
def State.reactApplied (s old : State) : State :=
  ((List.range 128).foldl (fun s src =>
    let c := s.fltCfg src
    let c0 := old.fltCfg src
    if c = c0 then s
    else
      let empty (inj : Bool) (s : State) : State := s.setSide inj src { s.side inj src with ring := [] }
      let s := if cfgN c = cfgN c0 ∧ cfgWindow18 c = cfgWindow18 c0 then s else empty true (empty false s)
      let added := [7, 6].filter fun b => bit c b && !bit c0 b
      let start (x : Side) (s : State) : State := if x.acting then s.oneShot src x.unit added else s
      start (s.side true src) (start (s.side false src) s)) s).reconcile

/-! ### Events (R395 to R399, R403, R405) -/

/-- One event of one side of its source. -/
def State.takeEvent (s : State) (e : FEvent) : State :=
  let inj := e.injected
  let s := s.bumpAt (if inj then Obj.FLT_SHADOW_COUNT else Obj.FLT_EVENTS) 0 e.src
  let x := s.side inj e.src
  let co := !inj && (s.side true e.src).state != 0
  if e.src = 0x7C then
    (s.setSide inj e.src { x with count := x.count + 1 }).writeEntry inj e.src e.wall e.unit e.value false co false
  else
    let c := s.fltCfg e.src
    let ring := (e.wall :: x.ring).take (cfgN c)
    let forced := e.src == 0x74 || (!inj && (e.src == 0x67 || e.src == 0x7B) && s.flt.held e.src)
    let full := ring.length == cfgN c && decide ((e.wall : Int) - ring.getLastD 0 ≤ cfgWindow18 c)
    let severe := x.state != 2 && (forced || full)
    let due := match x.logged with
      | some t0 => decide (t0 + ms (s.nat Obj.FLT_LOG_GAP) ≤ s.now)
      | none => true
    let y : Side := { x with state := if severe then 2 else max x.state 1, ring := ring, last := e.at_,
                             count := x.count + 1 }
    let y : Side := if severe then { y with unit := e.unit, since := e.at_, acts := !inj || bit c 1 } else y
    let s := s.setSide inj e.src y
    let s := if x.state == 0 || severe || due then s.writeEntry inj e.src e.wall e.unit e.value severe co false else s
    let s := if severe && y.acts then s.oneShot e.src e.unit [7, 6] else s
    s.reconcile

/-- The order of R395: stamps, real before injected, then ascending source. -/
def FEvent.before (a b : FEvent) : Bool :=
  if a.wall ≠ b.wall then decide (a.wall < b.wall)
  else if a.injected ≠ b.injected then b.injected
  else decide (a.src < b.src)

def firstEvent : List FEvent → Option FEvent
  | [] => none
  | e :: l => match firstEvent l with
    | some f => some (if f.before e then f else e)
    | none => some e

/-- FAULT_EVENT: the collector handles its next event. -/
def faultEvent (s : State) : State :=
  match firstEvent s.flt.queue with
  | some e => (s.setFlt { s.flt with queue := s.flt.queue.erase e }).takeEvent e
  | none => s

def execFaultEvent (t : Cyc) (s : State) : Host.Outcome State Fault Refusal := s.run t faultEvent

/-! ### Clearing (R400, R403) -/

/-- One side of a source clears: its ring empties, a CLEAR entry is written, its reactions are released. -/
def State.clearSide (s : State) (inj : Bool) (src : Nat) : State :=
  let x := s.side inj src
  if x.state = 0 then s
  else
    let s := (s.setSide inj src { x with state := 0, ring := [], acts := false }).writeEntry inj src s.wall18 0 0
      false false true
    let s := if s.reacts src 2 then s
      else s.setFlt { s.flt with lastAlarm := s.flt.lastAlarm.filter fun q => q.1 != src }
    s.reconcile

/-- Command clearing is open to the source: its condition is not held, and it is not therm-shutdown. -/
def State.clearable (s : State) (src : Nat) : Bool := !s.flt.held src && (src != 0x74 || (s.side false src).state == 0)

/-- FAULT_QUIET_EXPIRY of a source, real and shadow. -/
def quietExpiry (src : Nat) (s : State) : State :=
  let q := s.natAt Obj.FLT_QUIET 0 src
  let past (x : Side) : Bool := q != 0 && decide (x.last + seconds q ≤ s.now)
  let s' := if past (s.side false src) && s.clearable src then s.clearSide false src else s
  if past (s.side true src) then s'.clearSide true src else s'

def execFaultQuietExpiry (t : Cyc) (src : Nat) (s : State) : Host.Outcome State Fault Refusal :=
  s.run t (quietExpiry src)

/-- FLT_CLEAR. -/
def State.fltClear (s : State) (v : Nat) : State × Nat × Bool :=
  if v = 0xFFFF then
    ((List.range 128).foldl (fun s k => if s.clearable k then s.clearSide false k else s) s, st.OK, false)
  else if 128 ≤ v then (s, st.RANGE, false)
  else if s.clearable v then (s.clearSide false v, st.OK, false)
  else (s, st.BUSY, false)

/-- FLT_INJECT: an injected event, stamped now. -/
def State.fltInject (s : State) (v : Nat) : State × Nat × Bool :=
  let src := bits v 30 24
  if definedSource src then
    let e : FEvent := { src := src, unit := bits v 23 16, value := bits v 15 0, at_ := s.now, wall := s.wall18,
                        injected := true }
    (s.setFlt { s.flt with queue := s.flt.queue ++ [e] }, st.OK, false)
  else (s, st.RANGE, false)

/-- FLT_INJECT_CLEAR: every shadow state. -/
def State.fltInjectClear (s : State) : State := (List.range 128).foldl (fun s k => s.clearSide true k) s

/-! ### Saves (R405) -/

/-- ASH_LOG_SAVE: for the first SEVERE entry since the last save, at most every 60 s; once in a latched shutdown. -/
def ashLogSave (s : State) : State :=
  let f := s.flt
  let spaced := match f.ashSaved with | some t0 => decide (t0 + seconds 60 ≤ s.now) | none => true
  let due := if s.mods.thermal.shutdown then !f.shutLogged else f.ashDue && spaced
  if due then
    (s.setFlt { f with ashDue := false, ashSaved := some s.now, shutLogged := s.mods.thermal.shutdown }).requestStore
      { region := 4, slot := none, payload := .ash (s.nat Obj.FLT_ASH_SEQ) f.ash }
  else s

def execAshLogSave (t : Cyc) (s : State) : Host.Outcome State Fault Refusal := s.run t ashLogSave

/-! ### Reports and the wall log (R406, R407) -/

/-- The oldest severe source that holds the alarm. -/
def State.oldestAlarm (s : State) : Option Nat :=
  let l := (s.flt.real ++ s.flt.shadow).filter fun q => q.2.acting && s.reactBit q.1 2
  (l.foldl (fun (m : Option (Nat × Side)) q =>
    match m with
    | some p => if q.2.since < p.2.since then some q else some p
    | none => some q) none).map (·.1)

/-- ALARM_REPEAT: the latest entry with ALARM of the tile's oldest severe ALARM source, every 1 s. -/
def alarmRepeat (s : State) : State :=
  if s.isTile && s.ownAlarm && decide (s.flt.alarmAt + seconds 1 ≤ s.now) then
    let s := s.setFlt { s.flt with alarmAt := s.now }
    match s.oldestAlarm.bind fun src => s.flt.lastAlarm.find? fun q => q.1 == src with
    | some q => s.pushReport q.2
    | none => s
  else s

def execAlarmRepeat (t : Cyc) (s : State) : Host.Outcome State Fault Refusal := s.run t alarmRepeat

/-- FAULT: an entry from a tile of a chimney enters the wall log, once for its two paths. -/
def wallFault (c src w : Nat) (s : State) : State :=
  if !s.isSender then s
  else
    let s := if src = 0xFE then s.bump Obj.FRM_UNADDR_REPORTS else s
    let key := c * 256 + src
    let recent := s.flt.recent.filter fun q => decide (s.now ≤ q.2.2 + ms 10)
    if recent.any fun q => q.1 == key && q.2.1 == w then s
    else
      let e : AshEntry := { ashEntryOf w with chimney := c, origin := src }
      let tile := decide (1 ≤ src ∧ src ≤ 128)
      let f := s.flt
      let s := s.setFlt
        { f with recent := (key, w, s.now) :: recent, wallLog := (e :: f.wallLog).take 64,
                 wallSeen := if tile && e.alarm then put 0 key s.now f.wallSeen else f.wallSeen }
      let s := s.bump Obj.FLT_WALL_SEQ
      let s := if tile && e.alarm && e.severe then s.setTileBit Obj.FLT_WALL_ALARM c src true
        else if tile && e.clear && !e.alarm then s.setTileBit Obj.FLT_WALL_ALARM c src false
        else s
      s.showPins

def execFault (t : Cyc) (chim src entry : Nat) (s : State) : Host.Outcome State Fault Refusal :=
  s.run t (wallFault chim src entry)

/-- WALL_ALARM_TIMEOUT: 3 s without an entry with ALARM. -/
def wallAlarmTimeout (c a : Nat) (s : State) : State :=
  if s.isSender && s.tileBit Obj.FLT_WALL_ALARM c a
      && decide (look 0 (c * 256 + a) s.flt.wallSeen + seconds 3 ≤ s.now) then
    (s.setTileBit Obj.FLT_WALL_ALARM c a false).showPins
  else s

def execWallAlarmTimeout (t : Cyc) (chim tile : Nat) (s : State) : Host.Outcome State Fault Refusal :=
  s.run t (wallAlarmTimeout chim tile)

end Sys2Proof.Machine
end

