-- ==== Sys2Proof/Machine/Pairs.lean ====
section
/-! DEFINITION. The lockstep pairs (R10 to R15) and the engine pool (R16 to R22): what a restart does, and how engines
are placed, retired and replaced. -/

namespace Sys2Proof.Machine

def State.setSys (s : State) (x : Sys) : State := { s with sys := x }

/-! ### Pairs -/

/-- SESSIONS_END_ON_PAIR_M (R13, R42): every session ends, every slot's epoch advances, locks are freed. -/
def State.endAllSessions (s : State) : State :=
  ((List.range 64).foldl (fun s k =>
    let x := s.session k
    (s.epochChanged k).setSession k { epoch := (x.epoch + 1) % 65536 }) s).countSessions

/-- At a sender the keys of every session 0 are lost with pair M (R367). -/
def State.loseSession0 (s : State) : State :=
  if s.isSender then
    { s with flue := { s.flue with tiles := s.flue.tiles.map fun q => (q.1, { q.2 with s0open := false }) } }
  else s

/-- Pair C enters reset: outputs hold, and the grant in force and the zone grants are kept for R12. -/
def State.holdOutputs (s : State) : State :=
  let g := (List.range 8).map fun z => ((s.zone z).stagedMw, (s.zone z).stagedQ)
  (s.setSys { s.sys with grantAtC := s.nat Obj.PWR_TILE_GRANT, heldGrants := g }).loopsHeld

/-- Stamps of restarts no older than 600 s, this one included (R14). -/
def restartsWith (now : Cyc) (l : List Cyc) : List Cyc := now :: l.filter fun t => decide (now ≤ t + seconds 600)

/-- A pair restarts (R11); the fourth restart within 600 s holds it in reset, severe (R14, R398). -/
def State.pairRestart (p : Pair) (s : State) : State :=
  match p with
  | .m =>
    if s.sys.phase != .running || s.nat Obj.DEV_PAIR_M_STATE = 2 then s
    else
      let l := restartsWith s.now s.sys.pairM.recent
      let s := (s.setSys { s.sys with pairM := { recent := l, since := s.now } }).endAllSessions.loseSession0
      let s := (s.bump Obj.DEV_PAIR_M_RESTARTS).wr Obj.DEV_PAIR_M_STATE (if 4 ≤ l.length then 2 else 1)
      if 4 ≤ l.length then s.raiseHeld 0x7B 0 0 else s.raise 0x7B 0 0
  | .c =>
    if s.sys.phase == .inReset || s.nat Obj.DEV_PAIR_C_STATE = 2 then s
    else
      let l := restartsWith s.now s.sys.pairC.recent
      let s := if s.pairCUp then s.holdOutputs else s
      let s := s.setSys { s.sys with pairC := { recent := l, since := s.now } }
      let s := (s.bump Obj.DEV_PAIR_C_RESTARTS).wr Obj.DEV_PAIR_C_STATE (if 4 ≤ l.length then 2 else 1)
      if 4 ≤ l.length then s.raiseHeld 0x67 0 0 else s.raise 0x67 0 0

/-- PAIR_C_RESUME: the held outputs are the initial loop states (R15, R324). -/
def pairCResume (s : State) : State :=
  if s.nat Obj.DEV_PAIR_C_STATE = 1 then
    ((s.wr Obj.DEV_PAIR_C_STATE 0).setSys { s.sys with pairC := { s.sys.pairC with since := s.now } }).loopsResume
  else s

/-- PAIR_M_RESUME; a sender opens session 0 at its tiles again (R367). A pair that starts on another image resumes when
it has loaded its configuration (CONFIG_LOAD_DONE). -/
def pairMResume (s : State) : State :=
  if s.sys.phase == .running && s.nat Obj.DEV_PAIR_M_STATE == 1 && !s.sys.loading then
    let s := (s.wr Obj.DEV_PAIR_M_STATE 0).setSys { s.sys with pairM := { s.sys.pairM with since := s.now } }
    if s.isSender then
      s.activeChims.foldl (fun s c => (s.mapped c).foldl (fun s a => s.openSession0 c a) s) s
    else s
  else s

/-! ### Engines -/

def engineCount : Nat := 544
/-- DEV_ENG_STATE of an engine: 0 in service, 1 spare, 2 retired, 3 under test. -/
def State.engine (s : State) (pe : Nat) : Nat :=
  if pe < 256 then s.natAt Obj.DEV_ENG_STATE_LO 0 pe
  else if pe < 512 then s.natAt Obj.DEV_ENG_STATE_MID 0 (pe - 256)
  else s.natAt Obj.DEV_ENG_STATE_HI 0 (pe - 512)
def State.setEngine (s : State) (pe v : Nat) : State :=
  if pe < 256 then s.wrAt Obj.DEV_ENG_STATE_LO 0 pe v
  else if pe < 512 then s.wrAt Obj.DEV_ENG_STATE_MID 0 (pe - 256) v
  else s.wrAt Obj.DEV_ENG_STATE_HI 0 (pe - 512) v
def State.enginesIn (s : State) (v : Nat) : List Nat := (List.range engineCount).filter fun pe => s.engine pe == v

/-- Spares that no takeover has claimed. -/
def State.sparePool (s : State) : List Nat :=
  (s.enginesIn 1).filter fun pe => !s.sys.takeovers.any fun t => t.spare == some pe

/-- DEV_ENG_IN_SERVICE, DEV_ENG_SPARE and DEV_ENG_RETIRED, and the conditions of R21 and R22. -/
def State.countEngines (s : State) : State :=
  let s := ((s.wr Obj.DEV_ENG_IN_SERVICE (s.enginesIn 0).length).wr Obj.DEV_ENG_SPARE (s.enginesIn 1).length).wr
    Obj.DEV_ENG_RETIRED s.nv.retired.length
  let s := if s.sparePool.length ≤ s.nat Obj.DEV_ENG_SPARE_WARN then s else s.hold 0x3C 0 false
  if s.nat Obj.DEV_ENG_REQUIRED ≤ s.enginesLeft then s.hold 0x3D 0 false else s

/-- Engines enter service: their corrected-error record starts anew (R18). -/
def State.engineIn (s : State) (pe : Nat) : State :=
  (s.setEngine pe 0).setSys { s.sys with engineCe := s.sys.engineCe.filter fun q => q.1 != pe }

/-- The first placement (R16): the lowest engines that are neither retired nor failing; the others healthy are spares. An
engine that fails its test belongs to neither (log 41). -/
def State.placeEngines (s : State) (failing : List Nat) (need : Nat) : State :=
  let good := (List.range engineCount).filter fun pe => !s.nv.retired.contains pe && !failing.contains pe
  let s := (List.range engineCount).foldl (fun s pe =>
    s.setEngine pe (if (good.take need).contains pe then 0 else if good.contains pe then 1 else 2)) s
  (s.wr Obj.DEV_ENG_REQUIRED need).countEngines

/-- ENGINE_ADJUST (R16): spares join in ascending number, and the highest in service leave. Where the engines in service are
as many as the mode now in force needs, no share is uncovered any more (R22). -/
def State.adjustEngines (s : State) : State :=
  let need := if s.isSender then some 512 else enginesRequired s.rdAt
  match need with
  | none => s
  | some n =>
    let s := s.wr Obj.DEV_ENG_REQUIRED n
    let live := s.enginesIn 0
    let cur := live.length + (s.sys.takeovers.filter (·.spare.isSome)).length
    let s := if cur < n then (s.sparePool.take (n - cur)).foldl (fun s pe => s.engineIn pe) s
      else (live.reverse.take (cur - n)).foldl (fun s pe => s.setEngine pe 1) s
    let s := s.countEngines
    if n ≤ s.enginesLeft then s.setSys { s.sys with uncovered := [] } else s

/-- SPARE_TAKEOVER (R19) at a boundary. -/
def State.spareTakeover (s : State) : State :=
  let ready := s.sys.takeovers.filter fun t => decide (t.at_ + us 20 ≤ s.now)
  if ready.isEmpty then s
  else
    let s := s.setSys { s.sys with takeovers := s.sys.takeovers.filter fun t => !ready.contains t,
                                   uncovered := s.sys.uncovered ++ (ready.filter (·.spare.isNone)).map (·.pe) }
    (ready.foldl (fun s t => match t.spare with
      | some pe => s.engineIn pe
      | none => s) s).countEngines

/-- ENGINE_RETIRE (R18 to R22). -/
def State.retire (s : State) (pe : Nat) : State :=
  if engineCount ≤ pe || s.nv.retired.contains pe then s
  else
    let was := s.engine pe
    let s := (s.setNv { s.nv with retired := addMember pe s.nv.retired }).setEngine pe 2
    let s := s.raise 0x3E 0 pe
    let claimed := (s.sys.takeovers.find? fun t => t.spare == some pe).isSome
    let s := if was = 0 then
        s.setSys { s.sys with takeovers := s.sys.takeovers ++
          [{ pe := pe, spare := s.sparePool.head?, at_ := s.now, frame := s.nat Obj.WFC }] }
      else if claimed then
        let spare := s.sparePool.head?
        let claims := s.sys.takeovers.map fun t => if t.spare == some pe then { t with spare := spare } else t
        s.setSys { s.sys with takeovers := claims }
      else s
    let s := s.countEngines
    let s := if s.sparePool.length ≤ s.nat Obj.DEV_ENG_SPARE_WARN then s.raiseHeld 0x3C 0 s.sparePool.length else s
    if s.enginesLeft < s.nat Obj.DEV_ENG_REQUIRED ∧ (was = 0 ∨ claimed = true) then s.raiseHeld 0x3D 0 s.enginesLeft else s

def execEngineUe (t : Cyc) (pe : Nat) (s : State) : Host.Outcome State Fault Refusal := s.run t fun s => s.retire pe

/-- ENGINE_CORRECTED_ERROR (R18): counted; the second at one word since the engine entered service retires it. A spare that has
never been in service is judged alike, from its first error on: DESIGN CHOICE (log 131). -/
def engineCorrected (pe word : Nat) (s : State) : State :=
  if engineCount ≤ pe ∨ 2 ≤ s.engine pe then s
  else
    let s := s.bump Obj.DEV_ENG_CE_COUNT
    if s.sys.engineCe.contains (pe, word) then s.retire pe
    else s.setSys { s.sys with engineCe := (pe, word) :: s.sys.engineCe }

def execEngineCorrectedError (t : Cyc) (pe word : Nat) (s : State) : Host.Outcome State Fault Refusal :=
  s.run t (engineCorrected pe word)

/-- DEV_ENG_RETIRED_CLEAR: the list clears at the next power-on. -/
def State.clearRetired (s : State) : State := s.setNv { s.nv with clearRetired := true }

end Sys2Proof.Machine
end

