-- ==== Sys2Proof/Machine/Thermal.lean ====
section
/-! DEFINITION. Thermal sensing and protection (chapter 16): site conversions, broken sites, stages, shutdown and zone
temperatures. -/

namespace Sys2Proof.Machine

def siteCount : Nat := 24
def State.setThermal (s : State) (x : Thermal) : State := s.setMods { s.mods with thermal := x }

/-- Insertion into a rising list, and sorting. -/
def insertInt (x : Int) : List Int → List Int
  | [] => [x]
  | y :: ys => if x ≤ y then x :: y :: ys else y :: insertInt x ys
def sortInt (l : List Int) : List Int := l.foldr insertInt []

/-- Twice the median of readings: the middle one, or the mean of the middle two (log 42). -/
def median2 (l : List Int) : Int :=
  let r := sortInt l
  r.getD ((r.length - 1) / 2) 0 + r.getD (r.length / 2) 0

/-! ### Conversions (R384, R385, R390) -/

def State.siteBroken (s : State) (n : Nat) : Bool := bit (s.nat Obj.THERM_BROKEN) n
def State.healthySites (s : State) : List Nat := (List.range siteCount).filter fun n => !s.siteBroken n

/-- The reading of a site: the conversion with its stored trim (R354). -/
def State.siteReading (s : State) (raw : List Int) (n : Nat) : Int := raw.getD n 0 + s.rdAt Obj.CAL_TRIM_OFFSET 0 n

/-- The first two tests of R385: outside the curve's range, or more than 8 °C from its previous reading. -/
def State.siteImplausible (s : State) (raw : List Int) (n : Nat) : Bool :=
  let r := s.siteReading raw n
  let jump := match s.mods.thermal.last.find? fun q => q.1 == n with
    | some (_, p) => decide (64 < (r - p).natAbs)
    | none => false
  decide (raw.getD n 0 < -440) || decide (1400 < raw.getD n 0) || jump

/-- SENSOR_BROKEN: a site becomes broken; its shutdown count is lost (R390). -/
def State.breakSite (s : State) (n : Nat) : State :=
  let h := s.mods.thermal
  let s := s.wr Obj.THERM_BROKEN (setBit (s.nat Obj.THERM_BROKEN) n true : Nat)
  (s.setThermal { h with votes := put 0 n 0 h.votes, far := put 0 n 0 h.far }).raiseHeld 0x73 n 0

/-- One conversion of a healthy site judged against the median, and its highest reading and votes updated. -/
def State.judgeSite (s : State) (raw : List Int) (mid : Int) (n : Nat) : State :=
  let r := s.siteReading raw n
  let far := if decide (2 * s.nat Obj.THERM_SPREAD_MAX < (2 * r - mid).natAbs) then look 0 n s.mods.thermal.far + 1 else 0
  let s := s.setThermal { s.mods.thermal with far := put 0 n far s.mods.thermal.far }
  if 40 ≤ far then s.breakSite n
  else
    let votes := if 1000 ≤ r then look 0 n s.mods.thermal.votes + 1 else 0
    let s := s.setThermal { s.mods.thermal with votes := put 0 n votes s.mods.thermal.votes }
    if s.rdAt Obj.THERM_SITE_MAX 0 n < r then s.wrIn Obj.THERM_SITE_MAX 0 n r else s

/-- A conversion of every site, with the tests of R385 and the weak-protection condition. -/
def State.convertSites (s : State) (raw : List Int) : State :=
  let s := (s.healthySites.filter fun n => s.siteImplausible raw n).foldl (fun s n => s.breakSite n) s
  let mid := median2 (s.healthySites.map fun n => s.siteReading raw n)
  let s := s.healthySites.foldl (fun s n => s.judgeSite raw mid n) s
  let s := (List.range siteCount).foldl (fun s n => s.wrIn Obj.THERM_SITE_TEMP 0 n (s.siteReading raw n)) s
  let s := s.setThermal { s.mods.thermal with last := (List.range siteCount).map fun n => (n, s.siteReading raw n),
                                                convAt := some s.now }
  let n := s.healthySites.length
  if n < 12 ∧ ¬ s.mods.thermal.weak then (s.setThermal { s.mods.thermal with weak := true }).raiseHeld 0x76 0 n else s

/-! ### Stages (R386) -/

/-- The effective temperature of a site. -/
def State.siteEffective (s : State) (n : Nat) : Int :=
  if s.siteBroken n then s.rd Obj.THERM_THROTTLE_FULL else s.rdAt Obj.THERM_SITE_TEMP 0 n

/-- The hottest site, the lowest number on a tie (log 42). -/
def State.hottestSite (s : State) : Nat :=
  (List.range siteCount).foldl (fun m n => if s.siteEffective m < s.siteEffective n then n else m) 0

def State.stageEntry (s : State) (k : Nat) : Int :=
  match k with
  | 1 => s.rd Obj.THERM_WARN
  | 2 => s.rd Obj.THERM_THROTTLE_START
  | _ => s.rd Obj.THERM_THROTTLE_FULL

/-- THERMAL_STAGE_CHANGE: a rise enters every stage up to the highest reached; a fall goes to the highest whose entry
condition still holds. -/
def State.stageChange (s : State) : State :=
  let hot := s.hottestSite
  let th := s.siteEffective hot
  let s := s.wr Obj.THERM_HOTTEST hot
  let cur := s.nat Obj.THERM_STAGE
  let reached := maxNat ((List.range 4).filter fun k => k = 0 || decide (s.stageEntry k ≤ th))
  if cur < reached then
    let s := (s.wr Obj.THERM_STAGE reached).setThermal { s.mods.thermal with stageAt := s.now }
    ((List.range reached).filter fun k => decide (cur ≤ k)).foldl (fun s k => s.raiseHeld (0x70 + k) 0 hot) s
  else if reached < cur ∧ th < s.stageEntry cur - s.nat Obj.THERM_HYST then
    let s := (s.wr Obj.THERM_STAGE reached).setThermal { s.mods.thermal with stageAt := s.now }
    ((List.range cur).filter fun k => decide (reached ≤ k)).foldl (fun s k => s.hold (0x70 + k) 0 false) s
  else s

/-! ### Shutdown (R390, R391, Table 16-3) -/

/-- THERMAL_SHUTDOWN by the vote of a site. -/
def State.shutDown (s : State) (site : Nat) : State :=
  let s := (s.setThermal { s.mods.thermal with shutdown := true }).raiseHeld 0x74 site (s.natAt Obj.THERM_SITE_TEMP 0 site)
  let s := (List.range 8).foldl (fun s n => s.send (.pin (.trim n) (s.rdAt Obj.THERM_SD_TRIM 0 n))) s.haltAllStrands
  let s := if s.pairCUp then s.holdOutputs else s
  let s := s.endAllSessions.loseSession0
  let s := (s.wr Obj.DEV_PAIR_M_STATE 2).wr Obj.DEV_PAIR_C_STATE 2
  let s := (List.range 16).foldl (fun s p =>
    if s.txState p = 0 ∧ s.rxState p = 0 then s else ((s.portDown p 0 false).setTx p 0).setPort p {}) s
  let s := s.wr Obj.DEV_CLOCK_STATUS (s.nat Obj.DEV_CLOCK_STATUS / 8 * 8 : Nat)
  let phase := if s.sys.phase == .inReset then Phase.inReset else .responder
  (s.setSys { s.sys with phase := phase, dataPlane := false, composing := false, loading := false }).showPins

/-- A port whose band has changed spoils its link run and starts its 60 s afresh (R352, R353). -/
def State.watchBands (s old : State) : State :=
  (List.range 16).foldl (fun s p =>
    let s := if s.band p = old.band p then s else s.restSteady p
    let r := s.linkRun p
    if r.active && r.bandOk && s.band p != r.band then s.setRun p { r with bandOk := false } else s) s

/-- Whether 25 us have passed since the last conversion (R384). -/
def State.conversionDue (s : State) : Bool := s.mods.thermal.convAt.all fun t => decide (t + us 25 ≤ s.now)

/-- SENSOR_CONVERSION: broken sites, votes and the stage. -/
def sensorConversion (raw : List Int) (s : State) : State :=
  if !s.conversionDue then s
  else
    let s := ((s.convertSites raw).watchBands s).stageChange
    match s.healthySites.find? fun n => decide (3 ≤ look 0 n s.mods.thermal.votes) with
    | some n => if s.mods.thermal.shutdown then s else s.shutDown n
    | none => s

def execSensorConversion (t : Cyc) (readings : List Int) (s : State) : Host.Outcome State Fault Refusal :=
  s.run t (sensorConversion readings)

/-- From stage 1 on link runs and photometric solves pause; a paused link run's 10 s do not go on (R386, log 47). -/
def State.pauseRuns (s : State) (stage : Nat) : State :=
  let h := s.mods.thermal
  match h.pausedAt with
  | none => if 1 ≤ stage then s.setThermal { h with pausedAt := some s.now } else s
  | some t0 =>
    if stage = 0 then
      let s := s.setThermal { h with pausedAt := none }
      (List.range 16).foldl (fun s p =>
        let r := s.linkRun p
        if r.active then s.setRun p { r with start := r.start + (s.now - max t0 r.start) } else s) s
    else s

/-- THERMAL_STAGE_APPLY: pair C applies or withdraws the actions of the stage; in reset it holds them (R12). -/
def thermalStageApply (s : State) : State :=
  if s.pairCUp && s.mods.thermal.applied != s.nat Obj.THERM_STAGE then
    let s := s.pauseRuns (s.nat Obj.THERM_STAGE)
    let s := s.setThermal { s.mods.thermal with applied := s.nat Obj.THERM_STAGE }
    if s.configured then (List.range 16).foldl (fun s p => s.txPower p) s else s
  else s

def execThermalStageApply (t : Cyc) (s : State) : Host.Outcome State Fault Refusal := s.run t thermalStageApply

/-! ### Zone temperatures (R389) -/

/-- A module has lamps in a zone: an enabled strand of the zone drives a pixel of its rectangle. -/
def State.moduleInZone (s : State) (m z : Nat) : Bool :=
  let v := s.rdAt
  let x0 := vNat v Obj.MOD_X0 m 0
  let y0 := vNat v Obj.MOD_Y0 m 0
  let e := s.module m
  (enabledStrands v).any fun n =>
    decide (vNat v Obj.DAMP_STRAND_ZONE 0 n = z) && decide (strandX0 v n < x0 + e.width)
      && decide (x0 < strandX0 v n + strandBw v n) && decide (strandY0 v n < y0 + e.height)
      && decide (y0 < strandY0 v n + scanRows (viewScan v))

/-- T_z in 2^-8 of 0.125 °C. -/
def State.zoneTemp (s : State) (z : Nat) : Int :=
  let mods := (s.boundModules.filter fun m => s.moduleInZone m z).filterMap fun m =>
    if (s.module m).lost then some (s.rdAt Obj.THERM_ZONE_FULL z 0 * 256) else (s.module m).theta
  let sites := ((List.range siteCount).filter fun n => bit (s.natAt Obj.THERM_ZONE_SITES z 0) n).map fun n =>
    (s.siteEffective n + s.rdAt Obj.THERM_DIE_OFFSET z 0) * 256
  match mods ++ sites with
  | [] => 0
  | a :: l => l.foldl max a

/-- ZONE_TEMP_SUPPLY, every 125 µs: loop input 0x10 + z is T_z / 256 °C. -/
def zoneTempSupply (s : State) : State :=
  if s.isTile && s.configured && decide (s.power.zoneTempAt + us 125 ≤ s.now) then
    let s := (List.range 8).foldl (fun s z =>
      let v := s.zoneTemp z
      (s.setZone z { s.zone z with temp := v * 2 ^ 25 }).wrIn Obj.THERM_ZONE_TEMP z 0 (roundAway v 256)) s
    s.setPower { s.power with zoneTempAt := s.now }
  else s

def execZoneTempSupply (t : Cyc) (s : State) : Host.Outcome State Fault Refusal := s.run t zoneTempSupply

end Sys2Proof.Machine
end

