-- ==== Sys2Proof/Machine/Checks.lean ====
section
/-! DEFINITION. Commit validation (R48 to R50, R471): the values a commit would put in force, every check of the owning
chapters, the object that a failing check names, and the sums that the configuration in force reports. -/

namespace Sys2Proof.Machine

/-! ### Scopes and snapshots -/

/-- A row exists in the device's role. -/
def State.has (s : State) (r : ObjRow) : Bool :=
  match r.role with
  | .any => true
  | .sender => s.isSender
  | .tile => s.isTile

/-- The shadows of a scope, as they differ from their defaults. -/
def State.snapNums (s : State) (scope : Nat) : List (Nat × Int) := s.shadow.filter fun p => inScope scope p.1
def State.snapBlobs (s : State) (scope : Nat) : List Host.Cell := s.shadowBlob.filter fun p => inScope scope (p.1 / 2 ^ 32)

/-- Bytes of a BLOB object in a snapshot (R50). -/
def blobSize (base : Nat) : Nat := if base = 0x2282 then 24576 else 49152

/-- The snapshot size of a scope (R50). -/
def State.snapSize (s : State) (scope : Nat) : Nat :=
  objTable.foldl (fun n r =>
    if r.acc == .rws && s.has r && bit scope (areaOf r.base) then
      n + r.ni * r.ns * (if r.ty == .blob then blobSize r.base else r.ty.wire)
    else n) 0

/-- The values that a commit of a scope would put in force (R48); those over the sets armed for an earlier or the same
target (R113, R178). -/
def State.viewOf (s : State) (scope : Nat) : View := confView (overlay scope (s.snapNums scope) s.dict)
def State.armedView (s : State) (scope target : Nat) : View :=
  confView (overlay scope (s.snapNums scope) (s.dictAt target))

/-! ### Checks -/

/-- A check: the objects it reads, whether it fails, and the object that Table 2-15 or a rule names for it. -/
structure Check where
  reads : List Nat
  bad : Bool
  named : Option Nat := none
deriving DecidableEq, Repr

/-- The lowest of the objects in scope that a check reads; none: the check is not run. -/
def Check.lowest (c : Check) (scope : Nat) : Option Nat :=
  (c.reads.filter (inScope scope)).foldl (fun m k => match m with
    | some j => some (min j k)
    | none => some k) none

/-- The first failing check of a list and the object it names, as its key (R471, log 44). -/
def firstFailure (scope : Nat) : List Check → Option Nat
  | [] => none
  | c :: cs => match c.bad, c.lowest scope with
    | true, some k => some (c.named.getD k)
    | _, _ => firstFailure scope cs

def pairsOf (l : List Nat) : List (Nat × Nat) :=
  l.flatMap fun a => (l.filter fun b => decide (a < b)).map fun b => (a, b)

/-! ### Sender: ports and formats (R3, R68, R70, R193) -/

def slotsOn (v : View) : List Nat := (List.range 8).filter fun i => v Obj.ING_PORT i 0 != 0xFF
def boundLayers (v : View) : List Nat := (List.range 15).filter fun l => v Obj.LAYER_BIND l 0 != 0xFF
def stillsOn (v : View) : List Nat := (List.range 15).filter fun l => v Obj.LAYER_BIND l 0 == 0x10

/-- The ports that chimneys name, with their objects. -/
def chimneyPorts (v : View) : List (Nat × Nat) :=
  (List.range 8).flatMap fun c =>
    [(vNat v Obj.CHIM_PORT_A 0 c, Obj.CHIM_PORT_A.key 0 c), (vNat v Obj.CHIM_PORT_B 0 c, Obj.CHIM_PORT_B.key 0 c)].filter
      fun q => q.1 != 0xFF

def portChecks (v : View) : List Check :=
  let slots := slotsOn v
  let port (i : Nat) : Nat := vNat v Obj.ING_PORT i 0
  let key (i : Nat) : Nat := Obj.ING_PORT.key i 0
  let ch := chimneyPorts v
  let all := (List.range 8).flatMap fun c => [Obj.CHIM_PORT_A.key 0 c, Obj.CHIM_PORT_B.key 0 c]
  let chims := ((List.range 8).filter (chimneyOn v)).length
  [{ reads := (List.range 8).map key ++ all, bad := decide (16 < 2 * chims + slots.length) }]
  ++ (pairsOf slots).map (fun q => { reads := [key q.1, key q.2], bad := port q.1 == port q.2 })
  ++ slots.flatMap (fun i => ch.map fun q => { reads := [key i, q.2], bad := port i == q.1 })
  ++ (List.range 15).flatMap (fun l =>
    let b := vNat v Obj.LAYER_BIND l 0
    if b < 8 then [{ reads := [Obj.LAYER_BIND.key l 0, key b], bad := port b == 0xFF }] else [])
  ++ (List.range 8).map (fun c =>
    { reads := [Obj.CHIM_PORT_A.key 0 c, Obj.CHIM_PORT_B.key 0 c],
      bad := (v Obj.CHIM_PORT_A 0 c == 0xFF) != (v Obj.CHIM_PORT_B 0 c == 0xFF) })
  ++ ch.flatMap fun p => (ch.filter fun q => decide (p.2 < q.2)).map fun q =>
    { reads := [p.2, q.2], bad := p.1 == q.1 }

/-- Width, height, sampling and depth of an image, with the objects that give them: of a slot, or of a still layer. -/
structure ImageRef where
  fmt : PlaneFormat
  w : Nat
  h : Nat
  more : List Nat
deriving DecidableEq, Repr

def slotImage (v : View) (i : Nat) : ImageRef :=
  { fmt := slotFormat v i, w := Obj.ING_WIDTH.key i 0, h := Obj.ING_HEIGHT.key i 0,
    more := [Obj.ING_SAMPLING.key i 0, Obj.ING_DEPTH.key i 0, Obj.ING_ALPHA.key i 0] }
def stillImage (v : View) (l : Nat) : ImageRef :=
  { fmt := stillFormat v l, w := Obj.LAYER_STILL_WIDTH.key l 0, h := Obj.LAYER_STILL_HEIGHT.key l 0,
    more := [Obj.LAYER_STILL_FORMAT.key l 0] }
def layerImage (v : View) (l : Nat) : ImageRef :=
  if v Obj.LAYER_BIND l 0 == 0x10 then stillImage v l else slotImage v (vNat v Obj.LAYER_BIND l 0)

/-- The sampling object of an image. -/
def ImageRef.sel (x : ImageRef) : Nat := x.more.headD 0

def evenChecks (sel : Nat) (x : ImageRef) : List Check :=
  [{ reads := [sel, x.w, x.sel], bad := decide (x.fmt.sampling < 2 ∧ x.fmt.w % 2 = 1) },
   { reads := [sel, x.h, x.sel], bad := decide (x.fmt.sampling = 0 ∧ x.fmt.h % 2 = 1) }]

/-- On-link bytes of one frame (R90): lines in packets of 4,096 bytes, 16 bytes of header each. -/
def onLink (f : PlaneFormat) : Nat :=
  sumNat ((planesOf f).map fun p => p.lines * (p.wire + 16 * ceilDiv p.wire 4096))

def formatChecks (v : View) : List Check :=
  (slotsOn v).flatMap (fun i => evenChecks (Obj.ING_PORT.key i 0) (slotImage v i))
  ++ (stillsOn v).flatMap (fun l => evenChecks (Obj.LAYER_BIND.key l 0) (stillImage v l))
  ++ (slotsOn v).map fun i =>
    let x := slotImage v i
    { reads := [Obj.ING_PORT.key i 0, x.w, x.h, Obj.ING_MAX_RATE.key i 0] ++ x.more,
      bad := decide (90000000000 * 1000 < onLink x.fmt * 8 * vNat v Obj.ING_MAX_RATE i 0) }

/-! ### Sender: memory traffic and space (R91, R92) -/

/-- Ingest bytes per 1,000 s of the enabled slots. -/
def ingestMilli (v : View) : Nat :=
  sumNat ((slotsOn v).map fun i =>
    sumNat ((planesOf (slotFormat v i)).map fun p => p.lines * (ceilDiv p.wire 64 * 64)) * vNat v Obj.ING_MAX_RATE i 0)

/-- Bytes that a layer's window fetches of a plane in one frame. -/
def fetchPlane (x y w h : Nat) (f : PlaneFormat) (p : Plane) : Nat :=
  let div := if p.lines < f.h then 2 else 1
  let units := ((x + w) * p.bits - 1) / 8 / 64 + 1 - x * p.bits / 8 / 64
  ((y + h - 1) / div + 1 - y / div) * (units * 64)

def fetchBytes (v : View) : Nat :=
  sumNat ((boundLayers v).map fun l =>
    let f := (layerImage v l).fmt
    let g (r : ObjRow) : Nat := vNat v r l 0
    sumNat ((planesOf f).map (fetchPlane (g Obj.LAYER_WIN_X) (g Obj.LAYER_WIN_Y) (g Obj.LAYER_WIN_W) (g Obj.LAYER_WIN_H) f)))

/-- The sum of R91 in B/s, as num / den. -/
def trafficSum (v : View) : Nat × Nat :=
  let p := ratePeriod (viewRate v)
  (ingestMilli v * p.1 + fetchBytes v * p.2 * 1000, 1000 * p.1)

/-- Ring and still buffers (R92). -/
def bufferSum (v : View) : Nat :=
  sumNat ((slotsOn v).map fun i => vNat v Obj.ING_RING_DEPTH i 0 * bufferSize (slotFormat v i))
  + sumNat ((stillsOn v).map fun l => 2 * bufferSize (stillFormat v l))

def slotKeys : List Nat := (List.range 8).flatMap fun i => slotRows.map fun r => r.key i 0
def layerKeys (rows : List ObjRow) : List Nat := (List.range 15).flatMap fun l => rows.map fun r => r.key l 0
def stillRows : List ObjRow :=
  [Obj.LAYER_BIND, Obj.LAYER_STILL_WIDTH, Obj.LAYER_STILL_HEIGHT, Obj.LAYER_STILL_FORMAT]
def windowRows : List ObjRow := [Obj.LAYER_WIN_X, Obj.LAYER_WIN_Y, Obj.LAYER_WIN_W, Obj.LAYER_WIN_H]

def memoryChecks (v : View) (installed : Nat) : List Check :=
  let t := trafficSum v
  [{ reads := slotKeys ++ (List.range 8).map (fun i => Obj.ING_MAX_RATE.key i 0) ++ layerKeys (stillRows ++ windowRows)
       ++ [Obj.WALL_RATE.key 0 0],
     bad := decide (220000000000 * t.2 < t.1), named := some (Obj.ING_BW_COMMITTED.key 0 0) },
   { reads := slotKeys ++ layerKeys stillRows, bad := decide (installed < bufferSum v + 256 * 1048576),
     named := some (Obj.ING_MEM_ALLOCATED.key 0 0) }]

/-! ### Sender: layers (R95, R96, R119) -/

def orderChecks (v : View) : List Check :=
  let entry (j : Nat) : Nat := vNat v Obj.COMP_ORDER 0 j
  let key (j : Nat) : Nat := Obj.COMP_ORDER.key 0 j
  let every := (List.range 16).map key
  [{ reads := every, bad := ((List.range 16).all fun j => entry j != 0xFF) }]
  ++ (List.range 16).map (fun j => { reads := [key j], bad := decide (14 < entry j ∧ entry j ≠ 0xFF) })
  ++ (pairsOf (List.range 16)).map (fun q =>
    { reads := [key q.1, key q.2], bad := decide (entry q.1 ≠ 0xFF) && entry q.1 == entry q.2 })
  ++ (List.range 15).map (fun l =>
    { reads := Obj.LAYER_BIND.key l 0 :: every,
      bad := v Obj.LAYER_BIND l 0 != 0xFF && (List.range 16).all fun j => entry j != l })
  ++ (List.range 16).flatMap fun j =>
    if entry j ≤ 14 then
      [{ reads := [Obj.LAYER_BIND.key (entry j) 0, key j], bad := v Obj.LAYER_BIND (entry j) 0 == 0xFF }]
    else []

def windowChecks (v : View) : List Check :=
  (boundLayers v).flatMap fun l =>
    let x := layerImage v l
    let b := Obj.LAYER_BIND.key l 0
    let n (r : ObjRow) : Nat := vNat v r l 0
    let k (r : ObjRow) : Nat := r.key l 0
    let turned := n Obj.LAYER_ORIENT % 2 == 1
    let fw := if turned then n Obj.LAYER_WIN_H else n Obj.LAYER_WIN_W
    let fh := if turned then n Obj.LAYER_WIN_W else n Obj.LAYER_WIN_H
    let size := [k Obj.LAYER_WIN_W, k Obj.LAYER_WIN_H, k Obj.LAYER_ORIENT]
    let odd (r : ObjRow) (c : Bool) : Check := { reads := [b, k r, x.sel], bad := c && n r % 2 == 1 }
    let c2 := decide (x.fmt.sampling < 2)
    let c0 := x.fmt.sampling == 0
    [{ reads := [b, k Obj.LAYER_WIN_X, k Obj.LAYER_WIN_W, x.w],
       bad := decide (x.fmt.w < n Obj.LAYER_WIN_X + n Obj.LAYER_WIN_W) },
     { reads := [b, k Obj.LAYER_WIN_Y, k Obj.LAYER_WIN_H, x.h],
       bad := decide (x.fmt.h < n Obj.LAYER_WIN_Y + n Obj.LAYER_WIN_H) },
     odd Obj.LAYER_WIN_X c2, odd Obj.LAYER_WIN_W c2, odd Obj.LAYER_WIN_Y c0, odd Obj.LAYER_WIN_H c0,
     { reads := [b, k Obj.LAYER_POS_X, Obj.WALL_CANVAS_W.key 0 0] ++ size,
       bad := decide (v Obj.WALL_CANVAS_W 0 0 < n Obj.LAYER_POS_X + fw) },
     { reads := [b, k Obj.LAYER_POS_Y, Obj.WALL_CANVAS_H.key 0 0] ++ size,
       bad := decide (v Obj.WALL_CANVAS_H 0 0 < n Obj.LAYER_POS_Y + fh) }]

/-! ### Sender: the Hearth layer (R108, R113, R178) -/

def hearthKeys : List Nat := (List.range 9).map fun j => 0x22C0 * 256 + j

/-- `v` under R48, `w` with the armed sets counted (R113). -/
def hearthChecks (scope : Nat) (v w : View) : List Check :=
  let n (r : ObjRow) : Nat := vNat w r 0 0
  let k (r : ObjRow) : Nat := r.key 0 0
  let turned := n Obj.HEARTH_ORIENT % 2 == 1
  let fw := if turned then n Obj.HEARTH_HEIGHT else n Obj.HEARTH_WIDTH
  let fh := if turned then n Obj.HEARTH_WIDTH else n Obj.HEARTH_HEIGHT
  let size := [k Obj.HEARTH_WIDTH, k Obj.HEARTH_HEIGHT, k Obj.HEARTH_ORIENT]
  let pos (r : ObjRow) : Option Nat := if bit scope 21 then none else some (k r)
  [{ reads := [k Obj.HEARTH_WIDTH, k Obj.HEARTH_HEIGHT],
     bad := decide (2097152 < vNat v Obj.HEARTH_WIDTH 0 0 * vNat v Obj.HEARTH_HEIGHT 0 0) },
   { reads := [k Obj.HEARTH_POS_X, k Obj.WALL_CANVAS_W] ++ size,
     bad := decide (n Obj.WALL_CANVAS_W < n Obj.HEARTH_POS_X + fw), named := pos Obj.HEARTH_POS_X },
   { reads := [k Obj.HEARTH_POS_Y, k Obj.WALL_CANVAS_H] ++ size,
     bad := decide (n Obj.WALL_CANVAS_H < n Obj.HEARTH_POS_Y + fh), named := pos Obj.HEARTH_POS_Y }]

/-- Whether a canvas pixel is protected under a view, with the back image or the front (R112, R178). -/
def State.protectedUnder (s : State) (v : View) (back : Bool) (cx cy : Nat) : Bool :=
  let n (r : ObjRow) : Nat := vNat v r 0 0
  let o := n Obj.HEARTH_ORIENT
  let w := n Obj.HEARTH_WIDTH
  let h := n Obj.HEARTH_HEIGHT
  let fw := if o % 2 = 0 then w else h
  let fh := if o % 2 = 0 then h else w
  let x0 := n Obj.HEARTH_POS_X
  let y0 := n Obj.HEARTH_POS_Y
  if v Obj.HEARTH_ENABLE 0 0 == 1 ∧ x0 ≤ cx ∧ cx < x0 + fw ∧ y0 ≤ cy ∧ cy < y0 + fh then
    let (a, b) := windowPixel o w h (cx - x0) (cy - y0)
    let i := b * w + a
    let al := if back then (look (hearthDefault (w * h) (3 * (w * h) + i)) (3 * (w * h) + i) s.video.hearth.back).toNat
      else s.hearthSample 3 i
    decide (n Obj.HEARTH_PROTECT_MIN ≤ al)
  else false

/-- A tile line holds more than seven runs of protected pixels. -/
def State.tooManyRuns (s : State) (v : View) (back : Bool) (e : MapEntry) : Bool :=
  (List.range e.th).any fun y =>
    decide (7 < (protectedRuns 0 none ((List.range e.tw).map fun x =>
      let p := e.canvas x y
      s.protectedUnder v back p.1 p.2)).length)

/-- R178 for every enabled map entry. A set of area 21, this one or an armed one, swaps in a written back image. -/
def State.runChecks (s : State) (scope target : Nat) (w : View) : List Check :=
  let swap := bit scope 21 || s.sess.armed.any fun a => decide (a.target ≤ target) && bit a.scope 21
  let back := swap && s.video.hearth.written
  (List.range 8).flatMap fun c => (mappedTiles w c).map fun a =>
    let key := Obj.WALL_TILE_MAP.key c (a - 1)
    { reads := key :: Obj.WALL_CHIM_TILES.key 0 c :: hearthKeys, bad := s.tooManyRuns w back (viewEntry w c a),
      named := some (if bit scope 21 then Obj.HEARTH_IMAGE.key 0 0 else key) }

/-! ### Sender: map and sums (R120, R127, R128, R334) -/

def mapChecks (v : View) : List Check :=
  (List.range 8).flatMap fun c =>
    let n := Obj.WALL_CHIM_TILES.key 0 c
    { reads := [n, Obj.CHIM_PORT_A.key 0 c, Obj.CHIM_PORT_B.key 0 c],
      bad := v Obj.WALL_CHIM_TILES 0 c != 0 && !chimneyOn v c : Check }
    :: (mappedTiles v c).flatMap fun a =>
      let e := viewEntry v c a
      let key := Obj.WALL_TILE_MAP.key c (a - 1)
      [{ reads := [key, n], bad := decide (e.tw < 8 ∨ 512 < e.tw ∨ e.tw % 4 ≠ 0) },
       { reads := [key, n], bad := decide (e.th < 8 ∨ 512 < e.th) },
       { reads := [key, n, Obj.WALL_CANVAS_W.key 0 0], bad := decide (v Obj.WALL_CANVAS_W 0 0 < e.tx + e.fw) },
       { reads := [key, n, Obj.WALL_CANVAS_H.key 0 0], bad := decide (v Obj.WALL_CANVAS_H 0 0 < e.ty + e.fh) }]

def mapKeys (c : Nat) : List Nat := Obj.WALL_CHIM_TILES.key 0 c :: (List.range 128).map fun j => Obj.WALL_TILE_MAP.key c j

def sumChecks (v : View) (engines : Nat) : List Check :=
  (List.range 8).map (fun c =>
    { reads := Obj.WALL_RATE.key 0 0 :: mapKeys c, bad := decide (chimneyAvail v < chimneyNeed v c),
      named := some (Obj.WALL_CHIM_LOAD.key 0 c) })
  ++ [{ reads := Obj.WALL_RATE.key 0 0 :: (List.range 8).flatMap mapKeys,
        bad := decide (compositorAvail v engines < compositorNeed v), named := some (Obj.WALL_COMP_LOAD.key 0 0) }]

def feederChecks (v : View) : List Check :=
  let tiles := (List.range 8).flatMap fun c => (mappedTiles v c).map fun a => (c, a)
  let feeder (p : Nat × Nat) : Nat := vNat v Obj.PWR_TILE_FEEDER p.1 (p.2 - 1)
  let key (p : Nat × Nat) : List Nat :=
    [Obj.PWR_TILE_FEEDER.key p.1 (p.2 - 1), Obj.WALL_TILE_MAP.key p.1 (p.2 - 1), Obj.WALL_CHIM_TILES.key 0 p.1]
  let each := vNat v Obj.PWR_TILE_FIXED 0 0 + vNat v Obj.PWR_BOOT_GRANT 0 0
  (List.range 16).flatMap fun f =>
    let mine := tiles.filter fun p => feeder p == f
    let budget := Obj.PWR_FEEDER_BUDGET.key 0 f
    { reads := [budget, Obj.PWR_TILE_FIXED.key 0 0, Obj.PWR_BOOT_GRANT.key 0 0] ++ mine.flatMap key,
      bad := decide (vNat v Obj.PWR_FEEDER_BUDGET 0 f < each * mine.length) : Check }
    :: mine.map fun p => { reads := budget :: key p, bad := v Obj.PWR_FEEDER_BUDGET 0 f == 0 }

def ptpChecks (v : View) : List Check :=
  [{ reads := [Obj.PTP_PROFILE.key 0 0, Obj.PTP_TRANSPORT.key 0 0],
     bad := (v Obj.PTP_PROFILE 0 0 == 1 || v Obj.PTP_PROFILE 0 0 == 2) && v Obj.PTP_TRANSPORT 0 0 == 0 }]

/-! ### Both roles: scan offset, loops, thermal thresholds (R229, R312, R314, R393) -/

/-- TIME_SCAN_OFFSET (R229) and, in a sender, TIME_FRAME_PHASE (Table 9-10) are less than T. That a commit is what refuses a
phase of T or more is DEDUCED (log 150). -/
def offsetChecks (v : View) (sender : Bool) : List Check :=
  let p := periodNs (viewRate v)
  let below (r : ObjRow) : Check :=
    { reads := [Obj.WALL_RATE.key 0 0, r.key 0 0], bad := decide (p.1 ≤ vNat v r 0 0 * p.2) }
  below Obj.TIME_SCAN_OFFSET :: (if sender then [below Obj.TIME_FRAME_PHASE] else [])

def loopChecks (v : View) (sender : Bool) : List Check :=
  let p := periodNs (viewRate v)
  (List.range 32).flatMap (fun k =>
    let rate := vNat v Obj.LOOP_RATE k 0
    let m := rate % 32768
    let locked := bit rate 15
    let input := vNat v Obj.LOOP_IN k 0
    let out := vNat v Obj.LOOP_OUT k 0
    let key (r : ObjRow) : Nat := r.key k 0
    [{ reads := [key Obj.LOOP_RATE], bad := m == 0 || (locked && decide (1024 < m)) },
     { reads := [Obj.WALL_RATE.key 0 0, key Obj.LOOP_RATE], bad := locked && decide (64000 * p.1 < m * p.2 * 1000000000) },
     { reads := [key Obj.LOOP_OUT], bad := sender && decide (0x10 ≤ out ∧ out ≠ 0xFF) },
     { reads := [key Obj.LOOP_IN], bad := sender && decide (0x10 ≤ input ∧ input ≤ 0x2F) },
     { reads := [key Obj.LOOP_OUT_MIN, key Obj.LOOP_OUT_MAX], bad := decide (v Obj.LOOP_OUT_MAX k 0 < v Obj.LOOP_OUT_MIN k 0) },
     { reads := [key Obj.LOOP_INT_MIN, key Obj.LOOP_INT_MAX],
       bad := decide (v Obj.LOOP_INT_MAX k 0 < v Obj.LOOP_INT_MIN k 0) }])
  ++ (pairsOf (List.range 32)).map fun q =>
    { reads := [Obj.LOOP_OUT.key q.1 0, Obj.LOOP_OUT.key q.2 0],
      bad := v Obj.LOOP_OUT q.1 0 != 0xFF && v Obj.LOOP_OUT q.1 0 == v Obj.LOOP_OUT q.2 0 }

def thermChecks (v : View) : List Check :=
  let w := v Obj.THERM_WARN 0 0
  let a := v Obj.THERM_THROTTLE_START 0 0
  let b := v Obj.THERM_THROTTLE_FULL 0 0
  let k (r : ObjRow) : Nat := r.key 0 0
  [{ reads := [k Obj.THERM_WARN, k Obj.THERM_THROTTLE_START], bad := decide (a ≤ w) },
   { reads := [k Obj.THERM_THROTTLE_START, k Obj.THERM_THROTTLE_FULL], bad := decide (b ≤ a) },
   { reads := [k Obj.THERM_THROTTLE_FULL], bad := decide (960 < b) }]

/-! ### Tile: engines, strands, rows, zones, targets (R129, R255, R283, R284, R288, R294, R320, R338) -/

def engineChecks (v : View) (placeable : Nat) : List Check :=
  let k (r : ObjRow) : Nat := r.key 0 0
  [{ reads := [k Obj.TILE_WIDTH], bad := decide (vNat v Obj.TILE_WIDTH 0 0 % 4 ≠ 0) },
   { reads := [k Obj.WALL_RATE, k Obj.TILE_WIDTH, k Obj.TILE_HEIGHT, k Obj.TILE_LAMPS, k Obj.PATH_CLOSE],
     bad := (match enginesRequired v with
       | some n => decide (512 < n ∨ placeable < n)
       | none => true),
     named := some (Obj.DEV_ENG_REQUIRED.key 0 0) }]

def profileKeys (n : Nat) : List Nat :=
  Obj.STR_PROF_DRIVERS.key n 0 :: (List.range 32).map fun j => Obj.STR_PROF_CHANNELS.key n j

/-- The rectangle of a strand overlaps another's. -/
def strandsMeet (v : View) (a b : Nat) : Bool :=
  let rows := scanRows (viewScan v)
  decide (strandX0 v a < strandX0 v b + strandBw v b) && decide (strandX0 v b < strandX0 v a + strandBw v a)
    && decide (strandY0 v a < strandY0 v b + rows) && decide (strandY0 v b < strandY0 v a + rows)

def strandMapChecks (v : View) : List Check :=
  let live := enabledStrands v
  let used := (List.range 16).filter fun n => live.any fun k => strandProfile v k == n
  let map (k : Nat) : Nat := Obj.STR_MAP.key 0 k
  let users (n : Nat) : List Nat := (live.filter fun k => strandProfile v k == n).map map
  let lamps := Obj.TILE_LAMPS.key 0 0
  let l := vNat v Obj.TILE_LAMPS 0 0
  let shape (k : Nat) : List Nat := map k :: lamps :: Obj.WALL_SCAN.key 0 0 :: profileKeys (strandProfile v k)
  used.flatMap (fun n =>
    let order := (List.range l).map fun p => bits (vNat v Obj.STR_PROF_ORDER n 0) (7 - 2 * p) (6 - 2 * p)
    [{ reads := Obj.STR_PROF_DRIVERS.key n 0 :: users n, bad := decide (32 < vNat v Obj.STR_PROF_DRIVERS n 0) },
     { reads := lamps :: profileKeys n ++ users n, bad := decide (sumNat (profileChannels v n) % max 1 l ≠ 0),
       named := some (Obj.STR_PROF_CHANNELS.key n 0) },
     { reads := Obj.STR_PROF_ORDER.key n 0 :: lamps :: users n, bad := !((List.range l).all fun c => order.contains c) }])
  ++ live.flatMap (fun k =>
    [{ reads := Obj.TILE_WIDTH.key 0 0 :: shape k, bad := decide (v Obj.TILE_WIDTH 0 0 < strandX0 v k + strandBw v k) },
     { reads := Obj.TILE_HEIGHT.key 0 0 :: shape k,
       bad := decide (v Obj.TILE_HEIGHT 0 0 < strandY0 v k + scanRows (viewScan v)) }])
  ++ (pairsOf live).map fun q => { reads := shape q.1 ++ shape q.2, bad := strandsMeet v q.1 q.2 }

/-- R129, and R283 against the scan of the plan in force (`was`). -/
def strandSumChecks (v was : View) : List Check :=
  let changed := decide (viewRate v ≠ viewRate was ∨ viewScan v ≠ viewScan was)
  (enabledStrands v).map fun k =>
    let need := strandNeed v (profileChannels v (strandProfile v k))
    { reads := [Obj.WALL_RATE.key 0 0, Obj.WALL_SCAN.key 0 0, Obj.STR_MAP.key 0 k] ++ profileKeys (strandProfile v k),
      bad := decide (strandAvail v < need) || (changed && decide (strandAvail was < need)),
      named := some (Obj.TILE_STRAND_LOAD.key 0 0) }

/-- The margin of Table 12-1 by PDUR, in ns. -/
def rowMargin (pre : Nat) : Nat := 80 - 20 * bits pre 2 1

def rowChecks (v : View) : List Check :=
  let n := scanRows (viewScan v)
  let order := (List.range n).map fun i => vNat v Obj.SCAN_ROW_ORDER 0 i
  let scan := Obj.WALL_SCAN.key 0 0
  { reads := scan :: (List.range n).map fun i => Obj.SCAN_ROW_ORDER.key 0 i,
    bad := !((List.range n).all fun r => order.contains r) : Check }
  :: (List.range n).flatMap fun r =>
    let m := rowMargin (vNat v Obj.SCAN_ROW_PRE 0 r)
    let pre := Obj.SCAN_ROW_PRE.key 0 r
    [{ reads := [Obj.SCAN_ROW_LEAD.key 0 0, pre, scan], bad := decide (m < vNat v Obj.SCAN_ROW_LEAD 0 0) },
     { reads := [Obj.SCAN_ROW_LAG.key 0 0, pre, scan], bad := decide (m < vNat v Obj.SCAN_ROW_LAG 0 0) }]

def zoneChecks (v : View) : List Check :=
  (enabledStrands v).map fun k =>
    let z := vNat v Obj.DAMP_STRAND_ZONE 0 k
    { reads := [Obj.STR_MAP.key 0 k, Obj.DAMP_STRAND_ZONE.key 0 k, Obj.ZONE_V_MON.key z 0],
      bad := v Obj.ZONE_V_MON z 0 == 0xFF }

/-- Twice the signed area of a triangle in xy. -/
def cross (a b c : Int × Int) : Int := (b.1 - a.1) * (c.2 - a.2) - (b.2 - a.2) * (c.1 - a.1)

def targetChecks (v : View) : List Check :=
  let prim (i : Nat) : Int × Int := (v Obj.CAL_TARGET_PRIM 0 (2 * i), v Obj.CAL_TARGET_PRIM 0 (2 * i + 1))
  let white : Int × Int := (v Obj.CAL_TARGET_WHITE 0 0, v Obj.CAL_TARGET_WHITE 0 1)
  let prims := (List.range 6).map fun j => Obj.CAL_TARGET_PRIM.key 0 j
  let area := cross (prim 0) (prim 1) (prim 2)
  let side (a b : Int × Int) : Bool := decide (cross a b white * area < 0)
  [{ reads := prims, bad := area == 0 },
   { reads := prims ++ [Obj.CAL_TARGET_WHITE.key 0 0, Obj.CAL_TARGET_WHITE.key 0 1],
     bad := side (prim 0) (prim 1) || side (prim 1) (prim 2) || side (prim 2) (prim 0) }]

/-! ### The whole validation -/

/-- Every check of the role, in the order of the chapters (log 44). -/
def State.checks (s : State) (scope target : Nat) : List Check :=
  let v := s.viewOf scope
  if s.isSender then
    let w := s.armedView scope target
    portChecks v ++ formatChecks v ++ memoryChecks v (s.nat Obj.ING_MEM_INSTALLED) ++ orderChecks v ++ windowChecks v
      ++ hearthChecks scope v w ++ mapChecks v ++ sumChecks v (s.nat Obj.DEV_ENG_IN_SERVICE)
      ++ s.runChecks scope target w ++ ptpChecks v ++ offsetChecks v true ++ loopChecks v true ++ feederChecks v ++ thermChecks v
  else
    engineChecks v (s.enginesIn 0 ++ s.enginesIn 1).length ++ strandMapChecks v ++ strandSumChecks v s.rdAt
      ++ offsetChecks v false ++ rowChecks v ++ loopChecks v false ++ zoneChecks v ++ targetChecks v ++ thermChecks v

/-- The object that the first failing check names (R48, R471); none: the set passes. -/
def State.failing (s : State) (scope target : Nat) : Option Nat := firstFailure scope (s.checks scope target)

/-! ### What the configuration in force reports (Tables 3-8, 5-7) -/

/-- The sums of the configuration in force. -/
def State.showLoads (s : State) : State :=
  let v := s.rdAt
  if s.isSender then
    let t := trafficSum v
    let s := s.wrIn Obj.ING_MEM_ALLOCATED 0 0 (bufferSum v : Nat)
    let s := s.wrIn Obj.ING_BW_COMMITTED 0 0 (roundAway t.1 (t.2 * 1000000))
    let s := (List.range 8).foldl (fun s c => s.wrIn Obj.WALL_CHIM_LOAD 0 c (permille (chimneyNeed v c) (chimneyAvail v) : Nat)) s
    s.wrIn Obj.WALL_COMP_LOAD 0 0 (permille (compositorNeed v) (compositorAvail v (s.nat Obj.DEV_ENG_IN_SERVICE)) : Nat)
  else
    let l := (enabledStrands v).map fun k =>
      permille (strandNeed v (profileChannels v (strandProfile v k))) (strandAvail v)
    s.wrIn Obj.TILE_STRAND_LOAD 0 0 (maxNat l : Nat)

end Sys2Proof.Machine
end

