-- ==== Sys2Proof/Machine/Calibrate.lean ====
section
/-! DEFINITION. Calibration (chapter 14): the photometric run and its solve, link calibration and sensor trim. The arithmetic
of R344 to R346, which the manual gives in double precision, is exact here (log 34). -/

namespace Sys2Proof.Machine

/-! ### The aging curve (R244) -/

/-- r(D) in Q1.15, exact: `d` in 2^-24 full-scale seconds, points `step` full-scale hours apart. -/
def agingR (points : List Nat) (step d : Nat) : Rat :=
  let unit := step * 3600 * 2 ^ 24
  if step = 0 then (Config.agingCorner d : Nat)
  else
    let n := d / unit
    let p (k : Nat) : Int := (points.getD k 0 : Nat)
    if 15 ≤ n then (p 15 : Rat)
    else (p n : Rat) + ((p (n + 1) - p n : Int) : Rat) * (((d % unit : Nat) : Rat) / ((unit : Nat) : Rat))

/-- The 16 points of a colour. -/
def agingPoints (t : TempSet) (c : Nat) : List Nat := (t.aging.drop (16 * c)).take 16

/-- round of a rational, halves away from zero (R467). -/
def roundRat (q : Rat) : Int := roundAway q.num q.den

/-- G_j of R244 before LAMP_AGE_ENABLE, and whether it reaches the cap. -/
def agingGain (r : Rat) (cap : Nat) : Nat × Bool :=
  let q := roundRat r
  if q ≤ 0 then (cap, true)
  else
    let g := roundAway (2 ^ 29) q.toNat
    if (cap : Int) ≤ g then (cap, true) else (g.toNat, false)

/-! ### Three-vectors and 3 × 3 matrices -/

/-- Division with the free corner at zero (log 34). -/
def quot (a b : Rat) : Rat := if b = 0 then Config.calQuotient a else a / b

structure V3 where
  x : Rat
  y : Rat
  z : Rat
deriving DecidableEq, Repr

def V3.add (a b : V3) : V3 := ⟨a.x + b.x, a.y + b.y, a.z + b.z⟩
def V3.scale (k : Rat) (a : V3) : V3 := ⟨k * a.x, k * a.y, k * a.z⟩
def V3.dot (a b : V3) : Rat := a.x * b.x + a.y * b.y + a.z * b.z
def V3.cross (a b : V3) : V3 := ⟨a.y * b.z - a.z * b.y, a.z * b.x - a.x * b.z, a.x * b.y - a.y * b.x⟩
def V3.divBy (a : V3) (d : Rat) : V3 := ⟨quot a.x d, quot a.y d, quot a.z d⟩
def v3Sum (l : List V3) : V3 := l.foldl V3.add ⟨0, 0, 0⟩

/-- A matrix by its rows. -/
structure M3 where
  a : V3
  b : V3
  c : V3
deriving DecidableEq, Repr

def M3.transpose (m : M3) : M3 := ⟨⟨m.a.x, m.b.x, m.c.x⟩, ⟨m.a.y, m.b.y, m.c.y⟩, ⟨m.a.z, m.b.z, m.c.z⟩⟩
def M3.apply (m : M3) (v : V3) : V3 := ⟨m.a.dot v, m.b.dot v, m.c.dot v⟩
def M3.mul (m n : M3) : M3 :=
  let t := n.transpose
  ⟨t.apply m.a, t.apply m.b, t.apply m.c⟩
def M3.det (m : M3) : Rat := m.a.dot (m.b.cross m.c)
def M3.trace (m : M3) : Rat := m.a.x + m.b.y + m.c.z
def M3.lin (p : Rat) (m : M3) (q : Rat) (n : M3) : M3 :=
  ⟨(m.a.scale p).add (n.a.scale q), (m.b.scale p).add (n.b.scale q), (m.c.scale p).add (n.c.scale q)⟩
def M3.one : M3 := ⟨⟨1, 0, 0⟩, ⟨0, 1, 0⟩, ⟨0, 0, 1⟩⟩
def M3.ofColumns (u v w : V3) : M3 := M3.transpose ⟨u, v, w⟩
def M3.inverse (m : M3) : M3 :=
  let d := m.det
  M3.ofColumns ((m.b.cross m.c).divBy d) ((m.c.cross m.a).divBy d) ((m.a.cross m.b).divBy d)
/-- The second elementary symmetric function of the eigenvalues. -/
def M3.minors (m : M3) : Rat := (m.trace * m.trace - (m.mul m).trace) / 2

/-- Whether the eigenvalues a, b, c of a symmetric positive semidefinite matrix have a ratio above k2: every
b/c + c/b is an eigenvalue of S = (p2 G - G^3) / det, and the ratio is within k2 when k2 + 1/k2 - S has none below 0. -/
def M3.ratioAbove (g : M3) (k2 : Rat) : Bool :=
  let e3 := g.det
  if e3 ≤ 0 then true
  else
    let p2 := g.trace * g.trace - 2 * g.minors
    let s := M3.lin (p2 / e3) g (-1 / e3) (g.mul (g.mul g))
    let d := M3.lin (k2 + 1 / k2) M3.one (-1) s
    !(decide (0 ≤ d.trace) && decide (0 ≤ d.minors) && decide (0 ≤ d.det))

/-! ### The target and the solve (R338, R344, R345) -/

/-- X, Y and Z of a chromaticity at Y = 1, scaled to lie on x + y + z = 1. -/
def xyColumn (x y : Nat) : V3 := ⟨(x : Nat) / 65536, (y : Nat) / 65536, 1 - (x : Nat) / 65536 - (y : Nat) / 65536⟩

/-- M_t of a view. -/
def targetMatrix (v : View) : M3 :=
  let p (k : Nat) : V3 := xyColumn (vNat v Obj.CAL_TARGET_PRIM 0 (2 * k)) (vNat v Obj.CAL_TARGET_PRIM 0 (2 * k + 1))
  let w := xyColumn (vNat v Obj.CAL_TARGET_WHITE 0 0) (vNat v Obj.CAL_TARGET_WHITE 0 1)
  let white := (w.divBy w.y).scale (vNat v Obj.CAL_TARGET_Y 0 0 : Nat)
  let k := (M3.ofColumns (p 0) (p 1) (p 2)).inverse.apply white
  M3.ofColumns ((p 0).scale k.x) ((p 1).scale k.y) ((p 2).scale k.z)

/-- The rows of the matrix that gives the lamp amounts of an XYZ: the inverse for three lamps, the weighted form of R344
for four. -/
def lampRows (wt : V3 × Rat) (cols : List V3) : List V3 :=
  match cols with
  | [u, v, w] =>
    let m := (M3.ofColumns u v w).inverse
    [m.a, m.b, m.c]
  | [u, v, w, q] =>
    let ws := [wt.1.x, wt.1.y, wt.1.z, wt.2]
    let outer (k : Rat) (c : V3) : M3 := ⟨c.scale (k * c.x), c.scale (k * c.y), c.scale (k * c.z)⟩
    let g := (List.zip ws [u, v, w, q]).foldl (fun m p => M3.lin 1 m 1 (outer p.1 p.2)) ⟨⟨0, 0, 0⟩, ⟨0, 0, 0⟩, ⟨0, 0, 0⟩⟩
    let i := g.inverse.transpose
    (List.zip ws [u, v, w, q]).map fun p => (i.apply p.2).scale p.1
  | _ => []

/-- CONDITION of Table 14-4. -/
def conditionBad (wt : V3 × Rat) (cols : List V3) (k : Nat) : Bool :=
  match cols with
  | [u, v, w] =>
    let m := M3.ofColumns u v w
    (m.transpose.mul m).ratioAbove ((k * k : Nat) : Rat)
  | _ =>
    let ws := [wt.1.x, wt.1.y, wt.1.z, wt.2]
    let outer (q : Rat) (c : V3) : M3 := ⟨c.scale (q * c.x), c.scale (q * c.y), c.scale (q * c.z)⟩
    let g := (List.zip ws cols).foldl (fun m p => M3.lin 1 m 1 (outer p.1 p.2)) ⟨⟨0, 0, 0⟩, ⟨0, 0, 0⟩, ⟨0, 0, 0⟩⟩
    (g.mul g).ratioAbove ((k * k : Nat) : Rat)

/-- u' and v'. -/
def uvOf (p : V3) : Rat × Rat :=
  let d := p.x + 15 * p.y + 3 * p.z
  (quot (4 * p.x) d, quot (9 * p.y) d)

/-- (Δu'v')². -/
def uvGap (p m : V3) : Rat :=
  let a := uvOf p
  let b := uvOf m
  (a.1 - b.1) * (a.1 - b.1) + (a.2 - b.2) * (a.2 - b.2)

/-- f of R348: the figure in 0.0005, rounded and at most 255. -/
def residualFigure (gap2 : Rat) : Nat :=
  ((List.range 255).filter fun n => decide ((((2 * n + 1) * (2 * n + 1) : Nat) : Rat) ≤ 16000000 * gap2)).length

/-! ### Measurement buffers (R341) -/

/-- Bytes of a buffer for the run's module. -/
def State.calSize (s : State) : Nat :=
  let e := s.module s.mods.cal.module
  32 + 12 * e.width * e.height

def State.bufBytes (s : State) (b off n : Nat) : List (Option Byte) :=
  (List.range n).map fun i =>
    (s.mods.cal.bufs.find? fun c => c.1 == b * 2 ^ 20 + off + i).map (·.2)
def State.bufNat (s : State) (b off n : Nat) : Option Nat :=
  (s.bufBytes b off n).foldl (fun a x => match a, x with
    | some a, some x => some (a * 256 + x.toNat)
    | _, _ => none) (some 0)

/-- CAL_MEAS_STATE of a buffer: 0 empty, 1 partial, 2 complete, 3 malformed. -/
def State.bufState (s : State) (b : Nat) : Nat :=
  let n := (s.mods.cal.bufs.filter fun c => c.1 / 2 ^ 20 == b && decide (c.1 % 2 ^ 20 < s.calSize)).length
  if n = 0 then 0
  else if n < s.calSize then 1
  else if s.bufNat b 0 1 = some b ∧ s.bufNat b 1 1 = some s.mods.cal.module then 2
  else 3

def State.showBuf (s : State) (b : Nat) : State := s.wrAt Obj.CAL_MEAS_STATE 0 b (s.bufState b)

/-- Bytes written into a buffer. -/
def State.bufWrite (s : State) (b off : Nat) (bytes : List Byte) : State :=
  (s.setCal { s.mods.cal with bufs := memWrite s.mods.cal.bufs (b * 2 ^ 20 + off) bytes }).showBuf b

/-- CAL_MEAS_CLEAR. -/
def State.measClear (s : State) : State :=
  let s := s.setCal { s.mods.cal with bufs := [] }
  (List.range 33).foldl (fun s b => s.wrAt Obj.CAL_MEAS_STATE 0 b 0) s

/-- BULK: a tile with an address takes the packet, which frees its queue entry (R185, R190); only in state 1 are its bytes
written (R341). -/
def bulkEffect (h : BulkHdr) (off : Nat) (bytes : List Byte) (s : State) : State :=
  if s.isTile && s.nat Obj.TILE_ADDRESS != 0 then
    let s := s.freeEntry h.pathB 0
    if s.pairMUp && s.rd Obj.CAL_STATE == 1 && decide (h.transfer ≤ 32) && decide (off * 8 + bytes.length ≤ s.calSize) then
      s.bufWrite h.transfer (off * 8) bytes
    else s
  else s

def execBulk (t : Cyc) (h : BulkHdr) (off : Nat) (bytes : List Byte) (s : State) : Host.Outcome State Fault Refusal :=
  s.run t (bulkEffect h off bytes)

/-- CAL_BULK_DATA: the window leaves as BULK packets of at most 56 bytes on both paths of the chimney of CAL_BULK_DEST;
the reply follows the last of them (R341). -/
def State.bulkRelay (s : State) (off : Nat) (bytes : List Byte) (slot : Nat) : State :=
  let d := s.nat Obj.CAL_BULK_DEST
  let c := bits d 26 24
  let a := bits d 23 16
  let n := ceilDiv bytes.length 56
  (List.range n).foldl (fun s i =>
    let part := (bytes.drop (56 * i)).take 56
    s.onBoth c fun _ =>
      { cls := 0, blocks := 1 + ceilDiv part.length 8, dst := a, at_ := s.now, typ := 0x50,
        words := [((bits d 7 0 : Nat) : Int), (((off + 56 * i) / 8 : Nat) : Int)] ++ part.map (fun b => (b.toNat : Int)),
        last := if i + 1 = n then some slot else none }) s

/-! ### The run (R339 to R343, R347, R349, R350) -/

/-- Patterns of a kind (Table 14-2). -/
def State.calPatterns (s : State) : List Nat :=
  let l := s.nat Obj.TILE_LAMPS
  if s.mods.cal.kind = 1 then 0 :: (List.range l).map fun c => 1 + 8 * c
  else (List.range l).flatMap fun c => (List.range 8).map fun k => 1 + 8 * c + k

def State.calPattern (s : State) (p : Option Nat) : State := s.setCal { s.mods.cal with pattern := p }

/-- The run ends (state 5) with a reason. -/
def State.calEnd (s : State) (reason : Nat) : State :=
  let s := (s.setCal { s.mods.cal with pattern := none, stop := none, opener := none })
  (s.wr Obj.CAL_STATE 5).wr Obj.CAL_REASON reason

/-- CAL_OPEN: state 1 with empty buffers; BUSY in states 2 to 4. -/
def State.calOpen (s : State) (slot : Nat) : State × Nat :=
  let q := s.nat Obj.CAL_STATE
  if 2 ≤ q ∧ q ≤ 4 then (s, st.BUSY)
  else
    let s := s.measClear
    let s := s.setCal { s.mods.cal with
      opener := some (slot, (s.session slot).epoch), module := s.nat Obj.CAL_MODULE, kind := s.nat Obj.CAL_KIND,
      pattern := none, prot := [], solved := 0, stop := none }
    ((s.wr Obj.CAL_STATE 1).wr Obj.CAL_PROGRESS 0, st.OK)

/-- CAL_RUN: state 2; the pattern ends. -/
def State.calRun (s : State) : State × Nat :=
  if s.nat Obj.CAL_STATE = 1 then
    let s := s.setCal { s.mods.cal with pattern := none, solved := 0 }
    ((s.wr Obj.CAL_STATE 2).wr Obj.CAL_PROGRESS 0, st.OK)
  else let (r, s) := s.freeRefusal; (s, r)

/-- Whether the store of a region belongs to the photometric run in state 4. -/
def State.runStores (s : State) (region : Nat) (p : Payload) : Bool :=
  s.rd Obj.CAL_STATE == 4 && region == 16 + 8 * s.mods.cal.module + s.nat Obj.CAL_SET_INDEX &&
    (match p with | .field _ f => !f.revert | _ => false)

/-- CAL_ABORT: to state 0 from 1 and 5; in states 2 to 4 at the next step boundary. A store of the run that still waits is not
started: the run ends at once. -/
def State.calAbort (s : State) : State × Nat :=
  match s.nat Obj.CAL_STATE with
  | 0 => (s, st.OK)
  | 1 => ((s.setCal { s.mods.cal with pattern := none, opener := none }).wr Obj.CAL_STATE 0, st.OK)
  | 5 => ((s.setCal { s.mods.cal with pattern := none, opener := none }).wr Obj.CAL_STATE 0, st.OK)
  | _ =>
    let mine (q : Nat × Store) : Bool := s.runStores q.2.region q.2.payload
    if s.nv.waiting.any mine then
      ((s.setNv { s.nv with waiting := s.nv.waiting.filter fun q => !mine q }).calEnd 0x0D, st.OK)
    else (s.setCal { s.mods.cal with stop := some 0x0D }, st.OK)

/-- CAL_PATTERN_SHOW 0 to 32 in state 1 (R340). -/
def State.patternShow (s : State) (p : Nat) : State × Nat :=
  if s.nat Obj.CAL_STATE = 1 then (s.calPattern (some p), st.OK)
  else let (r, s) := s.freeRefusal; (s, r)

/-- CAL_PATTERN_SHOW 0xFF. -/
def State.patternEnd (s : State) : State × Nat := (s.calPattern none, st.OK)

/-- R350: the run ends at its next step with a reason; in state 1, where no step runs, at once (log 49). -/
def State.calStop (s : State) (reason : Nat) : State :=
  match s.nat Obj.CAL_STATE with
  | 1 => s.calEnd reason
  | 2 => s.setCal { s.mods.cal with stop := some (s.mods.cal.stop.getD reason) }
  | 3 => s.setCal { s.mods.cal with stop := some (s.mods.cal.stop.getD reason) }
  | _ => s

def Module.pixels (x : Module) : Nat := x.width * x.height

/-- CAL_UNIT_START (R349): at most 64 pixels, after the drive buffer of the frame, ending 10 µs before the next close. -/
def calUnitStart (s : State) : State :=
  if !s.isTile || s.rd Obj.CAL_STATE != 2 then s
  else match s.mods.cal.stop with
  | some r => s.calEnd r
  | none =>
    let px := (s.module s.mods.cal.module).pixels
    let n := min 64 (px - s.mods.cal.solved)
    let cost := n * (if s.mods.cal.kind = 1 then 3000 else 12000)
    let free := match s.lamp.job with | some j => j.done | none => true
    let fits := s.paths.frames.all fun f => decide (s.now + cost + us 10 ≤ f.closeAt)
    if free && fits && s.mods.thermal.pausedAt.isNone && decide (0 < n) then
      let d := s.mods.cal.solved + n
      (s.setCal { s.mods.cal with solved := d }).wr Obj.CAL_PROGRESS d
    else s

def execCalUnitStart (t : Cyc) (s : State) : Host.Outcome State Fault Refusal := s.run t calUnitStart

/-- CAL_SOLVE_DONE: every pixel is solved. -/
def calSolveDone (s : State) : State :=
  if !s.isTile || s.rd Obj.CAL_STATE != 2 then s
  else match s.mods.cal.stop with
  | some r => s.calEnd r
  | none => if (s.module s.mods.cal.module).pixels ≤ s.mods.cal.solved then s.wr Obj.CAL_STATE 3 else s

def execCalSolveDone (t : Cyc) (s : State) : Host.Outcome State Fault Refusal := s.run t calSolveDone

/-- XYZ of pixel n of the module in buffer b, in cd/m²; none where not measured or not written. -/
def State.measured (s : State) (b n : Nat) : Option V3 :=
  match s.bufNat b (32 + 12 * n) 4, s.bufNat b (36 + 12 * n) 4, s.bufNat b (40 + 12 * n) 4 with
  | some x, some y, some z =>
    if x = 0xFFFFFFFF then none else some ⟨(x : Nat) / 65536, (y : Nat) / 65536, (z : Nat) / 65536⟩
  | _, _, _ => none

/-- What the solve of a pixel reads. `old` is its record in set i, `set` that set. -/
structure SolveCtx where
  lamps : Nat
  wCal : Rat
  wFs : Rat
  wt : V3 × Rat
  target : M3
  set : TempSet
  old : List Int × List (Int × Int)
  step : Nat
  key : Nat → Nat

def SolveCtx.b (c : SolveCtx) (j : Nat) : Rat := ((c.old.2.getD j (0, 0)).2 : Rat) / 16

/-- A pixel solved: its new record, whether GAIN, CONDITION or RESIDUAL fails, and the figure. -/
structure Solved where
  record : List Int × List (Int × Int)
  gain : Bool
  cond : Bool
  resid : Bool
  figure : Nat

/-- The light of a code over full scale with parameters (H, kappa, b) of lamp j (R246). -/
def SolveCtx.lightOf (c : SolveCtx) (h : Nat) (kap : Int) (j : Nat) (code : Code) : Rat :=
  if code.w = 0 then 0
  else
    let eta : Rat := (h : Nat) / 32768 * (1 + (kap : Rat) / 16384 * (code.s : Nat))
    let w := ((code.w : Nat) : Rat) - c.b j
    (if w ≤ 0 then 0 else w) * eta / (c.wFs * ((2 ^ code.s : Nat) : Rat))

/-- R344 for one pixel: `xyz c` its measurement of pattern 1 + 8c, `white` that of pattern 0. -/
def State.solveMatrix (s : State) (c : SolveCtx) (xyz : Nat → V3) (white : V3) : Solved :=
  let full := (List.range c.lamps).map fun j => (xyz j).divBy ((c.wCal - c.b j) / c.wFs)
  let dose (j : Nat) : Nat := look 0 (c.key j) s.mods.cal.doses
  let zero := full.zipIdx.map fun q => q.1.divBy (agingR (agingPoints c.set q.2) c.step (dose q.2) / 32768)
  let rows := lampRows c.wt zero
  let t := c.target.transpose
  let m := rows.flatMap fun r =>
    let a := t.apply r
    [roundRat (16384 * a.x), roundRat (16384 * a.y), roundRat (16384 * a.z)]
  let v := s.rdAt
  let big := m.any fun x => decide (vNat v Obj.CAL_COEF_MAX 0 0 < x.natAbs)
  let sums := (List.range c.lamps).map fun j => sumInt ((m.drop (3 * j)).take 3)
  let off := sums.zipIdx.any fun q =>
    let low : Int := if q.2 < 3 then vNat v Obj.CAL_GAIN_MIN 0 0 else 0
    decide (2 * q.1 < low) || decide (16384 < q.1)
  let kap (j : Nat) : Int := (c.old.2.getD j (0, 0)).1
  let pred := v3Sum (full.zipIdx.map fun q =>
    let code : Code := look {} (c.key q.2) s.mods.cal.white
    q.1.scale (c.lightOf (effOf c.set q.2 code.s) (kap q.2) q.2 code))
  let gap := uvGap pred white
  let lim := ((vNat v Obj.CAL_RESID_UV_MAX 0 0 : Nat) : Rat) / 10000
  let dy := quot (pred.y - white.y) white.y
  let tol := ((vNat v Obj.CAL_RESID_Y_MAX 0 0 : Nat) : Rat) / 100
  { record := (m, c.old.2), gain := big || off, cond := conditionBad c.wt zero (vNat v Obj.CAL_COND_MAX 0 0),
    resid := decide (lim * lim < gap) || decide (tol < dy) || decide (dy < -tol), figure := residualFigure gap }

/-- eta[j][s] of R345. -/
def etaOf (xyz : Nat → Nat → V3) (j k : Nat) : Rat := quot ((xyz j k).y * ((2 ^ k : Nat) : Rat)) (xyz j 0).y

/-- The lamp amounts of lamp j at step k in units of the step-0 lamps. -/
def alphaOf (c : SolveCtx) (xyz : Nat → Nat → V3) (j k : Nat) : List Rat :=
  (lampRows c.wt ((List.range c.lamps).map fun i => xyz i 0)).map fun r => r.dot (xyz j k)

/-- One pixel's term of E[j][s][i]. -/
def chromaTerm (c : SolveCtx) (xyz : Nat → Nat → V3) (j k i : Nat) : Rat :=
  let a := alphaOf c xyz j k
  quot (a.getD i 0 * (c.wCal - c.b i)) (a.getD j 0 * (c.wCal - c.b j))

/-- kappa_j against the exact H of its colour, in units of 2^-14. -/
def kappaOf (h : Nat → Rat) (xyz : Nat → Nat → V3) (j : Nat) : Int :=
  let d (k : Nat) : Rat := quot (etaOf xyz j k) (h k) - 1
  roundRat (16384 * ((List.range 7).foldl (fun a k => a + ((k + 1 : Nat) : Rat) * d (k + 1)) 0) / 140)

/-- R345 and R346 for one pixel, with the module's H (exact and rounded) and E. -/
def State.solveStep (s : State) (c : SolveCtx) (hx : Nat → Nat → Rat) (new : TempSet) (xyz : Nat → Nat → V3) : Solved :=
  let kaps := (List.range c.lamps).map fun j => kappaOf (hx j) xyz j
  let bad := kaps.any fun k => decide (k < -2048) || decide (2047 < k)
  let full := (List.range c.lamps).map fun i => (xyz i 0).divBy ((c.wCal - c.b i) / c.wFs)
  let v := s.rdAt
  let lim := ((vNat v Obj.CAL_RESID_UV_MAX 0 0 : Nat) : Rat) / 10000
  let tol := ((vNat v Obj.CAL_RESID_Y_MAX 0 0 : Nat) : Rat) / 100
  let shots := (List.range c.lamps).flatMap fun j => (List.range 8).map fun k => (j, k)
  let errs := shots.map fun q =>
    let y := c.lightOf (effOf new q.1 q.2) (kaps.getD q.1 0) q.1 { w := c.wCal.num.toNat, s := q.2 }
    let light := v3Sum (full.zipIdx.map fun f =>
      f.1.scale (if f.2 = q.1 then y else y * ((chromaOf new q.1 q.2 f.2 : Int) : Rat) / 32768))
    let m := xyz q.1 q.2
    (uvGap light m, quot (light.y - m.y) m.y)
  let worst := errs.foldl (fun a e => if a < e.1 then e.1 else a) 0
  { record := (c.old.1, (List.zip kaps c.old.2).map fun q => (q.1, q.2.2)), gain := bad, cond := false,
    resid := errs.any fun e => decide (lim * lim < e.1) || decide (tol < e.2) || decide (e.2 < -tol),
    figure := residualFigure worst }

/-- Mean of exact values; the corner where there are none. -/
def meanRat (l : List Rat) : Rat := quot (l.foldl (· + ·) 0) (l.length : Nat)

/-- The used showings, each with its index. -/
def State.usedShowings (s : State) : List (Nat × Showing) :=
  s.mods.cal.shown.filter fun q => s.calPatterns.contains q.1

/-- PATTERN of R343 for one buffer. -/
def State.captureOutside (s : State) (p : Nat) : Bool :=
  match s.mods.cal.shown.find? fun q => q.1 == p, s.bufNat p 4 12, s.bufNat p 16 12 with
  | some (_, x), some a, some b =>
    let a := ofTime96 a
    let b := ofTime96 b
    let past (w : Nat) : Bool := match x.stop with | some e => decide (e < w) | none => false
    decide (a < x.start) || decide (b < x.start) || past a || past b
  | none, _, _ => true
  | _, _, _ => false

/-- Index of the value nearest to `x`, the lowest on a tie. -/
def nearestIndex (x : Rat) (l : List Int) : Nat :=
  let d (k : Nat) : Rat := let e := (l.getD k 0 : Rat) - x; if e < 0 then -e else e
  (List.range l.length).foldl (fun m k => if d k < d m then k else m) 0

/-- What the checks of a run find: set index, mean temperature in 0.125 °C, run-level reason, the new set. -/
structure RunOutcome where
  index : Nat
  temp : Rat
  reason : Option Nat
  set : TempSet
  pixels : List (Option Solved)

/-- The run's checks of R343, in the order of Table 14-4. -/
def State.runReason (s : State) (i : Nat) (mean : Rat) (temps : List Int) : Option Nat :=
  let ps := s.calPatterns
  let used := s.usedShowings.map (·.2)
  let spread := used.foldl (fun m x => max m x.most) (-(2 ^ 31)) - used.foldl (fun m x => min m x.least) (2 ^ 31)
  let near := mean - (temps.getD i 0 : Rat)
  let lim : Rat := ((s.nat Obj.CAL_TEMP_TOL * 8 : Nat) : Rat)
  let t (k : Nat) : Rat := if k = i then mean else (temps.getD k 0 : Rat)
  if ps.any fun p => s.bufState p != 2 then some 0x02
  else if ps.any s.captureOutside then some 0x03
  else if used.any (·.trimmed) then some 0x04
  else if decide ((s.nat Obj.CAL_TEMP_DRIFT * 256 : Nat) < spread) || decide (lim < near) || decide (near < -lim) then
    some 0x05
  else if decide (t 1 < t 0 + 40) || decide (t 2 < t 1 + 40) then some 0x06
  else none

/-- The run as a whole: every pixel solved, with the set that would replace set i. -/
def State.solveRun (s : State) : RunOutcome :=
  let cal := s.mods.cal
  let x := s.module cal.module
  let v := s.rdAt
  let sets := x.setsInUse
  let temps := sets.map (·.temp)
  let used := s.usedShowings.map (·.2)
  let mean := meanRat (used.map fun q => ((q.least + q.most : Int) : Rat) / 512)
  let i := nearestIndex mean temps
  let set := sets.getD i nominalSet
  let lamps := s.nat Obj.TILE_LAMPS
  let f := wFs s.rate s.scan
  let w (k : Nat) : Rat := ((vNat v Obj.CAL_L4_WEIGHT 0 k : Nat) : Rat) / 32768
  let x0 := vNat v Obj.MOD_X0 cal.module 0
  let y0 := vNat v Obj.MOD_Y0 cal.module 0
  let place (n : Nat) : Nat × Nat := (x0 + n % max 1 x.width, y0 + n / max 1 x.width)
  let ctx (n : Nat) : SolveCtx :=
    { lamps := lamps, wCal := ((wMax s.rate s.scan * s.nat Obj.CAL_PATTERN_LEVEL / 32768 : Nat) : Rat),
      wFs := ((f.1 : Nat) : Rat) / ((f.2 : Nat) : Rat), wt := (⟨w 0, w 1, w 2⟩, w 3), target := targetMatrix v, set := set,
      old := ((set.pixels[n]?).map (recordOf lamps)).getD (nominalPixel lamps), step := x.deltaD,
      key := fun j => lampKey (place n).1 (place n).2 j }
  let prot (n : Nat) : Bool := cal.prot.contains ((place n).2 * 512 + (place n).1)
  let seen (n : Nat) : Bool := !prot n && s.calPatterns.all fun p => (s.measured p n).isSome
  let xyz (n p : Nat) : V3 := (s.measured p n).getD ⟨0, 0, 0⟩
  let all := List.range x.pixels
  let temp := roundRat mean
  if cal.kind = 1 then
    let out := all.map fun n => if seen n then
        some (s.solveMatrix (ctx n) (fun j => xyz n (1 + 8 * j)) (xyz n 0))
      else none
    { index := i, temp := mean, reason := s.runReason i mean temps, set := { set with temp := temp }, pixels := out }
  else
    let shot (n j k : Nat) : V3 := xyz n (1 + 8 * j + k)
    let mine := all.filter seen
    let hx (j k : Nat) : Rat := meanRat (mine.map fun n => etaOf (shot n) j k)
    let ex (j k o : Nat) : Rat := meanRat (mine.map fun n => chromaTerm (ctx n) (shot n) j k o)
    let others (j : Nat) : List Nat := (List.range 4).filter fun o => o != j
    let h := (List.range 4).flatMap fun j => (List.range 7).map fun k =>
      if j < lamps then (roundRat (32768 * hx j (k + 1))).toNat else set.h.getD (j * 7 + k) 0
    let e := (List.range 4).flatMap fun j => (List.range 7).flatMap fun k => (others j).zipIdx.map fun o =>
      if j < lamps ∧ o.1 < lamps then roundRat (32768 * ex j (k + 1) o.1) else set.e.getD ((j * 7 + k) * 3 + o.2) 0
    let new : TempSet := { set with temp := temp, h := h, e := e }
    let wild := (List.range lamps).any fun j => (List.range 7).any fun k =>
      decide (hx j (k + 1) < 1 / 2) || decide (19999 / 10000 < hx j (k + 1))
        || (others j).any fun o => decide (o < lamps)
          && (decide (1 / 8 < ex j (k + 1) o) || decide (ex j (k + 1) o < -1 / 8))
    let out := all.map fun n => if seen n then some (s.solveStep (ctx n) hx new (shot n)) else none
    { index := i, temp := mean, pixels := out, set := new,
      reason := match s.runReason i mean temps with
        | some r => some r
        | none => if wild then some 0x07 else none }

def Solved.fails (p : Solved) : Bool := p.gain || p.cond || p.resid
/-- The first failing check of a pixel, in table order. -/
def Solved.reason (p : Solved) : Nat := if p.gain then 0x07 else if p.cond then 0x08 else 0x09

/-- The most frequent reason among failing pixels: GAIN before CONDITION before RESIDUAL (R347). -/
def worstReason (l : List Nat) : Nat :=
  let n (r : Nat) : Nat := (l.filter (· == r)).length
  let m := if n 0x07 < n 0x08 then 0x08 else 0x07
  if n m < n 0x09 then 0x09 else m

/-- The run's failure of R343 or R347. -/
def State.calFail (s : State) (reason : Nat) : State := (s.calEnd reason).raise 0x4D s.mods.cal.module reason

/-- CAL_CHECK_DONE: the figures, then R347. -/
def calCheckDone (s : State) : State :=
  if !s.isTile || s.rd Obj.CAL_STATE != 3 then s
  else match s.mods.cal.stop with
  | some r => s.calEnd r
  | none =>
    let o := s.solveRun
    let m := s.mods.cal.module
    let x := s.module m
    let x0 := s.natAt Obj.MOD_X0 m 0
    let y0 := s.natAt Obj.MOD_Y0 m 0
    let solved := o.pixels.filterMap id
    let failing := solved.filter Solved.fails
    let nf := failing.length
    let hist := (List.range 16).map fun b => (solved.filter fun p => min 15 (p.figure / 2) == b).length
    let results := o.pixels.zipIdx.filterMap fun q => q.1.map fun p =>
      ((y0 + q.2 / max 1 x.width) * 512 + x0 + q.2 % max 1 x.width, (if p.fails then p.reason else 0), p.figure)
    let old := (x.setsInUse.getD o.index nominalSet).pixels
    let lamps := s.nat Obj.TILE_LAMPS
    let keep (n : Nat) : List Nat := old.getD n (recordWords lamps (nominalPixel lamps))
    let px := o.pixels.zipIdx.map fun q => match q.1 with
      | some p => if p.fails then keep q.2 else recordWords lamps p.record
      | none => keep q.2
    let set := { o.set with pixels := px }
    let s := s.setCal { s.mods.cal with results := results, hist := hist }
    let s := (s.wr Obj.CAL_SET_INDEX o.index).wrIn Obj.CAL_SET_TEMP 0 0 (roundRat o.temp)
    let s := (s.wrIn Obj.CAL_PX_FAILED 0 0 nf).wrIn Obj.CAL_PX_SKIPPED 0 0 ((o.pixels.length - solved.length : Nat) : Int)
    let s := (List.range 16).foldl (fun s b => s.wrIn Obj.CAL_HIST 0 b (hist.getD b 0 : Nat)) s
    match o.reason with
    | some r => s.calFail r
    | none =>
      if s.nat Obj.CAL_FAIL_LIMIT < nf then s.calFail (worstReason (failing.map Solved.reason))
      else
        let s := (s.wr Obj.CAL_STATE 4).wr Obj.CAL_REASON (if nf = 0 then 0 else 1)
        let rec_ : FieldSet := { serial := x.serial, digest := x.digest / 2 ^ 256, revert := false, set := set, hist := hist }
        s.requestStore { region := 16 + 8 * m + o.index, slot := none, payload := .field o.index rec_ }

def execCalCheckDone (t : Cyc) (s : State) : Host.Outcome State Fault Refusal := s.run t calCheckDone

/-- CAL_FIELD_REVERT (R357): [11:8] module, [1:0] set index. -/
def State.fieldRevert (s : State) (value : Nat) : State × Nat :=
  let m := bits value 11 8
  let i := bits value 1 0
  if i = 3 then (s, st.RANGE)
  else
    let x := s.module m
    let rec_ : FieldSet :=
      { serial := x.serial, digest := x.digest / 2 ^ 256, revert := true, set := nominalSet, hist := [] }
    (s.requestStore { region := 16 + 8 * m + i, slot := none, payload := .field i rec_ }, st.OK)

/-! ### Link calibration (R352, R353) -/

/-- The link record as it will stand: that of a store in progress or waiting, else the one in use (R357). -/
def State.linkRecord (s : State) : List Nat :=
  let of (x : Store) : Option (List Nat) := match x.payload with | .link l => some l | _ => none
  let pending := (s.nv.busy ++ s.nv.waiting).filterMap fun q => of q.2
  match pending.getLast? with
  | some l => l
  | none => match s.record 2 with
    | some (.link l) => l
    | _ => List.replicate 512 0

/-- CAL_LINK_RUN on a port; a port that holds a run refuses another with a status that is not stated. -/
def State.linkRunStart (s : State) (p : Nat) (auto : Bool) : State × Nat :=
  let r := s.linkRun p
  if r.active then let (v, s) := s.freeRefusal; (s, v)
  else
    (s.setRun p { r with active := true, auto := auto, start := s.now, band := s.band p, ok := s.rxUp p,
                         clockOk := s.rdAt Obj.PHY_RX_CLK_SRC p 0 == 0, bandOk := true, eyes := [], least := [] }, st.OK)

/-- CAL_LINK_RUN: port 0 to 15. -/
def State.linkRunCmd (s : State) (p : Nat) : State × Nat := if 16 ≤ p then (s, st.RANGE) else s.linkRunStart p false

/-- The reason of a link run that ends: 0 where it passes. A lane without a fresh value has no least eye and fails EYE
(log 47). -/
def State.linkReason (s : State) (p : Nat) : Nat :=
  let r := s.linkRun p
  if !r.ok then 0x10
  else if !r.clockOk then 0x0E
  else if !r.bandOk then 0x05
  else if (List.range 4).any fun l =>
    let e := look 200 l r.least
    s.natAt Obj.PHY_EYE_WIDTH p l == 127 || e == 127 || e == 200 || decide (e < s.nat Obj.CAL_LINK_EYE_MIN) then 0x0F
  else 0

/-- LINK_RUN_END: four fresh eyes on every lane, or 10 s. -/
def linkRunEnd (p : Nat) (s : State) : State :=
  let r := s.linkRun p
  let full := (List.range 4).all fun l => decide (4 ≤ look 0 l r.eyes)
  if !r.active || s.mods.thermal.pausedAt.isSome || !(full || decide (r.start + seconds 10 ≤ s.now)) then s
  else
    let reason := s.linkReason p
    let next := if r.auto && reason != 0 then s.now + seconds 600 else r.next
    let s := (s.setRun p { r with active := false, next := next }).wr Obj.CAL_LINK_REASON reason
    if reason != 0 then s.raise 0x12 p reason
    else
      let rec_ := (List.range 4).foldl (fun l k =>
        setAt l ((p * 8 + r.band) * 4 + k)
          (2 ^ 63 + look 0 k r.least * 2 ^ 56 + s.natAt Obj.PHY_RX_EQ p k % 2 ^ 44)) s.linkRecord
      s.requestStore { region := 2, slot := none, payload := .link rec_ }

def execLinkRunEnd (t : Cyc) (port : Nat) (s : State) : Host.Outcome State Fault Refusal := s.run t (linkRunEnd port)

/-- LINK_RUN_AUTO_START: 60 s up in forwarded clocking within a band that has no entry. -/
def linkRunAutoStart (p : Nat) (s : State) : State :=
  let r := s.linkRun p
  let has := (List.range 4).any fun k => bit (s.linkRecord.getD ((p * 8 + s.band p) * 4 + k) 0) 63
  if decide (p < 16) && s.flag Obj.CAL_LINK_AUTO && s.mods.thermal.pausedAt.isNone && s.rxUp p && s.forwarded p
      && s.rdAt Obj.PHY_RX_CLK_SRC p 0 == 0 && decide (r.steady + seconds 60 ≤ s.now) && decide (r.next ≤ s.now) && !has
      && !r.active then
    (s.linkRunStart p true).1
  else s

def execLinkRunAutoStart (t : Cyc) (port : Nat) (s : State) : Host.Outcome State Fault Refusal :=
  s.run t (linkRunAutoStart port)

/-- CAL_LINK_CLEAR: the entries of one port are invalidated by a store without them. -/
def State.linkClear (s : State) (p : Nat) : State × Nat :=
  if 16 ≤ p then (s, st.RANGE)
  else
    let l := s.linkRecord.zipIdx.map fun q => if q.2 / 32 = p then 0 else q.1
    (s.requestStore { region := 2, slot := none, payload := .link l }, st.OK)

/-- CAL_LINK_BANDS follows the record in use. -/
def State.showLinkBands (s : State) : State :=
  (List.range 16).foldl (fun s p =>
    s.wrAt Obj.CAL_LINK_BANDS 0 p (sumNat ((List.range 8).map fun b =>
      if (List.range 4).any fun k => bit (s.linkEntry p b k) 63 then 2 ^ b else 0) : Nat)) s

/-! ### Sensor trim (R354) -/

/-- CAL_TRIM_RUN: 10 s of readings at the declared soak temperature. -/
def State.trimRun (s : State) : State × Nat :=
  match s.mods.cal.trimAt with
  | some _ => let (v, s) := s.freeRefusal; (s, v)
  | none => (s.setCal { s.mods.cal with trimAt := some s.now, soak := s.rd Obj.CAL_TRIM_SOAK }, st.OK)

/-- Whether the data plane is active in the sense of R354. -/
def State.trimActive (s : State) : Bool :=
  if s.isSender then
    (List.range 8).any (fun c => chimneyOn s.rdAt c) || (List.range 8).any s.slotOn
  else decide (2 ≤ s.nat Obj.TILE_STATE) || !(enabledStrands s.rdAt).isEmpty

/-- TRIM_RUN_END: the readings are those of the trimmed conversions' fixed curve, before any offset (log 50). -/
def trimRunEnd (sites : List SiteReadings) (s : State) : State :=
  match s.mods.cal.trimAt with
  | none => s
  | some t0 =>
    if s.now < t0 + seconds 10 then s
    else
      let soak := s.mods.cal.soak
      let s := s.setCal { s.mods.cal with trimAt := none }
      let sums := sites.map (·.sum)
      let span := (sortInt sums).getLastD 0 - (sortInt sums).headD 0
      let offs := sums.map fun v => 400 * soak - v
      let reason : Nat :=
        if s.trimActive then 0x13
        else if s.nat Obj.THERM_BROKEN ≠ 0 then 0x14
        else if (sites.any fun q => decide (4 < q.most - q.least)) || decide (24 * 400 < span) then 0x11
        else if offs.any fun v => decide (s.nat Obj.CAL_TRIM_MAX * 8 * 400 < v.natAbs) then 0x12
        else 0
      let s := s.wr Obj.CAL_TRIM_REASON reason
      if reason ≠ 0 then s.raise 0x77 0 reason
      else s.requestStore { region := 3, slot := none, payload := .trim (offs.map fun v => roundAway v 400) }

def execTrimRunEnd (t : Cyc) (sites : List SiteReadings) (s : State) : Host.Outcome State Fault Refusal :=
  s.run t (trimRunEnd sites)

end Sys2Proof.Machine
end

