-- ==== Sys2Proof/Machine/Modules.lean ====
section
/-! DEFINITION. Modules, identity and security (chapter 15): OPEN, anchors, key revocation, polls and bindings, lamp history,
the aging sweep, and what the end of a flash store puts in use (R356, R357). -/

namespace Sys2Proof.Machine

/-! ### Anchors (R362, R363, R366) -/

/-- An anchor slot as a number; 0 where it is empty. -/
def State.anchorAt (s : State) (r : ObjRow) (j : Nat) : Nat := ofBytes (s.blobBytes (r.key 0 j) 0 97)

/-- The bit of SEC_CLIENT_ROLES that grants a role; none for the Safety and Vendor roles. -/
def roleBit : SessRole → Option Nat
  | .observer => some 1
  | .operator => some 2
  | .integrator => some 3
  | .safety => none
  | .vendor => none

/-- Whether the anchors grant a role to certificates issued by a key (Table 15-1, R368). -/
def State.anchorGrants (s : State) (key : Nat) (r : SessRole) : Bool :=
  match r with
  | .vendor => key == Config.vendorAnchor
  | .safety => s.isSender && key != 0 && (List.range 2).any fun j => s.anchorAt Obj.SEC_SAFETY_ANCHOR j == key
  | .observer | .operator | .integrator =>
    key != 0 && (List.range 2).any fun j =>
      s.anchorAt Obj.SEC_CLIENT_ANCHOR j == key &&
        (roleBit r).any fun b => bit (s.natAt Obj.SEC_CLIENT_ROLES 0 j) b

/-- A change of an anchor ends, abnormally, the sessions whose certificate no longer verifies with its role (R362); the
chimney session and a Vendor session rest on the ROM. -/
def State.anchorsChanged (s : State) : State :=
  s.openSlots.foldl (fun s k =>
    let x := s.session k
    let held := x.role == .vendor || s.anchorGrants x.anchor x.role
    if held || (s.isTile && k == 0) then s else s.endSession k false) s

/-- A persistent object (R64). -/
def keptKey (key : Nat) : Bool :=
  match rowOfKey key with
  | some (r, _, _) => r.keep
  | none => false

/-- A persistent value has changed: an automatic save falls due (R66). -/
def State.noteChange (s old : State) : State :=
  let of (x : State) : List (Nat × Int) := x.dict.filter fun q => keptKey q.1
  let ob (x : State) : List Host.Cell := x.blob.filter fun q => keptKey (q.1 / 2 ^ 32)
  if s.flag Obj.PERSIST_AUTO && (of s != of old || ob s != ob old || s.video.hearth.front != old.video.hearth.front) then
    { s with sess := { s.sess with autoDue := true } }
  else s

/-- The bytes of an anchor slot replaced. -/
def State.setAnchor (s : State) (r : ObjRow) (j : Nat) (bytes : List Byte) : State :=
  { s with blob := writeBytes blobCellDefault s.blob (blobAddr (r.key 0 j) 0) bytes }

/-- A claim (R366): a self-signed certificate over SVC while both slots of its kind are empty. -/
def State.claims (s : State) (o : OpenMsg) : Option (ObjRow × SessRole) :=
  let empty (r : ObjRow) : Bool := (List.range 2).all fun j => s.anchorAt r j == 0
  if o.transport == .svc && o.cert.sigOk && o.cert.issuer == o.cert.key then
    if o.cert.roles = [.integrator] && empty Obj.SEC_CLIENT_ANCHOR then some (Obj.SEC_CLIENT_ANCHOR, .integrator)
    else if s.isSender && o.cert.roles = [.safety] && empty Obj.SEC_SAFETY_ANCHOR then
      some (Obj.SEC_SAFETY_ANCHOR, .safety)
    else none
  else none

/-! ### OPEN (R363 to R368) -/

/-- The role that check 3 of R365 grants; none where it fails. -/
def State.openRole (s : State) (o : OpenMsg) : Option SessRole :=
  let dated := !(s.isSender && s.rd Obj.TIME_SOURCE == 1 && decide (s.nat Obj.TIME_STATE = 2 ∨ s.nat Obj.TIME_STATE = 3))
  if !o.cert.formOk || !(dated || o.cert.inValidity) then none
  else match o.cert.roles with
    | [r] => if o.cert.sigOk && s.anchorGrants o.cert.issuer r then some r else (s.claims o).map (·.2)
    | _ => none

/-- The conditions of R367 for slot 0. -/
def State.opens0 (s : State) (o : OpenMsg) : Bool :=
  let allow := (List.range 8).map fun j => s.natAt Obj.SEC_SENDER_ALLOW 0 j
  s.isTile && o.transport == .flue && o.cert.byDeviceCa && o.cert.sigOk
    && (allow.all (· == 0) || (o.cert.serial != 0 && allow.contains o.cert.serial))

/-- The header that an untagged reply to an OPEN echoes (R470). -/
def openHeader (o : OpenMsg) : Msg :=
  { transport := o.transport, version := o.version, route := o.route, session := 0xFF, epoch := 0, seq := 0, flags := 0,
    index := 0, sub := 0, count := 0, tagOk := false }

/-- A refused OPEN: DENIED counts and raises session-auth-failed (R365). -/
def State.openRefused (s : State) (o : OpenMsg) (status : Nat) : State :=
  let s := s.sendOn o.transport (.untagged 0x01 status (openHeader o))
  if status = st.DENIED then (s.bump Obj.SEC_OPEN_FAILS).raise 0x78 0 0 else s

/-- A number below n that the manual leaves to chance (free, log 3). -/
def State.draw (s : State) (n : Nat) : Nat × State := (s.freeVal % n, s.used)

/-- The payload of the reply to OPEN (R364): CERT_LEN, CERT, E_PUB, NONCE, SESSION, a zero byte, EPOCH and SIG. The ephemeral
key, the nonce and the signature are free (log 5). -/
def openReply (k e ePub nonce sig : Nat) : List Byte :=
  toBytes 2 Config.devCert.length ++ Config.devCert ++ toBytes 97 (4 * 2 ^ 768 + ePub) ++ toBytes 32 nonce
    ++ toBytes 1 k ++ [0] ++ toBytes 2 e ++ toBytes 96 sig

/-- The session taken, its keys with both nonces as salt, and the reply (R364, R365). -/
def State.openSlot (s : State) (o : OpenMsg) (k : Nat) (role : SessRole) (anchor : Nat) : State :=
  let e := (s.session k).epoch
  let (nonce, s) := s.draw (2 ^ 256)
  let (ePub, s) := s.draw (2 ^ 768)
  let (sig, s) := s.draw (2 ^ 768)
  let keys := Config.sessionKeys (o.nonce * 2 ^ 256 + nonce) k e s.freeVal
  let s := s.used.setSession k
    { st := 2, role := role, transport := o.transport, epoch := e, cert := o.cert.digest, anchor := anchor, lastMsg := s.now,
      keys := keys }
  s.countSessions.sendOn o.transport
    (.reply o.transport k 0 0x01 { status := st.OK, info := (openReply k e ePub nonce sig).map fun b => (b.toNat : Int) })

/-- The lowest free slot; slot 0 of a tile is the chimney's (R39), and the responder serves two sessions (R420). -/
def State.freeSlot (s : State) : Option Nat :=
  if !s.pairMUp && decide (2 ≤ s.openSlots.length) then none
  else (List.range 64).find? fun k => (s.session k).st == 0 && !(s.isTile && k == 0)

/-- An OPEN taken by this device, from check 2 of R365 on. -/
def State.openHere (s : State) (o : OpenMsg) : State :=
  if !o.layoutOk then s.openRefused o st.DENIED
  else if o.forSlot0 then
    if s.opens0 o && o.sigOk then
      (s.endSession 0 true).openSlot o 0 .integrator o.cert.issuer
    else s.openRefused o st.DENIED
  else match s.openRole o with
    | none => s.openRefused o st.DENIED
    | some role =>
      if !o.sigOk then s.openRefused o st.DENIED
      else
        let s := match s.anchorGrants o.cert.issuer role, s.claims o with
          | false, some (r, _) =>
            let u := s.setAnchor r 0 (toBytes 97 o.cert.key)
            (if role == SessRole.integrator then u.wrAt Obj.SEC_CLIENT_ROLES 0 0 0x0E else u).noteChange s
          | _, _ => s
        match s.freeSlot with
        | none => s.openRefused o st.SESSIONS_FULL
        | some k => s.openSlot o k role o.cert.issuer

/-- A transport on which this device takes messages (R44): MGMT at a sender, Flue at a tile, SVC at both; without pair M
the responder serves SVC alone (R420). -/
def State.hears (s : State) (t : Transport) : Bool :=
  match t with
  | .svc => true
  | .mgmt => s.isSender && s.pairMUp
  | .flue => s.isTile && s.pairMUp

/-- OPEN: one of another VERSION is dropped and counted (Table 2-7); at most eight in a second are handled; a sender forwards
one that names a chimney (the length of its certificate is not among the operands: free). -/
def openMsg (o : OpenMsg) (s : State) : State :=
  if !s.hears o.transport then s
  else if o.version ≠ 1 then s.bump Obj.DICT_AUTH_FAILS
  else match s.isSender && s.pairMUp, o.route with
  | true, .chimney c a =>
    if a ≠ 0xFF ∧ s.unreachable c a = true then
      s.sendOn o.transport (.untagged 0x01 st.UNREACHABLE (openHeader o))
    else
      let n := 24 + 227 + 1 + s.freeVal % 720
      let s := s.used.setChim c { s.chim c with fwd := (s.chim c).fwd ++ [(0x01, (openHeader o), n)] }
      { s with sess := { s.sess with fwdOpen := s.sess.fwdOpen ++ [(c, a, o.cert.digest)] } }
  | _, _ =>
    let recent := s.mods.opens.filter fun t => decide (s.now < t + seconds 1)
    if 8 ≤ recent.length then s.setMods { s.mods with opens := recent }
    else (s.setMods { s.mods with opens := s.now :: recent }).openHere o

def execOpenMsg (t : Cyc) (o : OpenMsg) (s : State) : Host.Outcome State Fault Refusal := s.run t (openMsg o)

/-- CHIMNEY_BRING_UP (R367): addresses are assigned and session 0 opened at each mapped tile. -/
def chimneyBringUp (c : Nat) (s : State) : State :=
  if s.isSender && s.pairMUp && chimneyOn s.rdAt c then
    (s.mapped c).foldl (fun s a => s.openSession0 c a) (s.assignRun c)
  else s

def execChimneyBringUp (t : Cyc) (chim : Nat) (s : State) : Host.Outcome State Fault Refusal :=
  s.run t (chimneyBringUp chim)

/-- SEC_FW_REVOKE (R369). -/
def State.fwRevoke (s : State) (k : Nat) : State × Nat :=
  if 4 ≤ k then (s, st.RANGE)
  else
    let runs := (List.range 3).any fun c =>
      let slot := s.natAt Obj.BOOT_ACTIVE_SLOT 0 c
      match s.nv.valid.find? fun q => q.1 == slot * 4 + c with
      | some (_, h) => h.key == k
      | none => false
    let after := setBit s.nv.revoked k true
    if runs || (after == 15 && s.nv.revoked != 15) then (s, st.BUSY)
    else ((s.setNv { s.nv with revoked := after }).wr Obj.SEC_FW_REVOKED after, st.OK)

/-! ### Lamp history (R244, R378 to R380) -/

/-- The lamps of a module in the order of its records: line-major, then colour. -/
def State.moduleLamps (s : State) (m : Nat) : List Nat :=
  let x := s.module m
  let x0 := s.natAt Obj.MOD_X0 m 0
  let y0 := s.natAt Obj.MOD_Y0 m 0
  (List.range x.height).flatMap fun y => (List.range x.width).flatMap fun i =>
    (List.range (s.nat Obj.TILE_LAMPS)).map fun j => lampKey (x0 + i) (y0 + y) j

/-- A lamp's dose in 2^-24 full-scale seconds. -/
def Lamp.total (l : Lamp) : Nat := l.table * 2 ^ 24 + l.dose

/-- BURN: the mean dose in 2^-16 full-scale hours. -/
def State.burn (s : State) (m : Nat) : Nat :=
  let l := s.moduleLamps m
  if l.isEmpty then 0
  else (roundAway (sumNat (l.map fun k => (s.lampOf k).total) : Nat) (l.length * 3600 * 2 ^ 8)).toNat

/-- POWERED: whole hours during which the module was bound. -/
def State.powered (s : State) (m : Nat) : Nat :=
  let x := s.module m
  (x.secs + (s.now - x.boundAt) / seconds 1) / 3600

/-- The dose and burn-hours stores of a module, in this order. -/
def State.saveDose (s : State) (m : Nat) : State :=
  let d := (s.moduleLamps m).map fun k => (s.lampOf k).table
  let s := s.setModule m { s.module m with savedAt := s.now }
  let s := s.requestStore { region := 16 + 8 * m + 3, slot := none, payload := .dose (s.module m).serial d }
  s.requestStore { region := 16 + 8 * m + 4, slot := none,
                   payload := .burn (s.module m).serial (s.burn m) (s.powered m) }

/-- DOSE_FOLD: whole full-scale seconds move into the table, every 64 s. -/
def doseFold (s : State) : State :=
  if s.isTile && s.configured && decide (s.lamp.foldAt + seconds 64 ≤ s.now) then
    s.setLampSt { s.lamp with
      foldAt := s.now,
      lamps := s.lamp.lamps.map fun q =>
        (q.1, { q.2 with table := q.2.table + q.2.dose / 2 ^ 24, dose := q.2.dose % 2 ^ 24 }) }
  else s

def execDoseFold (t : Cyc) (s : State) : Host.Outcome State Fault Refusal := s.run t doseFold

/-- DOSE_SAVE: the modules whose last save is MOD_DOSE_SAVE ago. -/
def doseSave (s : State) : State :=
  if s.isTile then
    (s.boundModules.filter fun m => decide ((s.module m).savedAt + seconds (s.nat Obj.MOD_DOSE_SAVE) ≤ s.now)).foldl
      (fun s m => s.saveDose m) s
  else s

def execDoseSave (t : Cyc) (s : State) : Host.Outcome State Fault Refusal := s.run t doseSave

/-- The aging gain of one lamp of a module (none: the nominal record, flat at 1), and whether it reaches the cap. -/
def State.ageLamp (s : State) (m : Option Nat) (key : Nat) : Nat × Bool :=
  let cap := s.nat Obj.LAMP_AGE_GAIN_MAX
  let r : Rat := match m with
    | some k =>
      let x := s.module k
      match x.active with
      | some set => agingR (agingPoints set (key % 4)) x.deltaD (s.lampOf key).total
      | none => 32768
    | none => 32768
  agingGain r cap

/-- One module in the sweep: gains, headroom, burn and their faults (R380). -/
def State.sweepModule (s : State) (m : Nat) : State × Nat :=
  let keys := s.moduleLamps m
  let gains := keys.map fun k => (k, s.ageLamp (some m) k)
  let capped := (gains.filter fun g => g.2.2).length
  let used (g : Nat) : Nat := if s.flag Obj.LAMP_AGE_ENABLE then g else 16384
  let s := gains.foldl (fun s g => s.setLamp g.1 { s.lampOf g.1 with gain := used g.2.1 }) s
  let s := if 0 < capped ∧ ¬ s.lamp.capSeen.contains m then s.raise 0x43 m 0 else s
  let seen := if 0 < capped then addMember m s.lamp.capSeen else s.lamp.capSeen.filter (· != m)
  let s := s.setLampSt { s.lamp with capSeen := seen }
  let top : Nat := maxNat (gains.map fun g => used g.2.1)
  let cap := s.nat Obj.LAMP_AGE_GAIN_MAX
  let head := roundAway (((cap : Int) - (top : Int)) * 1000) (max 1 top)
  let s := (s.wrIn Obj.MOD_HEADROOM m 0 head).wrAt Obj.MOD_BURN m 0 (s.burn m : Nat)
  let rated := s.natAt Obj.MOD_RATED m 0
  let burn := s.natAt Obj.MOD_BURN m 0
  let fault (s : State) (src : Nat) (b : Bool) : State := (if b then s.raise src m 0 else s).hold src m b
  let s := fault s 0x54 (decide (head < s.nat Obj.MOD_HEADROOM_MIN))
  let s := fault s 0x52 (decide (rated * s.nat Obj.MOD_LIFE_WARN * 65536 ≤ burn * 100))
  (fault s 0x53 (decide (rated * 65536 ≤ burn)), capped)

/-- AGING_SWEEP: at least once every 10 s. -/
def agingSweep (s : State) : State :=
  if s.isTile && s.configured then
    let q : State × Nat :=
      s.boundModules.foldl (fun q m => let r := q.1.sweepModule m; (r.1, q.2 + r.2)) (s, 0)
    (q.1.setLampSt { q.1.lamp with sweepAt := q.1.now }).wr Obj.LAMP_AGE_CAPPED q.2
  else s

def execAgingSweep (t : Cyc) (s : State) : Host.Outcome State Fault Refusal := s.run t agingSweep

/-! ### The end of a store (R356, R357, R376) -/

/-- CAL_MOD_HIST of a module (log 51). -/
def State.showHist (s : State) (m : Nat) (hist : List Nat) : State :=
  (List.range 16).foldl (fun s b => s.wrIn Obj.CAL_MOD_HIST m b (hist.getD b 0 : Nat)) s

/-- A dose or burn-hours record of a module is stored; MOD_STATE reads 6 once both of MOD_SERVICE are (R381). -/
def State.historyStored (s : State) (m : Nat) : State :=
  let x := s.module m
  let s := s.setModule m { x with stores := x.stores - 1 }
  if x.service && x.bound && x.stores == 1 then s.wrAt Obj.MOD_STATE m 0 6 else s

/-- One that fails is waited for no longer, where it was called for before those of MOD_SERVICE. -/
def State.historyFailed (s : State) (m : Nat) : State :=
  let x := s.module m
  (if 2 < x.stores then s.setModule m { x with stores := x.stores - 1 } else s).raise 0x55 m 0

/-- A stored record comes into use. -/
def State.storeUsed (s : State) (region : Nat) (p : Payload) : State :=
  let m := (region - 16) / 8
  let x := s.module m
  match p with
  | .link _ => s.showLinkBands
  | .trim l => (List.range 24).foldl (fun s n => s.wrIn Obj.CAL_TRIM_OFFSET 0 n (l.getD n 0)) s
  | .field i f => (s.setModule m { x with fields := setAt x.fields i (some f), due := x.due || x.bound }).showHist m f.hist
  | .dose .. => s.historyStored m
  | .burn .. => s.historyStored m
  | _ => s

/-- A store that ended without its record: the reason of its run and its fault. -/
def State.storeFailed (s : State) (region : Nat) (p : Payload) : State :=
  let m := (region - 16) / 8
  match p with
  | .link _ => ((s.wr Obj.CAL_LINK_REASON 0x0C).bump Obj.CAL_STORE_FAILS).raise 0x4E 0 0
  | .trim _ => ((s.wr Obj.CAL_TRIM_REASON 0x0C).bump Obj.CAL_STORE_FAILS).raise 0x4E 0 0
  | .field .. => (s.bump Obj.CAL_STORE_FAILS).raise 0x4E m 0
  | .dose .. => s.historyFailed m
  | .burn .. => s.historyFailed m
  | _ => s.raise 0x4E 0 0

/-- A configuration save ends (R64, R66, R424). -/
def State.saveEnds (s : State) (ok : Bool) : State :=
  let s := if ok then (s.wr Obj.PERSIST_STATE 0).bump Obj.PERSIST_SAVES else s.wr Obj.PERSIST_STATE 2
  if ok then { s with upd := { s.upd with savedOwn := true } } else s

/-- FLASH_STORE_DONE: the verdicts of the first attempt and of its one repeat. A run told to abort completes no store. -/
def flashStoreDone (dev : FlashDev) (first second : Bool) (s : State) : State :=
  let d := match dev with | .boot => 0 | .module m => m + 1
  match s.nv.busy.find? fun q => q.1 == d with
  | none => s
  | some (_, x) =>
    let ok := first || second
    let s := if first then s else s.writeBody x
    let mine := s.runStores x.region x.payload
    match mine, s.mods.cal.stop with
    | true, some r => (s.endStore d false).calEnd r
    | _, _ =>
      let s := s.endStore d ok
      if ok then
        let s := match x.payload with
          | .link _ | .trim _ | .field .. => s.bump Obj.CAL_STORES
          | _ => s
        let s := s.storeUsed x.region x.payload
        let s := if mine then s.calEnd (s.nat Obj.CAL_REASON) else s
        if x.region = 5 then s.saveEnds true else s
      else
        let s := s.storeFailed x.region x.payload
        let s := if mine then s.calEnd 0x0C else s
        if x.region = 5 then s.saveEnds false else s

/-! ### Binding (R371 to R377, R379) -/

/-- Residuals of a module's lamps are cleared (R249). -/
def State.clearResiduals (s : State) (m : Nat) : State :=
  (s.moduleLamps m).foldl (fun s k => s.setLamp k { s.lampOf k with res := 0 }) s

/-- What the rules that name a change of binding do (R375): residuals, open lamps, patterns and runs. -/
def State.bindingChanged (s : State) (m : Nat) : State :=
  let s := ((s.bumpAt Obj.MOD_BINDS m 0).clearResiduals m).openClearModule m
  if s.mods.cal.module = m then
    let s := s.calPattern none
    if s.rd Obj.CAL_STATE == 4 then
      let of (q : Nat × Store) : Bool := s.runStores q.2.region q.2.payload
      (s.setNv { s.nv with busy := s.nv.busy.filter fun q => !of q, waiting := s.nv.waiting.filter fun q => !of q }).calEnd
        0x0B
    else s.calStop 0x0B
  else s

/-- The doses that a module's own store does not hold yet, in 2^-24 full-scale seconds by place in the module. -/
def State.unsavedDose (s : State) (m : Nat) : List (Nat × Nat) :=
  let saved := match s.record (16 + 8 * m + 3) with | some (.dose _ l) => l | _ => []
  (s.moduleLamps m).zipIdx.filterMap fun q =>
    let d := (s.lampOf q.1).total - saved.getD q.2 0 * 2 ^ 24
    if d = 0 then none else some (q.2, d)

/-- Stores on a module that is gone fail (R376). -/
def State.dropStores (s : State) (m : Nat) : State :=
  let mine := ((s.nv.busy ++ s.nv.waiting).filter fun q => q.1 == m + 1).map (·.2)
  let s := s.setNv { s.nv with busy := s.nv.busy.filter (fun q => q.1 != m + 1),
                               waiting := s.nv.waiting.filter (fun q => q.1 != m + 1),
                               slots := clearRange (16 + 8 * m) (24 + 8 * m) s.nv.slots }
  mine.foldl (fun s x => s.storeFailed x.region x.payload) s

/-- The position loses its binding: the unsaved dose is kept by serial, its lamps start at dose 0 (R375, R379). -/
def State.unbind (s : State) (m : Nat) : State :=
  let x := s.module m
  if x.bound then
    let kept := s.unsavedDose m
    let s := s.setMods { s.mods with kept := put [] x.serial kept s.mods.kept }
    let s := s.bindingChanged m
    let s := (s.moduleLamps m).foldl (fun s k =>
      s.setLamp k { s.lampOf k with dose := 0, table := 0, gain := 16384 }) s
    s.setModule m
      { x with bound := false, active := none, building := none, due := false, theta := none, temps := [], tempAt := none,
               lost := false, sets := [], fields := [none, none, none], badSets := [], stores := 0 } |>.hold 0x42 m false
  else s

/-- The module uses the nominal record (R243). -/
def State.nominalModule (s : State) (m : Nat) (mark : Nat) : State :=
  let s := (s.wrAt Obj.LAMP_MOD_STATE 0 m mark).hold 0x75 m false
  let s := s.wrAt Obj.THERM_MOD_STATE m 0 0
  if s.flt.conds.contains (0x44 * 65536 + m) then s else s.raiseHeld 0x44 m 0

/-- The rectangle lies within the tile and overlaps no other bound module (step 3). -/
def State.rectFits (s : State) (m : Nat) (f : ModuleFound) : Bool :=
  let x0 := s.natAt Obj.MOD_X0 m 0
  let y0 := s.natAt Obj.MOD_Y0 m 0
  decide (x0 + pkgWidth f ≤ s.nat Obj.TILE_WIDTH) && decide (y0 + pkgHeight f ≤ s.nat Obj.TILE_HEIGHT)
    && (s.boundModules.filter (· != m)).all fun k =>
      let e := s.module k
      let kx := s.natAt Obj.MOD_X0 k 0
      let ky := s.natAt Obj.MOD_Y0 k 0
      decide (x0 + pkgWidth f ≤ kx) || decide (kx + e.width ≤ x0) || decide (y0 + pkgHeight f ≤ ky)
        || decide (ky + e.height ≤ y0)

/-- Steps 1 to 4 of R374. -/
def State.packageOk (s : State) (m : Nat) (f : ModuleFound) : Bool :=
  f.certsOk && pkgMagicOk f && pkgSerial f == f.certSerial && pkgLamps f == s.nat Obj.TILE_LAMPS && s.rectFits m f && f.sigOk

/-- A module that is found but not bound: MOD_STATE 4 or 5. -/
def State.bindFails (s : State) (m : Nat) (f : ModuleFound) (state src : Nat) : State :=
  let s := s.unbind m
  let s := s.setModule m { s.module m with found := some f, polled := true }
  ((s.wrAt Obj.MOD_STATE m 0 state).nominalModule m 1).raiseHeld src m 0

/-- The dose record in use among the slots loaded for this binding. -/
def State.doseRecord (s : State) (m : Nat) : Option (List Nat) :=
  match s.record (16 + 8 * m + 3) with
  | some (.dose _ l) => some l
  | _ => none

/-- The doses of a new binding: the record read, and what was kept for this serial (R378, R379). -/
def State.loadDose (s : State) (m : Nat) : State :=
  let read := (s.doseRecord m).getD []
  let serial := (s.module m).serial
  let kept : List (Nat × Nat) := look [] serial s.mods.kept
  let s := (s.moduleLamps m).zipIdx.foldl (fun s q =>
    let d := read.getD q.2 0 * 2 ^ 24 + look 0 q.2 kept
    s.setLamp q.1 { s.lampOf q.1 with table := d / 2 ^ 24, dose := d % 2 ^ 24 }) s
  s.setMods { s.mods with kept := drop serial s.mods.kept }

/-- A dose or burn-hours record whose SERIAL is not the module's is ignored (R378). -/
def ofSerial (serial : Nat) (x : Slot) : Slot :=
  match x with
  | some (_, .dose n _) => if n = serial then x else none
  | some (_, .burn n _ _) => if n = serial then x else none
  | _ => x

/-- The records of the module's slot pairs as they were read (step 5). -/
def State.loadSlots (s : State) (m : Nat) (f : ModuleFound) : State :=
  s.setNv { s.nv with slots := (List.range 5).foldl (fun l k =>
    let p := foundPair f k
    put (none, none) (16 + 8 * m + k) (ofSerial (pkgSerial f) p.1, ofSerial (pkgSerial f) p.2) l) s.nv.slots }

/-- Field set i where its SERIAL and digest match the binding (R377). -/
def State.fieldFound (s : State) (m i serial digest : Nat) : Option FieldSet :=
  match s.record (16 + 8 * m + i) with
  | some (.field _ q) => if q.serial = serial ∧ q.digest = digest / 2 ^ 256 then some { q with set := loadSet q.set } else none
  | _ => none

/-- The module is bound (R374, R375): its package, its field sets that match the binding (R377), its history. -/
def State.bind (s : State) (m : Nat) (f : ModuleFound) : State :=
  let old := s.module m
  let s := s.unbind m
  let serial := pkgSerial f
  let s := if old.serial ≠ 0 ∧ old.serial ≠ serial then
      s.setMods { s.mods with kept := drop old.serial s.mods.kept } else s
  let s := s.loadSlots m f
  let fields := (List.range 3).map fun i => s.fieldFound m i serial f.digest
  let dosed := (s.doseRecord m).isSome
  let hours := match s.record (16 + 8 * m + 4) with | some (.burn _ _ h) => h | _ => 0
  let s := s.setModule m
    { s.module m with found := some f, bound := true, serial := serial, digest := f.digest, sets := (pkgSets f).map loadSet,
                      fields := fields, due := true, polled := true, firstPoll := true, boundAt := s.now,
                      secs := hours * 3600, savedAt := s.now, noDose := !dosed }
  let s := (if old.bound then (s.clearResiduals m).openClearModule m else s.bindingChanged m).loadDose m
  let s := (s.wrAt Obj.MOD_SERIAL m 0 serial).wrAt Obj.MOD_SIZE m 0 (pkgWidth f * 65536 + pkgHeight f : Nat)
  let s := (s.wrAt Obj.MOD_RATED m 0 (pkgRated f)).wrAt Obj.MOD_BURN m 0 (s.burn m : Nat)
  let hist := match (fields.filterMap id).head? with | some q => q.hist | none => []
  let s := (s.showHist m hist).wrAt Obj.MOD_STATE m 0 3
  let s := (s.wrAt Obj.LAMP_MOD_STATE 0 m 1).hold 0x44 m false
  ((s.hold 0x4F m false).hold 0x50 m false).hold 0x51 m false

/-- Whether the poll finds the identity and package that it found before (R374). -/
def sameModule (a b : ModuleFound) : Bool :=
  a.certSerial == b.certSerial && a.digest == b.digest && a.package == b.package && a.certsOk == b.certsOk
    && a.sigOk == b.sigOk

/-- The module is absent. -/
def State.moduleAbsent (s : State) (m : Nat) : State :=
  if s.natAt Obj.MOD_STATE m 0 = 1 then s.setModule m { s.module m with polled := true }
  else
    let s := (s.unbind m).dropStores m
    let s := s.setModule m { s.module m with found := none, polled := true }
    let s := ((s.wrAt Obj.MOD_STATE m 0 1).wrAt Obj.MOD_SERIAL m 0 0).wrAt Obj.MOD_SIZE m 0 0
    let s := (s.hold 0x50 m false).hold 0x51 m false
    (s.nominalModule m 1).raiseHeld 0x4F m 0

/-- A verification and binding of what the poll found. -/
def State.tryBind (s : State) (m : Nat) (f : ModuleFound) : State :=
  let x := s.module m
  if !s.packageOk m f then (s.hold 0x4F m false).bindFails m f 4 0x50
  else if (List.range m).any fun k => (s.module k).bound && (s.module k).serial == pkgSerial f then
    (s.hold 0x4F m false).bindFails m f 5 0x51
  else if x.bound && x.serial == pkgSerial f && x.digest == f.digest then
    s.setModule m { x with polled := true, badSets := [], due := true, sets := (pkgSets f).map loadSet }
  else s.bind m f

/-- Whether 1 s has passed since the last poll of a module (R374); a package to be read again is read at once (R242). -/
def State.pollDue (s : State) (m : Nat) : Bool := (s.module m).pollAt.all fun t => decide (t + seconds 1 ≤ s.now)

/-- What a poll finds. -/
def State.pollFinds (s : State) (m : Nat) (found : Option ModuleFound) : State :=
  let x := s.module m
  match found with
  | none => s.moduleAbsent m
  | some f =>
    if !f.readOk then s.moduleAbsent m
    else
      let same := match x.found with | some g => x.polled && sameModule g f | none => false
      if same then
        if x.bound && x.firstPoll then
          let s := s.setModule m { x with firstPoll := false }
          if x.noDose then (s.setModule m { s.module m with noDose := false }).saveDose m else s
        else s
      else s.tryBind m f

/-- MODULE_POLL of an enabled module. -/
def modulePoll (m : Nat) (found : Option ModuleFound) (s : State) : State :=
  if !s.isTile || !s.configured || !bit (s.nat Obj.MOD_ENABLE) m || decide (16 ≤ m) || !s.pollDue m then s
  else (s.setModule m { s.module m with pollAt := some s.now }).pollFinds m found

def execModulePoll (t : Cyc) (module : Nat) (found : Option ModuleFound) (s : State) :
    Host.Outcome State Fault Refusal :=
  s.run t (modulePoll module found)

/-! ### Service (R381) and applied values -/

/-- Dose and burn-hours stores of a module that run or wait. -/
def State.historyStores (s : State) (m : Nat) : Nat :=
  ((s.nv.busy ++ s.nv.waiting).filter fun q => q.1 == m + 1 &&
    (match q.2.payload with | .dose .. => true | .burn .. => true | _ => false)).length

/-- MOD_SERVICE with bit 15 set: the records are stored, behind those already called for, and the rectangle goes dark at the next
boundary. -/
def State.serviceEnter (s : State) (m : Nat) : State :=
  let x := s.module m
  let s := s.setModule m { x with service := true, stores := if x.bound then s.historyStores m + 2 else 0 }
  if x.bound then s.saveDose m else s

/-- MOD_SERVICE with bit 15 clear. -/
def State.serviceLeave (s : State) (m : Nat) : State :=
  let x := s.module m
  let s := s.setModule m { x with service := false, stores := 0 }
  if s.natAt Obj.MOD_STATE m 0 = 6 then s.wrAt Obj.MOD_STATE m 0 3 else s

/-- At a boundary the rectangle of a module in service is dark, and that of one out of it lit again. -/
def State.serviceBoundary (s : State) : State :=
  (List.range 16).foldl (fun s m =>
    let x := s.module m
    if x.dark == x.service then s else s.setModule m { x with dark := x.service }) s

/-- A commit has changed MOD_ENABLE: a module no longer enabled is unbound and reads state 0. -/
def State.modsApplied (s old : State) : State :=
  if !s.isTile then s
  else
    (List.range 16).foldl (fun s m =>
      let was := bit (old.nat Obj.MOD_ENABLE) m
      let is := bit (s.nat Obj.MOD_ENABLE) m
      if was && !is then
        let s := (s.unbind m).dropStores m
        let s := s.setModule m { s.module m with found := none, polled := false, pollAt := none }
        let s := ((s.wrAt Obj.MOD_STATE m 0 0).wrAt Obj.LAMP_MOD_STATE 0 m 0).wrAt Obj.THERM_MOD_STATE m 0 0
        [0x42, 0x44, 0x4F, 0x50, 0x51, 0x75].foldl (fun s src => s.hold src m false) s
      else if is && !was then s.wrAt Obj.MOD_STATE m 0 2
      else s) s

/-- A change of MOD_ANCHOR: every module is bound anew at the next poll (R375). -/
def State.rebindAll (s : State) : State :=
  (List.range 16).foldl (fun s m => s.setModule m { s.module m with polled := false }) s

end Sys2Proof.Machine
end

