-- ==== Sys2Proof/Machine/Boot.lean ====
section
/-! DEFINITION. Reset, start-up and clocks (R1, R2, R16, R25, R410 to R418, R437, R442): what a reset leaves, the images
that the boot ROM starts, the configuration loaded, and what a configuration newly in force does to the device. -/

namespace Sys2Proof.Machine

/-- The form of the commands of PORST_N and the rails: the levels change first, then the effect takes place. -/
def State.always (s : State) (t : Cyc) (level f : State → State) : Host.Outcome State Fault Refusal :=
  let s := level (s.upTo t)
  .next (s.fixed (f s))

def State.setPorst (b : Bool) (s : State) : State := { s with sys := { s.sys with porstLow := b } }
def State.setRail (b io : Bool) (s : State) : State :=
  { s with sys := { s.sys with railLow := b, ioLow := b && (io || s.sys.ioLow) } }

/-! ### Values newly in force: what a commit or a loaded configuration does to the blocks -/

/-- Map entries that come into force are stamped; tiles no longer mapped are forgotten (R209); CHIM_STATE follows. -/
def State.mapApplied (s old : State) : State :=
  if !s.isSender then s
  else
    (List.range 8).foldl (fun s c =>
      let was := if chimneyOn old.rdAt c then old.mapped c else []
      let is := if chimneyOn s.rdAt c then s.mapped c else []
      let s := (is.filter fun a => !was.contains a).foldl (fun s a =>
        s.setTile c a { s.tile c a with entryAt := some s.now, reportWfc := s.nat Obj.WFC }) s
      let s := (was.filter fun a => !is.contains a).foldl (fun s a =>
        let s := ((s.setTile c a {}).hold 0x11 (c * 256 + a) false).hold 0x65 (c * 256 + a) false
        (s.setTileBit Obj.CHIM_REACH_A c a false).setTileBit Obj.CHIM_REACH_B c a false) s
      if chimneyOn old.rdAt c == chimneyOn s.rdAt c then s
      else
        let s := if chimneyOn s.rdAt c then s else ((s.setChim c {}).wrAt Obj.WALL_CHIM_FOUND 0 c 0).hold 0x10 c false
        s.showChim c (s.natAt Obj.CHIM_STATE 0 c == 2)) s

/-- Whether any object of an area differs between two states. -/
def areaChanged (old new : State) (area : Nat) : Bool :=
  let of (s : State) : List (Nat × Int) := s.dict.filter fun p => isRws p.1 && areaOf (p.1 / 256) == area
  of old != of new

/-- A tile's run ends when areas 6, 11, 12 or 13 change (R350). -/
def State.runsApplied (s old : State) : State :=
  if s.isTile && [6, 11, 12, 13].any (areaChanged old s) then s.calStop 0x0A else s

/-- Lines held under another tile geometry are black from frame k on (R202). -/
def State.linesApplied (s old : State) (k : Nat) : State :=
  if s.isTile && (s.nat Obj.TILE_WIDTH != old.nat Obj.TILE_WIDTH || s.nat Obj.TILE_HEIGHT != old.nat Obj.TILE_HEIGHT) then
    s.setPaths { s.paths with blackFrom := some k }
  else s

/-- A change of WALL_RATE begins the hold of R131. -/
def State.holdApplied (s old : State) (k : Nat) : State :=
  if s.isTile && s.rate != old.rate && s.mods.lit then s.startHold k else s

/-- Every block takes the values in force; `old` holds those that were, `k` is the boundary, and `commit` says that a commit
brought them. -/
def State.valuesApplied (s old : State) (k : Nat) (commit : Bool) : State :=
  let s := (((s.ingestApplied old commit).mapApplied old).phyApplied old).timeApplied old
  let s := (((s.linesApplied old k).holdApplied old k).rateApplied k).strandsApplied old
  let from_ := match s.time.sched with | some c => if commit then c.instant k else (s.wall18 : Int) | none => s.wall18
  let s := (((s.loopsApplied old from_).modsApplied old).runsApplied old).reactApplied old
  let s := (List.range 8).foldl (fun s i => s.showSlot i) s
  let s := if s.isTile then s.showLampMode.showScan else s.hearthShow
  s.showMode.adjustEngines.showLoads

/-! ### Reset (R410, R411, R437) -/

/-- FLT_N and ALM_P/N in reset: low and at alarm (R404); without VDDIO_1V8 FLT_N is released and ALM_P and ALM_N are equal,
level 2 here (R451). -/
def State.resetPins (s : State) : State :=
  (s.send (.pin .fltN (if s.sys.ioLow then 1 else 0))).send (.pin .alm (if s.sys.ioLow then 2 else 0))

/-- The state while reset is asserted: flash, fuses, clock of the model, role and outputs aside, nothing is left. TRIM, TPO,
FLT_N and ALM_P/N take their levels of Tables 18-2 and 19-11. -/
def State.enterReset (s : State) : State :=
  let c : State :=
    { now := s.now, role := s.role, out := s.out, free := s.free, pending := s.pending,
      sys := { porstLow := s.sys.porstLow, railLow := s.sys.railLow, ioLow := s.sys.ioLow, testEn := s.sys.testEn,
               jtag := s.sys.jtag },
      nv := { s.nv with busy := [], waiting := [] } }
  let c := (List.range 8).foldl (fun c n => c.send (.pin (.trim n) 0)) c
  ((List.range 4).foldl (fun c n => c.send (.pin (.tpo n) 0)) c).resetPins

/-- PORST_ASSERT. -/
def execPorstAssert (t : Cyc) (s : State) : Host.Outcome State Fault Refusal :=
  s.always t (State.setPorst true) State.enterReset

/-- BROWN_OUT: as if PORST_N had been asserted (R437). -/
def execBrownOut (t : Cyc) (io : Bool) (s : State) : Host.Outcome State Fault Refusal :=
  s.always t (State.setRail true io) State.enterReset

/-! ### The boot ROM (R413 to R416) -/

def slotSize : Nat := 0x800000
def componentBase (c : Nat) : Nat := match c with | 0 => 0 | 1 => 0x400000 | _ => 0x500000
def componentMax (c : Nat) : Nat := match c with | 0 => 0x400000 | 1 => 0x100000 | _ => 0x300000

/-- Bytes of an image slot; erased flash reads all ones (R355, log 40). -/
def State.imageBytes (s : State) (slot off n : Nat) : List Byte :=
  readBytes (fun _ => 0xFF) s.nv.images (slot * slotSize + off) n

/-- The header of a component image (Table 18-3), where MAGIC, COMPONENT and LENGTH fit its place; `none` for an empty
component or a wrong layout. -/
def State.imageHeader (s : State) (slot c : Nat) : Option ImageHdr :=
  let at_ (o n : Nat) : Nat := ofBytes (s.imageBytes slot (componentBase c + o) n)
  if at_ 0 4 = 0x58494D31 ∧ at_ 4 1 = c ∧ at_ 12 4 + 512 ≤ componentMax c then
    some { component := c, key := at_ 5 1, svn := at_ 6 1, cfgFormat := at_ 7 1, version := at_ 8 4, length := at_ 12 4 }
  else none

/-- The checks of R415 that need no arithmetic. -/
def State.headerOk (s : State) (h : ImageHdr) : Bool :=
  decide (h.key < 4) && !bit s.nv.revoked h.key && decide (s.nv.fuses.getD h.component 0 ≤ h.svn)

/-- The header of a verified image of a slot. -/
def State.validImage (s : State) (slot c : Nat) : Option ImageHdr :=
  (s.nv.valid.find? fun q => q.1 == slot * 4 + c).map (·.2)

/-- The ROM's verdict on an image: one that the device has verified before stands or falls with its key and count; the
digests and signature of one that it has not are free (log 52). -/
def State.judgeImage (s : State) (slot c : Nat) : Option ImageHdr × State :=
  match s.validImage slot c with
  | some h => (if s.headerOk h then some h else none, s)
  | none => match s.imageHeader slot c with
    | some h => if s.headerOk h then (if s.freeVal % 2 = 1 then some h else none, s.used) else (none, s)
    | none => (none, s)

/-- The boot record in use; slot 0 for every component where neither record is valid. -/
def State.bootRecord (s : State) : List (Nat × Nat × Nat) :=
  match s.record 1 with
  | some (.boot l) => l
  | _ => [(0, 0, 0), (0, 0, 0), (0, 0, 0)]

/-- Steps 2 to 4 of R416 for one component whose record names slot `k`. -/
def State.bootComponent (s : State) (c k : Nat) : State :=
  let (h, s) := s.judgeImage k c
  let (slot, h, s) := match h with
    | some h => (k, some h, s)
    | none =>
      let s := s.raise 0x7D c 0
      let (g, s) := s.judgeImage (1 - k) c
      (if g.isSome then 1 - k else 0xFF, g, s)
  let s := (s.wrAt Obj.BOOT_ACTIVE_SLOT 0 c slot).wrAt Obj.BOOT_VERSION 0 c ((h.map (·.version)).getD 0 : Nat)
  { s with upd := { s.upd with running := setAt s.upd.running c slot } }

/-- The three components start; a trial record falls back to PREVIOUS. -/
def State.bootAll (s : State) : State :=
  let l := s.bootRecord
  let trial := l.any fun e => e.2.2 == 1
  let l' := l.map fun e => if e.2.2 = 1 then (e.2.1, e.2.1, 0) else e
  let s := if trial then (s.requestStore { region := 1, slot := none, payload := .boot l' }).raise 0x7E 0 0 else s
  (List.range 3).foldl (fun s c => s.bootComponent c (l'.getD c (0, 0, 0)).1) s

/-- The FORMAT that the running management firmware writes. -/
def State.ownFormat (s : State) : Nat :=
  ((s.validImage (s.natAt Obj.BOOT_ACTIVE_SLOT 0 2) 2).map (·.cfgFormat)).getD
    (((s.imageHeader (s.natAt Obj.BOOT_ACTIVE_SLOT 0 2) 2).map (·.cfgFormat)).getD 0)

/-! ### Start-up (Table 18-2), whose steps up to the release of pair M all take place at its instant (log 53) -/

/-- The external memory installed: the densities of the channels that train (R92). -/
def trainedBytes (l : List (Option Nat)) : Nat := sumNat (l.map (·.getD 0))

/-- Whether every component has an image. -/
def State.allBoot (s : State) : Bool := (List.range 3).all fun c => s.natAt Obj.BOOT_ACTIVE_SLOT 0 c != 0xFF

/-- From the PLL step to the release of pair M, over a state that holds what survives. -/
def State.startUp (s : State) (reason : Nat) (p : PowerOn) : State :=
  let s := s.setSys { s.sys with phase := .responder, tbStart := s.now, channels := p.channels }
  let s := { s with clock := { at_ := s.now } }
  let s := (s.wr Obj.DEV_CLOCK_STATUS (if s.isSender then 27 else 31)).wr Obj.BOOT_REASON reason
  let prev := match s.record 4 with | some (.ash q l) => some (q, l) | _ => none
  let s := s.setFlt { s.flt with running := true, prev := if s.flt.prev.isSome then s.flt.prev else prev }
  let s := s.wrIn Obj.ING_MEM_INSTALLED 0 0 (trainedBytes p.channels : Nat)
  let s := s.placeEngines p.failing (if s.isSender then 512 else 128)
  let s := (List.range 3).foldl (fun s c => s.wrAt Obj.BOOT_SVN_FUSED 0 c (s.nv.fuses.getD c 0 : Nat)) s
  let s := s.wr Obj.SEC_FW_REVOKED s.nv.revoked
  let s := match s.record 3 with
    | some (.trim l) => (List.range 24).foldl (fun (s : State) n => s.wrIn Obj.CAL_TRIM_OFFSET 0 n (l.getD n 0)) s
    | _ => s
  let s := s.showLinkBands.bootAll
  let s := if s.mods.thermal.shutdown then (s.wr Obj.DEV_PAIR_M_STATE 2).wr Obj.DEV_PAIR_C_STATE 2
    else if s.sys.serviceHold || !s.allBoot then s.wr Obj.DEV_PAIR_M_STATE 1
    else
      (s.wr Obj.DEV_PAIR_M_STATE 1).setSys { s.sys with phase := .running, loading := true }
  (s.setSys { s.sys with pairM := { since := s.now }, pairC := { since := s.now } }).showPins

/-- The rising edge of PORST_N with both rails good: role and straps are sampled (R1, R410, R438). -/
def State.coldStart (s : State) (p : PowerOn) : State :=
  let floating := Config.floatingRoleIsSender s.free
  let (role, s) := match p.roleSel with
    | .low => (DevRole.tile, s)
    | .high => (DevRole.sender, s)
    | .floating => (if floating then DevRole.sender else DevRole.tile, s.used)
  let straps := p.straps % 16
  let straps := if straps % 4 = 3 then straps - 3 else straps
  let s := { s with role := role }
  let s := s.setNv { s.nv with retired := if s.nv.clearRetired then [] else s.nv.retired, clearRetired := false }
  (s.setSys { s.sys with straps := straps, serviceHold := bit straps 2 }).startUp 0 p

/-- The level of TEST_EN, which the commands that start the device find (R443, log 146). -/
def State.setTestEn (s : State) (b : Bool) : State := { s with sys := { s.sys with testEn := b } }

/-- A device in reset starts once PORST_N is high, both rails are good and TEST_EN is low; with TEST_EN high every device is in
reset (R443). -/
def State.startIfFree (p : PowerOn) (s : State) : State :=
  let s := s.setTestEn p.testEn
  if s.sys.testEn then (if s.live then s.enterReset else s)
  else if s.live || s.sys.porstLow || s.sys.railLow then s
  else s.coldStart p

/-- PORST_RELEASE. -/
def execPorstRelease (t : Cyc) (p : PowerOn) (s : State) : Host.Outcome State Fault Refusal :=
  s.always t (State.setPorst false) (State.startIfFree p)

/-- BROWN_OUT_RECOVER: the device starts again when PORST_N is high too; else the pins take their levels of R404 again. -/
def execBrownOutRecover (t : Cyc) (p : PowerOn) (s : State) : Host.Outcome State Fault Refusal :=
  s.always t (State.setRail false false) fun u =>
    if s.sys.ioLow && u.sys.porstLow then (u.setTestEn p.testEn).resetPins else u.startIfFree p

/-- A device reset (R411): role, straps, retired list, a latched shutdown, broken sites and the Ash log stand. The pairs'
restart counts 'since power-on' (Table 1-5) start again at 0, as with PORST_N: DESIGN CHOICE (log 130). With TEST_EN high the
device stays in reset (R443). -/
def State.deviceReset (s : State) (reason : Nat) (p : PowerOn) : State :=
  let keep := s.mods.thermal.shutdown
  let c := s.enterReset
  let c := c.setSys { c.sys with straps := s.sys.straps, serviceHold := s.sys.serviceHold }
  let c := c.setFlt { c.flt with
    ash := s.flt.ash, prev := s.flt.prev, ashSaved := s.flt.ashSaved, ashDue := s.flt.ashDue, shutLogged := s.flt.shutLogged,
    real := if keep then s.flt.real.filter (fun q => q.1 == 0x74) else [],
    conds := if keep then s.flt.conds.filter (fun q => q / 65536 == 0x74) else [] }
  let c := c.setMods { c.mods with
    kept := s.mods.kept, thermal := { shutdown := keep, last := s.mods.thermal.last, weak := s.mods.thermal.weak } }
  let c := ((c.wr Obj.FLT_ASH_SEQ (s.rd Obj.FLT_ASH_SEQ)).wr Obj.THERM_BROKEN (s.rd Obj.THERM_BROKEN)).setTestEn p.testEn
  if p.testEn then c else c.startUp reason p

/-- A PLL that stays out of lock resets the device; the log then takes pll-lost (R25, R411). -/
def State.pllReset (s : State) (unit : Nat) (p : PowerOn) : State := (s.deviceReset 1 p).raise 0x29 unit 0

/-- BOOT_RESET: CLEAR entries of the sources that the reset clears, then the reset. -/
def State.commandReset (s : State) (p : PowerOn) : State :=
  let s := (List.range 128).foldl (fun s k => if k = 0x74 then s else s.clearSide false k) s
  s.deviceReset 2 p

/-! ### PLLs (R25) -/

/-- Bit of a PLL in Table 1-8, and its unit in pll-lost. -/
def pllBit : Pll → Nat
  | .core => 0 | .mem => 1 | .strd => 2 | .mgmt => 3 | .time => 4

/-- PLL_LOSS_OF_LOCK: the lock bit falls, the sticky bit is set, pll-lost is raised. The sender has no strand PLL. -/
def pllLoss (pll : Pll) (s : State) : State :=
  if s.isSender && pll == .strd || s.sys.pllLost.any (fun q => q.1 == pll) then s
  else
    let n := pllBit pll
    let s := s.wr Obj.DEV_CLOCK_STATUS (setBit (setBit (s.nat Obj.DEV_CLOCK_STATUS) n false) (n + 8) true : Nat)
    (s.setSys { s.sys with pllLost := s.sys.pllLost ++ [(pll, s.now)] }).raiseHeld 0x29 n 0

def execPllLossOfLock (t : Cyc) (pll : Pll) (s : State) : Host.Outcome State Fault Refusal := s.run t (pllLoss pll)

/-- PLL_RELOCK. -/
def pllRelock (pll : Pll) (s : State) : State :=
  if s.sys.pllLost.any fun q => q.1 == pll then
    let n := pllBit pll
    let s := s.wr Obj.DEV_CLOCK_STATUS (setBit (s.nat Obj.DEV_CLOCK_STATUS) n true : Nat)
    (s.setSys { s.sys with pllLost := s.sys.pllLost.filter fun q => q.1 != pll }).hold 0x29 n false
  else s

def execPllRelock (t : Cyc) (pll : Pll) (s : State) : Host.Outcome State Fault Refusal := s.run t (pllRelock pll)

/-- PLL_RELOCK_TIMEOUT: 10 ms out of lock. -/
def pllTimeout (pll : Pll) (p : PowerOn) (s : State) : State :=
  match s.sys.pllLost.find? fun q => q.1 == pll with
  | some (_, t0) => if t0 + ms 10 ≤ s.now then s.pllReset (pllBit pll) p else s
  | none => s

def execPllRelockTimeout (t : Cyc) (pll : Pll) (p : PowerOn) (s : State) : Host.Outcome State Fault Refusal :=
  s.run t (pllTimeout pll p)

/-! ### The configuration (R65, R417) -/

/-- What a save writes: the persistent values in force that differ from their defaults, and the Hearth image (R64). -/
def State.configPayload (s : State) : Payload :=
  .config s.ownFormat (s.dict.filter fun q => keptKey q.1) (s.blob.filter fun q => keptKey (q.1 / 2 ^ 32))
    s.video.hearth.front

/-- A saved value that this device can take: an existing persistent object of its role, within its range. -/
def State.admits (s : State) (q : Nat × Int) : Bool :=
  match rowOfKey q.1 with
  | some (r, _, _) => r.keep && s.has r && r.inRange q.2
  | none => false

/-- The area to load: the newest valid one of a FORMAT that the firmware supports. -/
def State.configArea (s : State) : Option (Nat × Payload) :=
  let p := s.slotPair 5
  let of (k : Nat) : Option (Nat × Nat × Payload) := (slotIn p k).bind fun q => match q.2 with
    | .config f .. => if f ≤ s.ownFormat then some (q.1, k, q.2) else none
    | _ => none
  match of 0, of 1 with
  | some a, some b => if a.1 < b.1 then some b.2 else some a.2
  | some a, none => some a.2
  | none, some b => some b.2
  | none, none => none

/-- The Hearth images when an area's image is loaded: at power-on front and back are that image. Later (R425) the front takes it
and a back image that has been written, or whose shadow size is not the size now in force, stays for the next swap (R47, R110);
words lost in both copies stay so until an area-21 commit (R114). -/
def State.loadHearth (s : State) (hearth : List Host.Cell) : State :=
  let h := s.video.hearth
  let keep := s.sys.configAt.isSome && (h.written || s.shAt Obj.HEARTH_WIDTH 0 0 != s.rd Obj.HEARTH_WIDTH
    || s.shAt Obj.HEARTH_HEIGHT 0 0 != s.rd Obj.HEARTH_HEIGHT)
  s.setHearth { h with front := hearth, back := if keep then h.back else hearth, written := keep,
                       bad := h.bad.filter fun w => h.lost.contains (w % 2 ^ 20) }

/-- Persistent values take those of an area, or their defaults. A saved value that this device cannot take is discarded; the
manual does not say where it is logged, and the model lists its key: DESIGN CHOICE (log 140). -/
def State.loadValues (s : State) (nums : List (Nat × Int)) (blobs hearth : List Host.Cell) : State :=
  let good := nums.filter s.admits
  let bad := (nums.filter fun q => !s.admits q).map (·.1)
  let dict := good.foldl (fun d q => insertAt q.1 q.2 d) (s.dict.filter fun q => !keptKey q.1)
  let blob := (blobs.filter fun q => keptKey (q.1 / 2 ^ 32)).foldl (fun d q => insertAt q.1 q.2 d)
    (s.blob.filter fun q => !keptKey (q.1 / 2 ^ 32))
  State.loadHearth { s with dict := dict, blob := blob, sess := { s.sess with discarded := bad } } hearth

/-- Shadows start from the values in force (R35, R54). -/
def State.shadowsFromForce (s : State) : State :=
  { s with shadow := s.dict.filter fun q => isRws q.1,
           shadowBlob := s.blob.filter fun q => isRws (q.1 / 2 ^ 32) }

/-- The area is loaded and, where its FORMAT is older, migrated to the other one (R417). -/
def State.loadArea (s : State) : State :=
  match s.configArea with
  | some (k, .config f nums blobs hearth) =>
    let s := (s.loadValues nums blobs hearth).wr Obj.BOOT_CFG_AREA k
    if f = s.ownFormat then s
    else
      (s.wr Obj.PERSIST_STATE 1).requestStore { region := 5, slot := some (1 - k), payload := s.configPayload }
  | _ => ((s.loadValues [] [] []).wr Obj.BOOT_CFG_AREA 0xFF).raise 0x7F 0 0

/-- The configuration comes into force at start-up: the data plane starts (Table 18-2). A sender is in time state 0 until its
source yields a measurement (Table 9-1); a tile without an address says so (R125, R190). -/
def State.planesStart (s old : State) : State :=
  let s := s.shadowsFromForce
  let s := s.setSys { s.sys with configAt := some s.now, dataPlane := s.allBoot }
  let s := if s.isTile then s.wr Obj.PWR_TILE_GRANT (s.rd Obj.PWR_BOOT_GRANT) else s
  let s := (s.valuesApplied old 0 false).loopsStart
  let s := (List.range 4).foldl (fun s n => s.tpoTake n) s
  let s := if s.isSender then s.backCrc.frontCrc else s.takeAddress
  { s with sess := { s.sess with lastSave := s.now } }

/-- CONFIG_LOAD_DONE: pair M runs with the configuration in force, at generation 0. -/
def configLoadDone (s : State) : State :=
  if s.sys.phase == .running && s.sys.loading && s.nat Obj.DEV_PAIR_M_STATE == 1 then
    let first := s.sys.configAt.isNone
    let old := s
    let s := (s.loadArea.wr Obj.BOOT_CFG_FORMAT s.ownFormat).wr Obj.COMMIT_GENERATION 0
    let s := s.setSys { s.sys with loading := false, pairM := { s.sys.pairM with since := s.now } }
    let s := (s.wr Obj.DEV_PAIR_M_STATE 0).hold 0x7B 0 false
    if first then s.planesStart old
    else
      let s := s.valuesApplied old (s.nat Obj.WFC + 1) false
      if s.isSender then
        let s := s.backCrc.frontCrc
        s.activeChims.foldl (fun s c => (s.mapped c).foldl (fun s a => s.openSession0 c a) s) s
      else s
  else s

/-- BOOT_RELEASE_M: management firmware starts where the responder serves in its place (R14, R420). A pair M that starts already
goes on; one that R14 holds starts again, also where it was held before its configuration had been loaded. -/
def State.releaseM (s : State) : State × Nat :=
  if s.mods.thermal.shutdown || s.natAt Obj.BOOT_ACTIVE_SLOT 0 2 == 0xFF then let (r, s) := s.freeRefusal; (s, r)
  else if s.pairMUp || (s.sys.loading && s.nat Obj.DEV_PAIR_M_STATE == 1) then (s, st.OK)
  else
    ((s.wr Obj.DEV_PAIR_M_STATE 1).setSys { s.sys with phase := .running, loading := true, serviceHold := false }, st.OK)

/-! ### Lighting up (R418) -/

/-- Every enabled strand is enumerated and its driver registers are written. -/
def State.strandsReady (s : State) : Bool :=
  (enabledStrands s.rdAt).all fun n => (s.strand n).known && (s.strand n).queue.isEmpty && (s.strand n).cmd.isNone

def State.modulesPolled (s : State) : Bool :=
  (List.range 16).all fun m => !bit (s.nat Obj.MOD_ENABLE) m || (s.module m).polled

/-- TILE_LIGHT_UP. -/
def tileLightUp (s : State) : State :=
  if s.isTile && s.configured && !s.mods.lit && s.paths.address.2 && s.time.sched.isSome
      && decide (2 ≤ s.nat Obj.TIME_STATE) && s.strandsReady && s.modulesPolled && s.mods.lineSeen then
    let s := s.setMods { s.mods with lit := true }
    if s.power.granted then s else s.wr Obj.PWR_TILE_GRANT (s.rd Obj.PWR_BOOT_GRANT)
  else s

def execTileLightUp (t : Cyc) (s : State) : Host.Outcome State Fault Refusal := s.run t tileLightUp

/-! ### JTAG (R442) -/

/-- The IDCODE of Table 19-12. -/
def idcode : Nat := 1 * 2 ^ 28 + 0x5120 * 2 ^ 12 + 0x3A6 * 2 + 1

/-- JTAG_INSTRUCTION: IDCODE 3, EXTEST 2, SAMPLE/PRELOAD 1; every other code acts as BYPASS (0xFF). -/
def jtagInstruction (code : Nat) (s : State) : State :=
  let c := if 1 ≤ code ∧ code ≤ 3 then code else 0xFF
  let s := { s with sys := { s.sys with jtag := c } }
  s.send (.jtag c (if c = 3 then idcode else 0))

def execJtagInstruction (t : Cyc) (code : Nat) (s : State) : Host.Outcome State Fault Refusal :=
  s.always t id (jtagInstruction code)

end Sys2Proof.Machine
end

