-- ==== Sys2Proof/Machine/Update.lean ====
section
/-! DEFINITION. Saves (R64 to R66, R424), field update (R421 to R425), the restarts of the pairs (R11 to R15) with the
conditions of Table 18-4, and the service string (R419). -/

namespace Sys2Proof.Machine

def State.setUpd (s : State) (u : Upd) : State := { s with upd := u }

/-! ### Saves -/

/-- The area that a save writes beforehand: in a window, the one that holds the running FORMAT (R424). -/
def State.saveSlot (s : State) : Option Nat :=
  if s.upd.window then
    [0, 1].find? fun k => match slotIn (s.slotPair 5) k with
      | some (_, .config f ..) => f == s.ownFormat
      | _ => false
  else none

/-- A save starts, or waits for the one that runs (R66). The interval to the next automatic save runs from its start: DESIGN
CHOICE (log 141). -/
def State.startSave (s : State) : State :=
  if s.nat Obj.PERSIST_STATE = 1 then { s with sess := { s.sess with saveAgain := true } }
  else
    let s := { s with sess := { s.sess with lastSave := s.now, autoDue := false, saveAgain := false } }
    (s.wr Obj.PERSIST_STATE 1).requestStore { region := 5, slot := s.saveSlot, payload := s.configPayload }

/-- A save that waited starts when the other has ended. -/
def State.nextSave (s : State) : State :=
  if s.sess.saveAgain && s.nat Obj.PERSIST_STATE != 1 then s.startSave else s

def execFlashStoreDone (t : Cyc) (dev : FlashDev) (first second : Bool) (s : State) :
    Host.Outcome State Fault Refusal :=
  s.run t fun s => (flashStoreDone dev first second s).nextSave

/-- PERSIST_AUTO_SAVE: PERSIST_INTERVAL after the previous save. -/
def persistAutoSave (s : State) : State :=
  if s.pairMUp && s.sess.autoDue && s.flag Obj.PERSIST_AUTO
      && decide (s.sess.lastSave + seconds (s.nat Obj.PERSIST_INTERVAL) ≤ s.now) then s.startSave
  else s

def execPersistAutoSave (t : Cyc) (s : State) : Host.Outcome State Fault Refusal := s.run t persistAutoSave

/-! ### Loading an update (R421) -/

/-- The slot that no component's ACTIVE names; none where both are named (log 54). -/
def State.inactiveSlot (s : State) : Option Nat :=
  [0, 1].find? fun k => (List.range 3).all fun c => (s.bootRecord.getD c (0, 0, 0)).1 != k

def State.activating (s : State) : Bool := s.nat Obj.UPD_STATE == 3 || s.nat Obj.UPD_STATE == 4

/-- A slot's verified images are forgotten. -/
def State.dropValid (s : State) (slot : Nat) : State := s.setNv { s.nv with valid := clearRange (slot * 4) (slot * 4 + 4) s.nv.valid }

/-- UPD_BEGIN. -/
def State.updBegin (s : State) : State × Nat :=
  if s.activating then (s, st.BUSY)
  else match s.inactiveSlot with
    | none => let (r, s) := s.freeRefusal; (s, r)
    | some k =>
      let s := (s.setNv { s.nv with images := clearRange (k * slotSize) ((k + 1) * slotSize) s.nv.images }).dropValid k
      (s.wr Obj.UPD_STATE 1, st.OK)

/-- UPD_IMAGE: a window of the inactive slot, on SVC only; its size is checked before. -/
def State.updImage (s : State) (via : Transport) (off : Nat) (bytes : List Byte) : State × Nat :=
  if via != .svc then (s, st.DENIED)
  else if s.activating then (s, st.BUSY)
  else match s.inactiveSlot with
    | none => let (r, s) := s.freeRefusal; (s, r)
    | some k =>
      let s := (s.setNv { s.nv with images := writeBytes (fun _ => 0xFF) s.nv.images (k * slotSize + off) bytes }).dropValid k
      (s.wr Obj.UPD_STATE 1, st.OK)

/-- Whether a component of a slot is empty: MAGIC absent (R413). -/
def State.imageEmpty (s : State) (slot c : Nat) : Bool :=
  ofBytes (s.imageBytes slot (componentBase c) 4) != 0x58494D31

/-- The failing check of R415 on one image, as UPD_VERIFY_RESULT counts them; 0 where it passes. -/
def State.verifyCode (s : State) (slot c : Nat) (v : ImageVerdict) : Nat :=
  match s.imageHeader slot c with
  | none => 1
  | some h =>
    if !v.keyDigestOk || decide (4 ≤ h.key) || bit s.nv.revoked h.key then 2
    else if !v.sigOk then 3
    else if !v.digestOk then 4
    else if h.svn < s.nv.fuses.getD c 0 then 5
    else 0

/-- UPD_VERIFY: every non-empty component; the lowest failing one is reported. During an activation UPD_STATE stays
(log 54). -/
def State.updVerify (s : State) (verdicts : List ImageVerdict) : State × Nat :=
  match s.inactiveSlot with
  | none => let (r, s) := s.freeRefusal; (s, r)
  | some k =>
    let used := (List.range 3).filter fun c => !s.imageEmpty k c
    let bad : ImageVerdict := { keyDigestOk := false, sigOk := false, digestOk := false }
    let codes := used.map fun c => (c, s.verifyCode k c (verdicts.getD c bad))
    let valid := codes.foldl (fun l q => match q.2, s.imageHeader k q.1 with
      | 0, some h => insertAt (k * 4 + q.1) h (drop (k * 4 + q.1) l)
      | _, _ => drop (k * 4 + q.1) l) s.nv.valid
    let s := s.setNv { s.nv with valid := valid }
    let go (s : State) (v : Nat) : State := if s.activating then s else s.wr Obj.UPD_STATE v
    match codes.find? fun q => q.2 != 0 with
    | some q => ((go s 7).wr Obj.UPD_VERIFY_RESULT (q.1 * 64 + q.2 : Nat), st.OK)
    | none => ((go s 2).wr Obj.UPD_VERIFY_RESULT 0, st.OK)

/-! ### Activation (R422 to R425) -/

/-- The boot record as it will stand: that of a store in progress or waiting, else the one in use. -/
def State.lastBoot (s : State) : List (Nat × Nat × Nat) :=
  let of (x : Store) : Option (List (Nat × Nat × Nat)) := match x.payload with | .boot l => some l | _ => none
  match ((s.nv.busy ++ s.nv.waiting).filterMap fun q => of q.2).getLast? with
  | some l => l
  | none => s.bootRecord

def State.storeBoot (s : State) (l : List (Nat × Nat × Nat)) : State :=
  s.requestStore { region := 1, slot := none, payload := .boot l }

/-- A component runs from a slot. -/
def State.runComponent (s : State) (c slot : Nat) : State :=
  let s := (s.wrAt Obj.BOOT_ACTIVE_SLOT 0 c slot).wrAt Obj.BOOT_VERSION 0 c
    (((s.validImage slot c).map (·.version)).getD 0 : Nat)
  s.setUpd { s.upd with running := setAt s.upd.running c slot }

/-- An activated component has started on its new image. -/
def State.begun (s : State) (c : Nat) : Bool :=
  bit s.upd.mask c && s.upd.running.getD c 0 == (s.lastBoot.getD c (0, 0, 0)).1

/-- Pair M restarts and its firmware loads a configuration (R417). -/
def State.restartM (s : State) : State :=
  let s := s.pairRestart .m
  if s.nat Obj.DEV_PAIR_M_STATE = 1 then s.setSys { s.sys with loading := true } else s

/-- The next step of an activation: each component starts when the one before it runs (R422). -/
def State.updAdvance (s : State) : State :=
  if s.nat Obj.UPD_STATE ≠ 3 then s
  else
    let u := s.upd
    let slot (c : Nat) : Nat := (s.lastBoot.getD c (0, 0, 0)).1
    if bit u.mask 0 && !u.swapped then s
    else if bit u.mask 1 && !s.begun 1 then (s.runComponent 1 (slot 1)).pairRestart .c
    else if bit u.mask 1 && !s.pairCUp then s
    else
      let s := if bit u.mask 1 && u.runC.isNone then s.setUpd { u with runC := some s.now } else s
      if bit u.mask 2 && !s.begun 2 then (s.runComponent 2 (slot 2)).restartM
      else if bit u.mask 2 && !s.pairMUp then s
      else
        let s := if bit u.mask 2 && s.upd.runM.isNone then s.setUpd { s.upd with runM := some s.now } else s
        s.wr Obj.UPD_STATE 4

/-- UPD_ACTIVATE: bits of the mask without a verified image in the new slot are left out (log 54). -/
def State.updActivate (s : State) (mask target : Nat) : State × Nat :=
  let cal := s.nat Obj.CAL_STATE
  if (s.isTile && decide (2 ≤ cal ∧ cal ≤ 4)) || s.activating || s.nat Obj.DEV_PAIR_M_STATE == 2
      || s.nat Obj.DEV_PAIR_C_STATE == 2 then (s, st.BUSY)
  else match s.nat Obj.UPD_STATE == 2, s.inactiveSlot with
    | true, some k =>
      let m := sumNat ((List.range 3).map fun c => if bit mask c && (s.validImage k c).isSome then 2 ^ c else 0)
      let old := s.bootRecord
      let l := (List.range 3).map fun c =>
        let e := old.getD c (0, 0, 0)
        if bit m c then (k, e.1, 1) else e
      let s := (s.storeBoot l).wr Obj.UPD_STATE 3
      let s := s.setUpd { s.upd with
        mask := m, target := target, loaded := false, swapped := false, started := s.now, cleanFrames := 0, runC := none,
        runM := none, savedOwn := false, window := true, revertKernel := false }
      (s.updAdvance, st.OK)
    | _, _ => let (r, s) := s.freeRefusal; (s, r)

/-- KERNEL_LOAD_DONE: the new set is in the engines beside the old. -/
def kernelLoadDone (s : State) : State :=
  if s.nat Obj.UPD_STATE = 3 ∧ bit s.upd.mask 0 = true then s.setUpd { s.upd with loaded := true } else s

def execKernelLoadDone (t : Cyc) (s : State) : Host.Outcome State Fault Refusal := s.run t kernelLoadDone

/-- At boundary k, after the armed sets: a loaded kernel set replaces the old one, or the old one comes back; and a sender has
composed a frame on the new set (a tile's frames count as their processing ends, R423). -/
def State.kernelBoundary (s : State) (k : Nat) : State :=
  let u := s.upd
  if u.revertKernel then (s.runComponent 0 (s.lastBoot.getD 0 (0, 0, 0)).1).setUpd
    { (s.runComponent 0 (s.lastBoot.getD 0 (0, 0, 0)).1).upd with revertKernel := false }
  else if u.window && u.swapped then
    if s.isSender && s.sys.composing && !s.held then s.setUpd { u with cleanFrames := u.cleanFrames + 1 } else s
  else if u.window && u.loaded && !u.swapped && decide (u.target ≤ k) then
    let s := s.runComponent 0 (s.lastBoot.getD 0 (0, 0, 0)).1
    (s.setUpd { s.upd with swapped := true, swapAt := k }).updAdvance
  else s

/-- A fall-back (R425): the record names PREVIOUS, and each component that has started on its new image goes back;
`m` and `c` say that the pair is already restarting. -/
def State.fallBack (s : State) (m c : Bool) : State :=
  if !s.activating then s
  else
    let was (k : Nat) : Bool := s.begun k
    let wasM := was 2
    let wasC := was 1
    let wasK := bit s.upd.mask 0 && s.upd.swapped
    let l := s.lastBoot.zipIdx.map fun e =>
      if bit s.upd.mask e.2 then (e.1.2.1, e.1.2.1, 0) else e.1
    let s := (s.storeBoot l).setUpd { s.upd with window := false, mask := 0, loaded := false, swapped := false, revertKernel := wasK }
    let s := (s.wr Obj.UPD_STATE 6).raise 0x7E 0 0
    let slot (k : Nat) : Nat := (l.getD k (0, 0, 0)).1
    let s := if wasM then
        let s := s.runComponent 2 (slot 2)
        if m then (if s.nat Obj.DEV_PAIR_M_STATE = 1 then s.setSys { s.sys with loading := true } else s) else s.restartM
      else s
    if wasC then
      let s := s.runComponent 1 (slot 1)
      if c then s else s.pairRestart .c
    else s

/-- UPD_FALLBACK. -/
def State.updFallback (s : State) : State × Nat :=
  if s.activating then (s.fallBack false false, st.OK) else let (r, s) := s.freeRefusal; (s, r)

/-- Every activated component has met its condition of Table 18-4. -/
def State.healthy (s : State) : Bool :=
  let u := s.upd
  let ran (x : Option Cyc) : Bool := match x with | some t0 => decide (t0 + seconds 60 ≤ s.now) | none => false
  (!bit u.mask 0 || decide (600 ≤ u.cleanFrames)) && (!bit u.mask 1 || ran u.runC)
    && (!bit u.mask 2 || (ran u.runM && u.savedOwn))

/-- UPD_CONFIRM: the record says confirmed and the fused counts rise (R415, R423). -/
def updConfirm (s : State) : State :=
  if s.nat Obj.UPD_STATE = 4 ∧ s.healthy = true ∧ s.now < s.upd.started + seconds (s.nat Obj.UPD_CONFIRM_WINDOW) then
    let l := s.lastBoot.zipIdx.map fun e => if bit s.upd.mask e.2 then (e.1.1, e.1.2.1, 0) else e.1
    let s := s.storeBoot l
    let fuses := s.nv.fuses.zipIdx.map fun f =>
      if bit s.upd.mask f.2 then max f.1 (((s.validImage (l.getD f.2 (0, 0, 0)).1 f.2).map (·.svn)).getD 0) else f.1
    let s := s.setNv { s.nv with fuses := fuses }
    let s := (List.range 3).foldl (fun s c => s.wrAt Obj.BOOT_SVN_FUSED 0 c (fuses.getD c 0 : Nat)) s
    (s.setUpd { s.upd with window := false, mask := 0, loaded := false, swapped := false }).wr Obj.UPD_STATE 5
  else s

def execUpdConfirm (t : Cyc) (s : State) : Host.Outcome State Fault Refusal := s.run t updConfirm

/-- UPD_WINDOW_EXPIRY: UPD_CONFIRM_WINDOW has run unconfirmed. -/
def updWindowExpiry (s : State) : State :=
  if s.activating && decide (s.upd.started + seconds (s.nat Obj.UPD_CONFIRM_WINDOW) ≤ s.now) then s.fallBack false false
  else s

def execUpdWindowExpiry (t : Cyc) (s : State) : Host.Outcome State Fault Refusal := s.run t updWindowExpiry

/-! ### Pairs and engines, with the window's conditions -/

/-- A restart under R11; one of an activated pair in its window fails the update at once. -/
def State.pairFails (p : Pair) (s : State) : State :=
  let live := match p with
    | .m => s.sys.phase == .running && s.nat Obj.DEV_PAIR_M_STATE != 2
    | .c => s.nat Obj.DEV_PAIR_C_STATE != 2
  let fails := live && s.activating && s.begun (match p with | .m => 2 | .c => 1)
  let s := s.pairRestart p
  if fails then s.fallBack (p == .m) (p == .c) else s

def execLockstepMismatch (t : Cyc) (pair : Pair) (s : State) : Host.Outcome State Fault Refusal :=
  s.run t (State.pairFails pair)
def execPairWatchdogExpiry (t : Cyc) (pair : Pair) (s : State) : Host.Outcome State Fault Refusal :=
  s.run t (State.pairFails pair)
def execPairMemoryUe (t : Cyc) (pair : Pair) (s : State) : Host.Outcome State Fault Refusal :=
  s.run t (State.pairFails pair)

def execPairCResume (t : Cyc) (s : State) : Host.Outcome State Fault Refusal := s.run t fun s => (pairCResume s).updAdvance
def execPairMResume (t : Cyc) (s : State) : Host.Outcome State Fault Refusal := s.run t fun s => (pairMResume s).updAdvance
def execConfigLoadDone (t : Cyc) (s : State) : Host.Outcome State Fault Refusal :=
  s.run t fun s => (configLoadDone s).updAdvance

/-- A fault of Table 18-4 within the 600 frames of a new kernel set. -/
def State.kernelFault (s : State) : State :=
  if s.activating && s.begun 0 && s.upd.swapped && decide (s.upd.cleanFrames < 600) then s.fallBack false false else s

/-- Whether a source was raised between two states. -/
def raisedSince (old new : State) (src : Nat) : Bool :=
  (new.flt.queue.drop old.flt.queue.length).any fun e => e.src == src

/-- ENGINE_HEALTH_CHECK: a known-answer mismatch retires the engine at once (R18). -/
def engineHealth (pe : Nat) (ok : Bool) (s : State) : State :=
  if ok || decide (engineCount ≤ pe) then s else (s.retire pe).kernelFault

def execEngineHealthCheck (t : Cyc) (pe : Nat) (ok : Bool) (s : State) : Host.Outcome State Fault Refusal :=
  s.run t (engineHealth pe ok)

def execDriveDeadline (t : Cyc) (s : State) : Host.Outcome State Fault Refusal :=
  s.run t fun s =>
    let s' := driveDeadline s
    if raisedSince s s' 0x40 then s'.kernelFault else s'

def execCompositorDeadlineMiss (t : Cyc) (chim : Nat) (s : State) : Host.Outcome State Fault Refusal :=
  s.run t fun s =>
    let s' := compositorMiss chim s
    if raisedSince s s' 0x38 then s'.kernelFault else s'

/-! ### The service string (R419) -/

/-- The check of a frame as a whole. -/
def svcOk (f : SvcFrame) : Bool :=
  f.len == f.message.length && f.crc == crc32 (toBytes 2 f.hop ++ toBytes 2 f.len ++ f.message)

/-- SVC_FRAME: taken at HOP 0 (its message is then the command it carries), else forwarded. -/
def svcFrame (f : SvcFrame) (s : State) : State :=
  if !svcOk f then s.bump Obj.SVC_CRC_ERRORS
  else if f.hop = 0 then s.bump Obj.SVC_FRAMES
  else
    let hop := if f.hop = 0xFFFF then f.hop else f.hop - 1
    let g : SvcFrame := { f with hop := hop, crc := crc32 (toBytes 2 hop ++ toBytes 2 f.len ++ f.message) }
    s.svcQueue f.message.length (.svcFwd g)

def execSvcFrame (t : Cyc) (f : SvcFrame) (s : State) : Host.Outcome State Fault Refusal := s.run t (svcFrame f)

end Sys2Proof.Machine
end

