-- ==== Sys2Proof/Machine/Commit.lean ====
section
/-! DEFINITION. The commit unit (R48 to R54, R471, R472): COMMIT and ARM, the sender's wall-wide commit with its replies and
aborts, and the sets applied at a boundary. -/

namespace Sys2Proof.Machine

def State.setSess (s : State) (x : Sess) : State := { s with sess := x }

/-! ### The checks before validation (R43, R51, R60) -/

/-- Scope bits that no commit may set. -/
def badScope (scope : Nat) : Bool := bit scope 2 || decide (2 ^ 22 ≤ scope)

/-- The commit rows of Table 2-4, with R51's rule for bit 21. -/
def mayCommit (r : SessRole) (scope : Nat) : Bool :=
  if bit scope 21 then scope == 2 ^ 21 && r == SessRole.safety
  else r == SessRole.operator || r == SessRole.integrator || r == SessRole.vendor

/-- Another session than `slot` holds an area's lock. -/
def State.lockedFor (s : State) (slot area : Nat) : Bool := s.lockOwner area != 0xFF && s.lockOwner area != slot

def State.scopeLocked (s : State) (slot scope : Nat) : Bool :=
  (List.range 32).any fun a => bit scope a && s.lockedFor slot a

/-! ### Arming (R48, R50, R228) -/

/-- A further set of a scope fits (R50). -/
def State.fits (s : State) (scope : Nat) : Bool :=
  decide (s.sess.armed.length < 8) && decide (sumNat (s.sess.armed.map (·.size)) + s.snapSize scope ≤ 1048576)

/-- The WALL_RATE that a set carries; none where area 6 is not in its scope. -/
def ArmedSet.newRate (a : ArmedSet) : Option Nat :=
  if bit a.scope 6 then some (look (Obj.WALL_RATE.default 0) (Obj.WALL_RATE.key 0 0) a.nums).toNat else none

/-- The shadows of a scope become an armed set; a sender announces a rate change at once (R228). -/
def State.armSet (s : State) (id scope target gen : Nat) : State :=
  let a : ArmedSet := { id := id, scope := scope, target := target, gen := gen, nums := s.snapNums scope,
                        blobs := s.snapBlobs scope, size := s.snapSize scope }
  let s := s.setSess { s.sess with armed := s.sess.armed ++ [a] }
  match a.newRate with
  | some r => if s.isSender then s.announceRate target r else s
  | none => s

/-- The armed sets of a commit are discarded, and a rate change with them. -/
def State.disarm (s : State) (id : Nat) : State :=
  let gone := s.sess.armed.filter fun a => a.id == id
  let s := s.setSess { s.sess with armed := s.sess.armed.filter fun a => a.id != id }
  gone.foldl (fun s a => match a.newRate, s.time.announced.find? fun c => c.k == a.target with
    | some r, some c => if c.rate = r ∧ r ≠ s.rate then s.withdraw a.target else s
    | _, _ => s) s

/-- COMMIT_STATE follows a commit where it is the last one. -/
def State.showCommit (s : State) (id v : Nat) : State :=
  if s.nat Obj.COMMIT_ID = id then s.wr Obj.COMMIT_STATE v else s

/-- A set that fails validation (R48 step 3): the object and its status (log 55). -/
def State.failCommit (s : State) (key : Nat) : State :=
  ((s.wr Obj.COMMIT_STATE 5).wr Obj.COMMIT_FAIL_OBJECT (key * 256 : Nat)).wr Obj.COMMIT_FAIL_STATUS st.REFUSED

/-- Validation and space for a set (R48, R50); none: it may be armed. -/
def State.vetSet (s : State) (scope target : Nat) : Option (State × Nat) :=
  match s.failing scope target with
  | some key => some (s.failCommit key, st.REFUSED)
  | none => if s.fits scope then none else some (s.wr Obj.COMMIT_STATE 6, st.FULL)

/-! ### The sender's wall-wide commit (R52, R53, R472) -/

/-- The mapped tiles of masked chimneys. -/
def State.wallTiles (s : State) (mask : Nat) : List (Nat × Nat) :=
  ((List.range 8).filter fun c => bit mask c).flatMap fun c => (s.mapped c).map fun a => (c, a)

/-- The 0x1F02 bits of masked chimneys are cleared. -/
def State.clearExcept (s : State) (mask : Nat) : State :=
  let s := ((List.range 16).filter fun j => bit mask (j / 2)).foldl (fun s j => s.wrAt Obj.COMMIT_TILE_EXCEPT 0 j 0) s
  s.setSess { s.sess with waitExcept := s.sess.waitExcept.filter fun q => !bit mask q.1 }

def State.markTiles (s : State) (l : List (Nat × Nat)) : State :=
  l.foldl (fun s q => s.setTileBit Obj.COMMIT_TILE_EXCEPT q.1 q.2 true) s

/-- A new commit takes the next ID. The manual does not say how a device chooses IDs; they count up from 1: DESIGN CHOICE
(log 139). -/
def State.nextCommit (s : State) (state : Nat) : State × Nat :=
  let id := s.sess.nextId + 1
  (((s.setSess { s.sess with nextId := id }).wr Obj.COMMIT_ID (id % 2 ^ 32 : Nat)).wr Obj.COMMIT_STATE state, id % 2 ^ 32)

/-- Walls that no rule reads any more are forgotten; the last is kept for COMMIT_TILES_ARMED. -/
def keptWalls : List WallCommit → List WallCommit
  | [] => []
  | [w] => [w]
  | w :: v :: ws => if w.live || !w.leftOut.isEmpty then w :: keptWalls (v :: ws) else keptWalls (v :: ws)

/-- The sender arms, numbers the generation and sends ARM (R52 steps 1 and 2), or answers ABORTED (R53). -/
def State.wallCommit (s : State) (scope mask flags target : Nat) : State × Nat × Nat :=
  let tiles := s.wallTiles mask
  let out := tiles.filter fun q => s.unreachable q.1 q.2
  if !out.isEmpty && !bit flags 3 then
    let (s, id) := s.nextCommit 3
    (s.markTiles out, st.ABORTED, id)
  else
    let (s, id) := s.nextCommit 1
    let gen := (s.nat Obj.COMMIT_GENERATION + 1) % 2 ^ 32
    let s := (s.clearExcept mask).markTiles out
    let s := s.setSess { s.sess with waitExcept := out ++ s.sess.waitExcept }
    let s := if bit flags 2 then s.armSet id scope target gen else s
    let w : WallCommit :=
      { id := id, scope := scope, mask := mask, target := target, gen := gen, live := true,
        waiting := tiles.filter fun q => !s.unreachable q.1 q.2, armed := [], leftOut := out }
    let s := s.setSess { s.sess with walls := keptWalls (s.sess.walls ++ [w]) }
    let s := s.wr Obj.COMMIT_TILES_ARMED 0
    (((List.range 8).filter fun c => bit mask c).foldl (fun s c => s.sendArm c 0xFF id scope target gen) s, st.OK, id)

/-- COMMIT (R48 to R53): the reply's status and commit ID. -/
def State.commit (s : State) (slot scope chims flags target : Nat) : State × Nat × Nat :=
  let wall := s.isSender && chims % 256 != 0
  let lead := s.nat Obj.WFC + s.nat Obj.COMMIT_LEAD
  let target := if target % 2 ^ 48 = 0 then lead else target % 2 ^ 48
  if badScope scope || (s.isTile && chims % 256 != 0) then (s, st.RANGE, 0)
  else if !mayCommit (s.session slot).role scope then (s, st.DENIED, 0)
  else if s.scopeLocked slot scope then (s, st.LOCKED, 0)
  else if target < lead then (s.wr Obj.COMMIT_STATE 4, st.LATE, 0)
  else
    match if wall && !bit flags 2 then none else s.vetSet scope target with
    | some (s, status) => (s, status, 0)
    | none =>
      if wall then s.wallCommit scope (chims % 256) flags target
      else
        let (s, id) := s.nextCommit 1
        (s.armSet id scope target (s.nat Obj.COMMIT_GENERATION), st.OK, id)

/-- ARM in session 0 of a tile (R52 steps 3 and 4). -/
def State.armTile (s : State) (id scope target gen : Nat) : State × Nat :=
  let s := s.wr Obj.COMMIT_ID id
  if target % 2 ^ 48 ≤ s.nat Obj.WFC + 1 then ((s.wr Obj.COMMIT_STATE 4).raise 0x79 0 0, st.LATE)
  else match s.vetSet scope (target % 2 ^ 48) with
    | some r => r
    | none => ((s.armSet id scope (target % 2 ^ 48) gen).wr Obj.COMMIT_STATE 1, st.OK)

/-- ABORT in session 0 of a tile, before the target boundary (R52 step 7). -/
def State.abortTile (s : State) (id : Nat) : State :=
  if s.sess.armed.any fun a => a.id == id then (s.disarm id).showCommit id 3 else s

/-! ### Replies, deadline and aborts at the sender (R52 steps 5 and 6) -/

/-- ABORT on both paths of every masked chimney, with the chimney's next SEQ. -/
def State.sendAbort (s : State) (id mask : Nat) : State :=
  ((List.range 8).filter fun c => bit mask c).foldl (fun s c => s.toTiles c 0xFF 0x22 4 [id]) s

/-- A further copy of an ABORT: every copy has the same SEQ (R52 step 6). -/
def State.abortCopy (s : State) (r : AbortRun) : State :=
  r.seqs.foldl (fun s q => s.toTilesAs q.1 0xFF 0x22 q.2 4 [r.id]) s

/-- The sender aborts a commit: ABORT now, and seven more copies at 100 us. -/
def State.abortWall (s : State) (w : WallCommit) : State :=
  let s := s.disarm w.id
  let off (x : WallCommit) : WallCommit := if x.id = w.id then { x with live := false, waiting := [], leftOut := [] } else x
  let run : AbortRun := { id := w.id, left := 7, next := s.now + us 100,
                          seqs := ((List.range 8).filter fun c => bit w.mask c).map fun c => (c, (s.chim c).seq + 1) }
  let s := s.setSess { s.sess with walls := s.sess.walls.map off, aborts := s.sess.aborts ++ [run] }
  (s.showCommit w.id 3).sendAbort w.id w.mask

/-- ABORT_REPEAT. -/
def abortRepeat (s : State) : State :=
  s.sess.aborts.foldl (fun s r =>
    if r.next ≤ s.now then
      let r' : AbortRun := { r with left := r.left - 1, next := r.next + us 100 }
      let l := s.sess.aborts.filterMap fun x => if x == r then (if r.left ≤ 1 then none else some r') else some x
      (s.setSess { s.sess with aborts := l }).abortCopy r
    else s) s

def execAbortRepeat (t : Cyc) (s : State) : Host.Outcome State Fault Refusal := s.run t abortRepeat

/-- ARM_REPLY: ARMED counts; a refusal marks the tile and aborts at once, save that of a tile left out of step 5 (R53). -/
def armReply (c a id : Nat) (armed : Bool) (s : State) : State :=
  match s.isSender, s.sess.walls.find? fun w => w.id == id with
  | true, some w =>
    let last := match s.sess.walls.getLast? with | some v => v.id == id | none => false
    if armed then
      let w' : WallCommit := { w with waiting := w.waiting.filter fun q => q != (c, a),
                                      armed := if w.armed.contains (c, a) then w.armed else (c, a) :: w.armed }
      let s := s.setSess { s.sess with walls := s.sess.walls.map fun x => if x.id = id then w' else x }
      if last then s.wr Obj.COMMIT_TILES_ARMED w'.armed.length else s
    else
      let s := s.setTileBit Obj.COMMIT_TILE_EXCEPT c a true
      if w.live && w.waiting.contains (c, a) then s.abortWall w else s
  | _, _ => s

def execArmReply (t : Cyc) (chim tile id : Nat) (armed : Bool) (s : State) : Host.Outcome State Fault Refusal :=
  s.run t (armReply chim tile id armed)

/-- ARM_REPLY_DEADLINE: from the boundary at which WFC is target - 1, a missing reply aborts (R52 step 5). -/
def armReplyDeadline (s : State) : State :=
  s.sess.walls.foldl (fun s w =>
    if w.live && !w.waiting.isEmpty && decide (w.target ≤ s.nat Obj.WFC + 1) then (s.markTiles w.waiting).abortWall w
    else s) s

def execArmReplyDeadline (t : Cyc) (s : State) : Host.Outcome State Fault Refusal := s.run t armReplyDeadline

/-! ### Sets applied at a boundary (R9, R48, R50, R54, R62) -/

/-- One armed set comes into force at boundary k. -/
def State.applySet (s : State) (k : Nat) (a : ArmedSet) : State :=
  let s := { s with
    dict := overlay a.scope a.nums s.dict,
    blob := a.blobs.foldl (fun m (p : Nat × Byte) => insertAt p.1 p.2 m)
      (s.blob.filter fun (p : Nat × Byte) => !(inScope a.scope (p.1 / 2 ^ 32) && isRws (p.1 / 2 ^ 32))) }
  let s := s.wr Obj.COMMIT_GENERATION a.gen
  let s := (List.range 32).foldl (fun s n => if bit a.scope n && bit (s.nat Obj.LOCK_SUSPECT) n then s.suspect n false else s) s
  let s := if s.isSender && bit a.scope 21 then s.hearthSwap else s
  if s.nat Obj.COMMIT_ID = a.id then (s.wr Obj.COMMIT_STATE 2).wr Obj.COMMIT_APPLIED_WFC k else s

/-- The sender's generation of a wall-wide commit without a set of its own (R52 step 8), and commits that are over. -/
def State.applyWalls (s : State) (k : Nat) : State :=
  let due := s.sess.walls.filter fun w => w.live && decide (w.target ≤ k)
  let s := due.foldl (fun s w =>
    let s := (s.setSess { s.sess with genAt := k }).wr Obj.COMMIT_GENERATION w.gen
    if s.nat Obj.COMMIT_ID = w.id then (s.wr Obj.COMMIT_STATE 2).wr Obj.COMMIT_APPLIED_WFC k else s) s
  s.setSess { s.sess with
    walls := keptWalls (s.sess.walls.map fun w => if w.target ≤ k then { w with live := false } else w) }

/-- COMMIT_APPLY at the boundary at which WFC becomes k: the due sets by target, those of one target in arming order (R50), or,
in a tile that has lost both paths, none of them (R54, R207). -/
def State.commitApply (s : State) (k : Nat) : State :=
  let due := byTarget (s.sess.armed.filter fun a => decide (a.target ≤ k))
  let rest := s.sess.armed.filter fun a => !decide (a.target ≤ k)
  let s' := s.setSess { s.sess with armed := rest }
  let s' := if s.isTile && s.lostBoth then due.foldl (fun s a => s.showCommit a.id 3) s'
    else due.foldl (fun s a => s.applySet k a) s'
  let s' := s'.applyWalls k
  if due.isEmpty then s' else ((s'.valuesApplied s k true).noteChange s)

end Sys2Proof.Machine
end

