-- ==== Sys2Proof/Machine/Boundary.lean ====
section
/-! DEFINITION. FRAME_BOUNDARY (R9, Table 1-4): everything that happens at the boundary at which WFC becomes k, in order. -/

namespace Sys2Proof.Machine

/-- The next boundary (R226): its number and instant. Under a schedule that replaces the one in force (R228), the first
boundary of the new one at or after the instant of the old next boundary (log 56). -/
def State.nextBoundary (s : State) : Option (Nat × Int) :=
  let k := s.time.first.getD (s.nat Obj.WFC + 1)
  match s.scheduleFor k, s.time.replace with
  | some c, some n =>
    let k' := n.firstFrom k (c.instant k) fun b => decide (c.instant k ≤ b)
    some (k', n.instant k')
  | some c, none => some (k, c.instant k)
  | none, _ => none

/-- A schedule that replaces the one in force (R228): lock is left. -/
def State.replaceSchedule (s : State) : State :=
  match s.time.replace with
  | some c =>
    let s := (s.setSchedule c).setTime { (s.setSchedule c).time with replace := none, byAnchor := true }
    if s.isTile && s.nat Obj.TIME_STATE == 3 then s.tileTo 2 false else s
  | none => s

/-- Steps 0 and 0 + 1 CCLK: WFC, the schedule and the armed sets. -/
def State.boundaryCommit (s : State) (k : Nat) : State :=
  let s := (s.clockStep.setTime { s.clockStep.time with first := none }).wr Obj.WFC k
  let s := armReplyDeadline (s.replaceSchedule.adoptAt k)
  (s.commitApply k).kernelBoundary k

/-- Step 0 + 2 CCLK, and the counters of frame k - 1 (step 0 + 3 CCLK). -/
def State.boundaryStage (s : State) (k : Nat) : State :=
  let s := (s.stagingCopy k).spareTakeover
  s.setPower { s.power with sinceMsg := s.power.sinceMsg + 1 }

/-- Step 0 + 4 CCLK at a sender: sources, composition, the links, and the feeders' shares. -/
def State.boundarySender (s : State) (k : Nat) (b : Int) : State :=
  let composes := s.configured && s.sys.dataPlane && !s.held
  let s := s.setSys { s.sys with composing := s.sys.composing || composes }
  let s := if composes then
      let s := s.egressBoundary.selectSources
      let s := s.sendIngestStatus k (time96 b.toNat) ((periodNs s.rate).1 / (periodNs s.rate).2)
      (s.bump Obj.COMP_FRAMES).wrIn Obj.HEARTH_PROTECTED_PX 0 0 (s.protectedCount : Nat)
    else s
  s.feederShare k

/-- What the data plane of a tile does at a boundary: the frame that the lamp engines take, reception and the path state. A data
plane held in its last frame (R25) takes none. -/
def State.admitFrame (s : State) (k : Nat) : State :=
  if s.held then s
  else
    let s := if 2 ≤ s.paths.frames.length then frameClose s else s
    ((s.latchFrame k).openFrame k).holdFadeEval.presentHold (k - 3)

/-- Step 0 + 4 CCLK at a tile: the address, the data plane's frame, the strands, the report and the zone check. -/
def State.boundaryTile (s : State) (k : Nat) : State :=
  let s := s.takeAddress.admitFrame k
  (s.strandsResume.serviceBoundary.sendReport).currentCheck

/-- FRAME_BOUNDARY. The boundary comes from wall time, so a loss of lock of the core or time PLL does not stop it: WFC, commits
and staging go on, and only the data plane stays in its last frame (R25, R226). -/
def frameBoundary (s : State) : State :=
  match s.nextBoundary with
  | some (k, b) =>
    if decide ((s.wall18 : Int) < b) then s
    else
      let s := s.boundaryCommit k
      let b := match s.time.sched with | some c => c.instant k | none => b
      let s := (s.setTime { s.time with boundaryAt := some s.now, boundary := b.toNat }).boundaryStage k
      if s.isSender then s.boundarySender k b else s.boundaryTile k
  | none => s

def execFrameBoundary (t : Cyc) (s : State) : Host.Outcome State Fault Refusal := s.run t frameBoundary

end Sys2Proof.Machine
end

