-- ==== Sys2Proof/Machine/Locks.lean ====
section
/-! DEFINITION. Locks (R59 to R63) and persistence writes (R67), and the messages that a sender forwards to its tiles with what
their replies tell it (R44, R63, R470). -/

namespace Sys2Proof.Machine

/-! ### Locks of this device (R59 to R62) -/

/-- The lock rows of Table 2-4. -/
def mayLock (r : SessRole) (area : Nat) : Bool :=
  if area = 21 then r == SessRole.safety
  else r == SessRole.operator || r == SessRole.integrator || r == SessRole.vendor

/-- The checks of LOCK and UNLOCK before the lock itself; none: they pass. -/
def lockRefused (r : SessRole) (area : Nat) : Option Nat :=
  if area = 2 ∨ area = 31 then some st.DENIED
  else if 22 ≤ area then some st.RANGE
  else if mayLock r area then none
  else some st.DENIED

/-- LOCK: a tile refuses it over SVC (R63); at a sender, a client that holds a lock on one of its tiles is out of wall
order (log 57). -/
def State.lock (s : State) (slot : Nat) (via : Transport) (area : Nat) : State × Nat :=
  let x := s.session slot
  match lockRefused x.role area with
  | some q => (s, q)
  | none =>
    if s.isTile && via == Transport.svc then (s, st.DENIED)
    else if s.lockOwner area ≠ 0xFF then (s, st.LOCKED)
    else if s.isSender && s.sess.fwd.any (fun l => l.cert == x.cert) then (s, st.ORDER)
    else (s.takeLock area slot, st.OK)

/-- UNLOCK. -/
def State.unlock (s : State) (slot area : Nat) : State × Nat :=
  match lockRefused (s.session slot).role area with
  | some q => (s, q)
  | none =>
    if s.lockOwner area = 0xFF then (s, st.OK)
    else if s.lockOwner area = slot then (s.freeLock area, st.OK)
    else (s, st.LOCKED)

/-- A suspect mark cleared through LOCK_CTRL (R62). -/
def State.clearSuspect (s : State) (slot area : Nat) : State × Nat :=
  let r := (s.session slot).role
  let may := if area = 21 then r == SessRole.safety else r == SessRole.integrator || r == SessRole.vendor
  if may then (s.suspect area false, st.OK) else (s, st.DENIED)

/-! ### Forwarding (R44, R63, R470) -/

/-- Wire bytes of a value written to an object. -/
def WVal.wire (ty : Ty) : WVal → Nat
  | .num _ => ty.wire
  | .str b => 1 + b.length
  | .window _ b => 6 + b.length
  | .bad => ty.wire

/-- The device order of R63: chimney, then address. -/
def FwdLock.place (l : FwdLock) : Nat := l.chim * 256 + l.tile

/-- Whether a LOCK for a tile is in wall order with the locks forwarded and granted for its client; a further area of a
device already locked is (log 57). -/
def State.inOrder (s : State) (c a session : Nat) : Bool :=
  match look none (c * 65536 + a * 256 + session) (s.sess.fwdSess.map fun q => (q.1, some q.2)) with
  | some cert => s.sess.fwd.all fun l => l.cert != cert || decide (l.place ≤ c * 256 + a)
  | none => true

/-- What the sender will learn from the reply to a forwarded message: (opcode, area, reply byte of the status). -/
def asksOf (op : Nat) (m : Msg) (area : Nat) (vals : List WVal) : List (Nat × Nat × Nat) :=
  if op = 0x30 ∨ op = 0x31 then [(op, area, 18)]
  else if op = 0x02 then [(op, 0, 18)]
  else if op = 0x11 ∧ m.index = 0x1F10 then
    vals.zipIdx.filterMap fun q => match q.1 with
      | .num 1 => some (0x30, m.sub + q.2, 24 + q.2)
      | .num 2 => some (0x31, m.sub + q.2, 24 + q.2)
      | _ => none
  else []

/-- The sender has no path to a tile, or to any tile (0xFF) of a chimney. -/
def State.noPath (s : State) (c a : Nat) : Bool :=
  if a = 0xFF then !chimneyOn s.rdAt c else !(s.mapped c).contains a || s.unreachable c a

/-- A message with `n` bytes of payload waits, unchanged, for class 6 of its chimney (R44, R183). -/
def State.passOn (s : State) (m : Msg) (op c n : Nat) : State :=
  s.setChim c { s.chim c with fwd := (s.chim c).fwd ++ [(op, m, 24 + n + 32)] }

/-- A request whose ROUTE names a chimney: it is passed on, or answered in place of the tile. -/
def State.forward (s : State) (m : Msg) (op c a area n : Nat) (vals : List WVal) : State :=
  let asks := asksOf op m area vals
  if s.noPath c a then s.sendOn m.transport (.untagged op st.UNREACHABLE m)
  else if asks.any (fun q => q.1 == 0x30) && !s.inOrder c a m.session then
    s.sendOn m.transport (.untagged op st.ORDER m)
  else
    let s := s.passOn m op c n
    let l : List FwdAsk := asks.map fun q =>
      { op := q.1, chim := c, tile := a, session := m.session, area := q.2.1, pos := q.2.2 }
    s.setSess { s.sess with fwdAsk := s.sess.fwdAsk ++ l }

/-- A byte of a message. -/
def byteAt (b : List Byte) (i : Nat) : Nat := ((b[i]?).map (·.toNat)).getD 0

/-- The locks of one session at a tile are over for R63. -/
def Sess.endForwarded (x : Sess) (c a session : Nat) : Sess :=
  { x with fwd := x.fwd.filter fun l => !(l.chim == c && l.tile == a && l.session == session),
           fwdSess := drop (c * 65536 + a * 256 + session) x.fwdSess }

/-- What one answered request does to the locks of R63. -/
def Sess.answered (x : Sess) (q : FwdAsk) (status : Nat) : Sess :=
  let key := q.chim * 65536 + q.tile * 256 + q.session
  let x := { x with fwdAsk := x.fwdAsk.erase q }
  if status ≠ 0 then x
  else match q.op, look none key (x.fwdSess.map fun p => (p.1, some p.2)) with
    | 0x30, some cert =>
      { x with fwd := { cert := cert, chim := q.chim, tile := q.tile, session := q.session, area := q.area } :: x.fwd }
    | 0x31, _ =>
      { x with fwd := x.fwd.filter fun l =>
          !(l.chim == q.chim && l.tile == q.tile && l.session == q.session && l.area == q.area) }
    | 0x02, _ => x.endForwarded q.chim q.tile q.session
    | _, _ => x

/-- A message of a tile, complete at the sender: its replies and notices are forwarded to the client unchanged, save those
of session 0, and R63's record follows them. In the reply to an OPEN, SESSION stands at byte 131 + L of the payload and
EPOCH 2 bytes on (R364); the sender takes the epoch of session 0 from there (R367). -/
def State.tileMessage (s : State) (c a : Nat) (b : List Byte) : State :=
  let op := byteAt b 1
  let n := byteAt b 24 * 256 + byteAt b 25
  let session := if op = 0x81 ∧ byteAt b 18 = 0 then byteAt b (24 + 131 + n) else byteAt b 8
  if op = 0x81 ∧ byteAt b 18 = 0 ∧ session = 0 then
    let e := byteAt b (24 + 131 + n + 2) * 256 + byteAt b (24 + 131 + n + 3)
    if (s.mapped c).contains a then s.setTile c a { s.tile c a with s0open := true, s0epoch := e, s0seq := 0 } else s
  else if session = 0 ∨ (op < 0x80 ∧ op ≠ 0x40) then s
  else
    let x := s.sess
    let x := if op = 0x81 then
        match x.fwdOpen.find? fun q => q.1 == c && q.2.1 == a with
        | some q =>
          let x := { x with fwdOpen := x.fwdOpen.erase q }
          if byteAt b 18 = 0 then
            let x := x.endForwarded c a session
            let key := c * 65536 + a * 256 + session
            { x with fwdSess := insertAt key q.2.2 (drop key x.fwdSess) }
          else x
        | none => x
      else if op < 0x80 then x
      else (x.fwdAsk.filter fun q => q.chim == c && q.tile == a && q.session == session
          && (q.op + 0x80 == op || (op == 0x91 && decide (24 ≤ q.pos)))).foldl
        (fun x q => x.answered q (byteAt b q.pos)) x
    (s.setSess x).send (.fromTile c a b)

/-- CTRL, with what a message complete at a sender does. -/
def execCtrl (t : Cyc) (port : Nat) (g : CtrlSeg) (s : State) : Host.Outcome State Fault Refusal :=
  s.run t fun s =>
    let s' := ctrlEffect port g s
    match s.isSender, s'.flue.received with
    | true, (src, _, bytes) :: _ =>
      if s.flue.received.length < s'.flue.received.length then s'.tileMessage (src / 256) (src % 256) bytes else s'
    | _, _ => s'

end Sys2Proof.Machine
end

