-- ==== Sys2Proof/Machine/Dict.lean ====
section
/-! DEFINITION. Dictionary messages (R31 to R37, R43 to R46, R468 to R470): the envelope of a request, and READ and DESCRIBE. -/

namespace Sys2Proof.Machine

/-! ### Reading -/

/-- The rows that the ROM's responder serves (R420). -/
def romRow (r : ObjRow) : Bool := r.rom || r.base == 0x1000 || r.base == 0x1010

/-- The object at an address as this device has it at the moment; none: NO_OBJECT (R31, R420). -/
def State.objAt (s : State) (ix sub : Nat) : Option (ObjRow × Nat × Nat) :=
  (findObj ix sub).filter fun q => s.has q.1 && (s.pairMUp || romRow q.1)

/-- ROLE of Table 2-6. -/
def roleCode : SessRole → Nat
  | .observer => 1
  | .operator => 2
  | .integrator => 3
  | .safety => 4
  | .vendor => 5

/-- An entry of DICT_SESSION_TABLE (Table 2-6); CLIENT_ID is the first 32 bits of the certificate's SHA-384. -/
def State.sessionEntry (s : State) (k : Nat) : Nat :=
  let x := s.session k
  if x.st = 0 then x.epoch * 2 ^ 40
  else roleCode x.role * 2 ^ 56 + x.epoch * 2 ^ 40 + x.cert / 2 ^ 352 % 2 ^ 32 * 2 ^ 8
    + (if x.closing then 3 else x.st)

/-- COMMIT_DIRTY: the areas with a shadow that differs from its value in force. -/
def State.dirtyAreas (s : State) : Nat :=
  let differ := fun (k : Nat) => isRws k && look (defaultOfKey k) k s.shadow != look (defaultOfKey k) k s.dict
  let keys := ((s.shadow ++ s.dict).map (·.1)).filter differ
  let cells := ((s.shadowBlob ++ s.blob).map (·.1)).filter fun a =>
    isRws (a / 2 ^ 32) && look (blobCellDefault a) a s.shadowBlob != look (blobCellDefault a) a s.blob
  let areas := keys.map (fun k => areaOf (k / 256)) ++ cells.map fun a => areaOf (a / 2 ^ 32 / 256)
  areas.foldl (fun m a => setBit m a true) 0

/-- FLT_STATE of a source (Table 17-5). -/
def State.sourceState (s : State) (k : Nat) : Nat :=
  (s.side false k).state + 4 * (s.side true k).state + (if s.flt.held k then 16 else 0)

/-- Seconds left until an instant, rounded to nearest (R467). -/
def State.left (s : State) (end_ : Cyc) : Nat := (roundAway (end_ - s.now : Nat) (seconds 1)).toNat

/-- Values that are not stored as objects: those computed at the read, and those held per session (Table 2-10). -/
def State.liveValue (s : State) (slot : Nat) (r : ObjRow) (i j : Nat) : Option Int :=
  let x := s.session slot
  if r = Obj.WALL_TIME then some (time96 s.wall18 : Nat)
  else if r = Obj.DICT_SESSION_TABLE then some (s.sessionEntry j : Nat)
  else if r = Obj.COMMIT_SCOPE then some x.scope
  else if r = Obj.COMMIT_CHIMNEYS then some x.chims
  else if r = Obj.COMMIT_FLAGS then some x.flags
  else if r = Obj.COMMIT_TARGET then some x.target
  else if r = Obj.COMMIT_DIRTY then some (s.dirtyAreas : Nat)
  else if r = Obj.FLT_STATE then some (s.sourceState j : Nat)
  else if r = Obj.PATH_HOLDOFF_NOW then
    some ((match s.paths.holdoff with | some (_, h) => h | none => s.holdoffSecs : Nat) : Nat)
  else if r = Obj.PATH_HOLDOFF_LEFT then
    some ((match s.paths.holdoff with | some (t0, h) => s.left (t0 + seconds h) | none => 0 : Nat) : Nat)
  else if r = Obj.UPD_CONFIRM_LEFT then
    some ((if s.activating then s.left (s.upd.started + seconds (s.nat Obj.UPD_CONFIRM_WINDOW)) else 0 : Nat) : Nat)
  else if r = Obj.ROLE_STATUS then some (if s.isSender then 1 else 0)
  else if r = Obj.DEV_SERIAL then some (Config.devSerial % 2 ^ 64 : Nat)
  else if r = Obj.FRM_RELAY_PS then
    if 2 ≤ i ∨ s.rdAt Obj.FRM_FRAMES (1 - i) 0 = 0 then none else some (31000 + Config.relayPs i % 2201 : Nat)
  else none

/-- Bytes of the constant strings (Table 15-6). -/
def stringOf (r : ObjRow) : List Byte :=
  if r = Obj.DEV_PART then [0x58, 0x4A, 0x35, 0x31, 0x32, 0x30]
  else if r = Obj.DEV_ORDER_CODE then [0x58, 0x4A, 0x35, 0x31, 0x32, 0x30, 0x2D, if Config.orderCodeIsI then 0x49 else 0x43]
  else [0x42, 0x31]

/-- CAL_RESIDUAL: the figure of every pixel of the last run's module, line-major; 0xFF unsolved (R348). -/
def State.residuals (s : State) : List Byte :=
  let m := s.mods.cal.module
  let x := s.module m
  (List.range x.height).flatMap fun dy => (List.range x.width).map fun dx =>
    let k := (s.natAt Obj.MOD_Y0 m 0 + dy) * 512 + s.natAt Obj.MOD_X0 m 0 + dx
    match s.mods.cal.results.find? fun q => q.1 == k with
    | some q => BitVec.ofNat 8 q.2.2
    | none => 0xFF

/-- The size of a BLOB object at the moment of the access (R468). -/
def State.blobLen (s : State) (r : ObjRow) (i : Nat) : Nat :=
  if r = Obj.LAYER_STILL_DATA then packedSize (stillFormat s.rdAt i)
  else if r = Obj.HEARTH_IMAGE then 4 * s.hearthShadowPixels
  else if r = Obj.CAL_MEAS_DATA then s.calSize
  else if r = Obj.UPD_IMAGE then slotSize
  else if r = Obj.CAL_BULK_DATA then 2 ^ 32 - 1
  else if r.acc = .rws then blobSize r.base
  else if r = Obj.DEV_CERT then Config.devCert.length
  else if r = Obj.DEV_CA_CERT then Config.devCaCert.length
  else if r = Obj.MOD_PKG_DIGEST then 48
  else if r = Obj.CAL_RESIDUAL then (s.module s.mods.cal.module).pixels
  else if r = Obj.FLT_ASH ∨ r = Obj.FLT_WALL_LOG then 1024
  else if r = Obj.FLT_ASH_PREV then 1028
  else 97

/-- Bytes of a BLOB object: LUTs and anchors are stored, the others follow the state. -/
def State.blobRead (s : State) (r : ObjRow) (i j off n : Nat) (sh : Bool) : List Byte :=
  let part (l : List Byte) : List Byte := (l.drop off).take n
  if r = Obj.DEV_CERT then part Config.devCert
  else if r = Obj.DEV_CA_CERT then part Config.devCaCert
  else if r = Obj.MOD_PKG_DIGEST then part (toBytes 48 (s.module i).digest)
  else if r = Obj.CAL_RESIDUAL then part s.residuals
  else if r = Obj.FLT_ASH then part (logBytes (s.nat Obj.FLT_ASH_SEQ) s.flt.ash)
  else if r = Obj.FLT_WALL_LOG then part (logBytes (s.nat Obj.FLT_WALL_SEQ) s.flt.wallLog)
  else if r = Obj.FLT_ASH_PREV then part (match s.flt.prev with
    | some (q, l) => toBytes 4 q ++ logBytes q l
    | none => List.replicate 1028 0)
  else readBytes blobCellDefault (if sh then s.shadowBlob else s.blob) (blobAddr (r.key i j) off) n

/-- One element read: status, value, and the state after it (a read of DEV_CLOCK_STATUS clears its LOL bits). -/
def State.readElem (s : State) (slot ix sub : Nat) (sh : Bool) (win : Option (Nat × Nat)) : (Nat × Option RVal) × State :=
  match s.objAt ix sub with
  | none => ((st.NO_OBJECT, none), s)
  | some (r, i, j) =>
    if r.acc = .wo ∨ r.acc = .cmd then ((st.ACCESS, none), s)
    else if r.ty = .blob then
      let (off, n) := win.getD (0, 1000)
      let len := s.blobLen r i
      if len < off then ((st.RANGE, none), s)
      else ((st.OK, some (.window off (s.blobRead r i j off (min (min n 1000) (len - off)) (sh && r.acc == .rws)))), s)
    else if r.ty = .str then ((st.OK, some (.str (stringOf r))), s)
    else
      let v := if sh && r.acc == .rws then s.shAt r i j else (s.liveValue slot r i j).getD (s.rdAt r i j)
      let s := if r = Obj.DEV_CLOCK_STATUS then s.wr r (s.nat r % 2 ^ 8 : Nat) else s
      ((st.OK, some (.num r.ty.wire v)), s)

/-! ### The envelope (R44 to R46, R470) -/

/-- What follows a reply: the session ends (CLOSE, or an anchor change), a pair restarts, the device resets, or modules are
bound anew. -/
inductive After where
  | close | pair (p : Pair) | reset (p : PowerOn) | anchors | modAnchors
deriving DecidableEq, Repr

/-- What a request answers: the state, the reply, whether the reply waits for an event (R55), and what follows it. -/
structure Act where
  s : State
  r : Reply
  held : Bool := false
  after : List After := []

/-- A request that is answered at once with a status. -/
def Act.of (q : State × Nat) : Act := { s := q.1, r := { status := q.2 } }

def State.follow (s : State) (slot : Nat) : After → State
  | .close => s.endSession slot true
  | .pair p => s.pairFails p
  | .reset p => s.commandReset p
  | .anchors => s.anchorsChanged
  | .modAnchors => s.rebindAll

/-- A request is executed and answered; where its session has ended meanwhile, no reply can go. While a reply waits for its
event (R55), the requests of other sessions run: the queue of R58 does not wait for it. DESIGN CHOICE (log 138). -/
def State.execute (s : State) (slot op : Nat) (f : State → Act) : State :=
  let a := f s
  let s :=
    if !(a.s.session slot).isOpen then a.s
    else if a.held then a.s.setSession slot { a.s.session slot with busy := some (op, a.r) }
    else a.s.answer slot op a.r
  a.after.foldl (fun s x => s.follow slot x) s

/-- A message whose VERSION, session, tag or EPOCH fails is dropped and counted (R46). -/
def State.genuine (s : State) (m : Msg) : Bool :=
  m.version == 1 && decide (m.session < 64) && (s.session m.session).isOpen && m.tagOk
    && m.epoch == (s.session m.session).epoch

/-- A request at this device: order and repeats (R45), then its execution. A genuine message restarts the session timeout
whatever its SEQ, also one that R45 then drops: DESIGN CHOICE (log 137). -/
def State.accept (s : State) (m : Msg) (op : Nat) (f : State → Act) : State :=
  if !s.genuine m then s.bump Obj.DICT_AUTH_FAILS
  else
    let slot := m.session
    let x := s.session slot
    let s := s.setSession slot { x with lastMsg := s.now, transport := m.transport }
    if m.seq = x.seq ∧ (x.busy.isSome ∨ x.cached.isSome) then
      match x.busy, x.cached with
      | none, some (o, r) => s.sendOn m.transport (.reply m.transport slot x.seq o r)
      | _, _ => s
    else if m.seq ≤ max x.seq x.oneWay then s.bump Obj.DICT_REPLAYS
    else if op ≠ 0x02 ∧ (0xFFFFFFFF ≤ m.seq ∨ x.closing = true) then
      (s.setSession slot { s.session slot with closing := true }).sendIn slot
        (.reply m.transport slot m.seq op { status := st.RANGE })
    else
      (s.setSession slot { s.session slot with seq := m.seq, cached := none, busy := none }).execute slot op f

/-- A request: one whose ROUTE names a chimney of a sender is forwarded; the others are for this device, where the ROM's
responder takes only some opcodes (R420). `n` is the length of its payload. -/
def State.request (s : State) (m : Msg) (op : Nat) (rom : Bool) (area n : Nat) (vals : List WVal) (f : State → Act) : State :=
  if !s.hears m.transport then s
  else match s.isSender && s.pairMUp, m.route with
    | true, .chimney c a => s.forward m op c a area n vals
    | _, _ => if s.pairMUp || rom then s.accept m op f else s

/-- A message without reply (R45), of `n` payload bytes: its effect is one of session 0 of a tile (Table 2-8). One whose ROUTE
names a chimney of a sender is forwarded like any other (R44), and no one is told where that tile is out of reach. In a session
that accepts only CLOSE it has no effect and is not counted: DESIGN CHOICE (log 137). -/
def State.oneWay (s : State) (m : Msg) (op n : Nat) (f : State → State) : State :=
  if !(s.hears m.transport && s.pairMUp) then s
  else match s.isSender, m.route with
    | true, .chimney c a => if s.noPath c a then s else s.passOn m op c n
    | _, _ =>
      if !s.genuine m then s.bump Obj.DICT_AUTH_FAILS
      else
        let k := m.session
        let x := s.session k
        let s := s.setSession k { x with lastMsg := s.now }
        let last := max x.seq x.oneWay
        if x.closing = true ∨ m.seq = last then s
        else if m.seq < last then s.bump Obj.DICT_REPLAYS
        else
          let s := s.setSession k { s.session k with oneWay := m.seq }
          if s.isTile && k == 0 then f s else s

/-! ### READ and DESCRIBE -/

/-- The elements of a READ, in order. -/
def State.readAll (s : State) (slot ix : Nat) (sh : Bool) (win : Option (Nat × Nat)) (sub : Nat) :
    Nat → List (Nat × Option RVal) × State
  | 0 => ([], s)
  | n + 1 =>
    let (e, s) := s.readElem slot ix sub sh win
    let (es, s) := s.readAll slot ix sh win (sub + 1) n
    (e :: es, s)

/-- The header status over the elements (R469). -/
def worst (l : List Nat) : Nat := (l.find? (· != st.OK)).getD st.OK

/-- READ (R469). -/
def State.read (s : State) (m : Msg) (win : Option (Nat × Nat)) : Act :=
  if m.count = 0 ∨ 256 < m.sub + m.count then Act.of (s, st.RANGE)
  else
    let (es, s') := s.readAll m.session m.index (m.flags % 2 == 1) win m.sub m.count
    let r : Reply := { status := worst (es.map (·.1)), payload := es }
    if 1024 < r.wire then Act.of (s, st.RANGE) else { s := s', r := r }

/-- The default of an element (R35): a number, with DEV_ENG_REQUIRED's that depends on the role (Table 1-6), a STR, or the first
bytes of a BLOB, at most a window of them. -/
def State.defaultVal (s : State) (r : ObjRow) (i j : Nat) : RVal :=
  match r.ty with
  | .str => .str (stringOf r)
  | .blob => .window 0 (readBytes blobCellDefault [] (blobAddr (r.key i j) 0) (min 1000 (s.blobLen r i)))
  | _ => .num r.ty.wire (if r = Obj.DEV_ENG_REQUIRED && s.isSender then 512 else r.default j)

/-- DESCRIBE (R34): type code, access class, stopped-only, persistent, Safety, array length, minimum, maximum, and
a unit code, whose numbers the manual does not give (log 60); the default in its wire form (log 147). -/
def State.describe (s : State) (m : Msg) : Act :=
  match s.objAt m.index m.sub with
  | none => Act.of (s, st.NO_OBJECT)
  | some (r, i, j) =>
    let acc : Nat := match r.acc with | .ro => 0 | .rw => 1 | .rws => 2 | .wo => 3 | .cmd => 4
    let b (x : Bool) : Int := if x then 1 else 0
    { s := s.used,
      r := { status := st.OK, payload := [(st.OK, some (s.defaultVal r i j))],
             info := [(r.ty.code : Nat), (acc : Nat), b r.stopped, b r.keep, b (areaOf m.index == 21), (r.ns : Nat),
                      r.lo, r.hi, (s.freeVal : Nat)] } }

end Sys2Proof.Machine
end

