-- ==== Sys2Proof/Machine/Operands.lean ====
section
/-! DEFINITION. Writes (R37, R43, R47, R55 to R57, R67, R468, R469): the checks of an element in their order, what each object
does with a value, and the WRITE of a message. -/

namespace Sys2Proof.Machine

/-! ### What a free power-on finds -/

/-- A device reset that a general WRITE starts finds engines and memory that no operand brings: the memory stays, and the
engines that fail are free; TEST_EN is as it was (log 61). -/
def State.freePowerOn (s : State) : PowerOn :=
  { roleSel := .floating, straps := 0, failing := (List.range engineCount).filter fun pe => bit s.freeVal pe,
    channels := s.sys.channels, testEn := s.sys.testEn }

/-- Likewise the verdicts of an UPD_VERIFY that a general WRITE starts. -/
def State.freeVerdicts (s : State) : List ImageVerdict :=
  (List.range 3).map fun c =>
    { keyDigestOk := bit s.freeVal (3 * c), sigOk := bit s.freeVal (3 * c + 1), digestOk := bit s.freeVal (3 * c + 2) }

/-- What the command of a row brings beside its message. -/
structure Extra where
  powerOn : Option PowerOn := none
  verdicts : Option (List ImageVerdict) := none

/-! ### RW objects: the value, and what it does at its safe point -/

/-- PATH_FORCE (R205): leaving it keeps the preference in force; the hold-off does not run under it. -/
def State.setForce (s : State) (v : Nat) : State :=
  let now := s.prefers
  let s := s.wr Obj.PATH_FORCE v
  let p := s.paths
  let s := if v = 0 then s.setPaths { p with prefB := now } else s.setPaths { p with holdoff := none }
  s.showFlags

/-- A value of an RW object is taken into use. -/
def State.storeRw (s : State) (slot : Nat) (r : ObjRow) (i j : Nat) (v : Int) : State :=
  let x := s.session slot
  let n := v.toNat
  if r = Obj.COMMIT_SCOPE then s.setSession slot { x with scope := n }
  else if r = Obj.COMMIT_CHIMNEYS then s.setSession slot { x with chims := n }
  else if r = Obj.COMMIT_FLAGS then s.setSession slot { x with flags := n }
  else if r = Obj.COMMIT_TARGET then s.setSession slot { x with target := n }
  else if r = Obj.PHY_LOOP then s.setLoop i n
  else if r = Obj.PHY_TEST_PATTERN then s.setPattern i n
  else if r = Obj.PATH_FORCE then s.setForce n
  else
    let s := s.wrAt r i j v
    if 0x3360 ≤ r.base ∧ r.base < 0x3364 then s.tpoApply i
    else if r = Obj.DEV_ENG_SPARE_WARN then s.countEngines
    else s

/-- Bytes of an RW BLOB: the anchors. -/
def State.storeBlob (s : State) (r : ObjRow) (i j off : Nat) (bytes : List Byte) : State :=
  { s with blob := writeBytes blobCellDefault s.blob (blobAddr (r.key i j) off) bytes }

/-- The anchors' consequences follow the reply (R362, R375). -/
def anchorAfter (r : ObjRow) : List After :=
  if r = Obj.SEC_CLIENT_ANCHOR ∨ r = Obj.SEC_SAFETY_ANCHOR then [.anchors]
  else if r = Obj.MOD_ANCHOR then [.modAnchors]
  else []

/-! ### PERSIST_DEFAULTS (R67) -/

/-- RW rows whose default a mask writes: LOCK_CTRL is no stored value, and a value that already is the default stays. -/
def State.defaultRw (s : State) (slot mask : Nat) : State :=
  (objTable.filter fun r => r.acc == .rw && r.ty != .blob && s.has r && bit mask (areaOf r.base) && r != Obj.LOCK_CTRL).foldl
    (fun s r => (List.range r.ni).foldl (fun s i => (List.range r.ns).foldl (fun s j =>
      if (s.liveValue slot r i j).getD (s.rdAt r i j) = r.default j then s
      else if r.stopped && s.portRuns i then s
      else if (r = Obj.LOOP_COEF_B0 && s.bankBusy i 0) || (r = Obj.LOOP_COEF_B1 && s.bankBusy i 1) then s
      else s.storeRw slot r i j (r.default j)) s) s) s

/-- The defaults of a mask: shadows of its RWS objects, and its RW objects. A lock of another session refuses it (R60). -/
def State.defaults (s : State) (slot mask : Nat) : State × Nat × List After :=
  if bit mask 21 then (s, st.DENIED, [])
  else if 2 ^ 22 ≤ mask then (s, st.RANGE, [])
  else if s.scopeLocked slot mask then (s, st.LOCKED, [])
  else
    let rwBlob (k : Nat) : Bool := inScope mask k && !isRws k
    let s := { s with
      shadow := s.shadow.filter fun q => !inScope mask q.1,
      shadowBlob := s.shadowBlob.filter fun q => !inScope mask (q.1 / 2 ^ 32),
      blob := s.blob.filter fun q => !rwBlob (q.1 / 2 ^ 32) }
    let after := (if bit mask 1 then [After.anchors] else []) ++ if bit mask 17 then [After.modAnchors] else []
    (s.defaultRw slot mask, st.OK, after)

/-! ### One element -/

/-- What one element of a write answers. -/
structure Elem where
  s : State
  status : Nat
  held : Bool := false
  after : List After := []

def Elem.of (q : State × Nat) : Elem := { s := q.1, status := q.2 }
def Elem.of3 (q : State × Nat × Bool) : Elem := { s := q.1, status := q.2.1, held := q.2.2 }
def Elem.ok (s : State) : Elem := { s := s, status := st.OK }

/-- The write rows of Table 2-4. -/
def mayWrite (role : SessRole) (r : ObjRow) (ix : Nat) : Bool :=
  if areaOf ix = 21 then role == SessRole.safety
  else match r.who with
    | .integrator => role == SessRole.integrator || role == SessRole.vendor
    | .operator => role == SessRole.operator || role == SessRole.integrator || role == SessRole.vendor
    | .vendor => role == SessRole.vendor
    | .safety => role == SessRole.safety
    | .committer => role != SessRole.observer
    | .locker => role != SessRole.observer

/-- Check 5: the encoding fits the type (Table 2-1). -/
def fitsType (ty : Ty) : WVal → Bool
  | .num v => match ty with
    | .bool => v == 0 || v == 1
    | .u n => decide (0 ≤ v) && decide (v < 2 ^ (8 * n))
    | .i n => decide (-(2 ^ (8 * n - 1)) ≤ v) && decide (v < 2 ^ (8 * n - 1))
    | .time96 => decide (0 ≤ v) && decide (v < 2 ^ 96)
    | .str => false
    | .blob => false
  | .window _ b => ty == .blob && decide (b.length ≤ 1000)
  | .str _ => ty == .str
  | .bad => false

/-- TPO_WIDTH in ns against TPO_PERIOD in 2^-18 ns (R232). -/
def State.pulseFits (s : State) (r : ObjRow) (i : Nat) (v : Int) : Bool :=
  let w := if r = Obj.TPO_WIDTH then v else s.rdAt Obj.TPO_WIDTH i 0
  let p := if r = Obj.TPO_PERIOD then v else s.rdAt Obj.TPO_PERIOD i 0
  (r != Obj.TPO_WIDTH && r != Obj.TPO_PERIOD) || decide (w * 262144 < p)

/-- An entry of a pre-blend LUT takes 24 bits (R100). -/
def lutOk (r : ObjRow) (off : Nat) (b : List Byte) : Bool :=
  r != Obj.LAYER_PRE_LUT || b.zipIdx.all fun q => (off + q.2) % 4 != 0 || q.1 == 0

/-- Check 6: the range. -/
def State.valueOk (s : State) (r : ObjRow) (i : Nat) : WVal → Bool
  | .num v => r.inRange v && s.pulseFits r i v
  | .window off b => decide (off + b.length ≤ s.blobLen r i) && lutOk r off b
  | _ => true

/-- The checks of R37 on one element; none: they pass. -/
def State.writeRefused (s : State) (slot ix sub : Nat) (v : WVal) : Option Nat :=
  match s.objAt ix sub with
  | none => some st.NO_OBJECT
  | some (r, i, _) =>
    if !mayWrite (s.session slot).role r ix then some st.DENIED
    else if r.acc = .ro then some st.ACCESS
    else if s.lockedFor slot (areaOf ix) then some st.LOCKED
    else if !fitsType r.ty v then some st.TYPE
    else if !s.valueOk r i v then some st.RANGE
    else if r.stopped && s.portRuns i then some st.BUSY
    else none

/-- A shadowed value (R47); a changed Hearth size reformats the back image (R110). -/
def State.shadowNum (s : State) (r : ObjRow) (i j : Nat) (v : Int) : State :=
  let s' := s.setShAt r i j v
  if (r = Obj.HEARTH_WIDTH ∨ r = Obj.HEARTH_HEIGHT) ∧ s.shAt r i j ≠ v then s'.hearthReformat else s'

def State.shadowBytes (s : State) (r : ObjRow) (i j off : Nat) (b : List Byte) : State :=
  { s with shadowBlob := writeBytes blobCellDefault s.shadowBlob (blobAddr (r.key i j) off) b }

/-- A window written to a BLOB object. -/
def State.writeWindow (s : State) (slot : Nat) (via : Transport) (r : ObjRow) (i j off : Nat) (b : List Byte) : Elem :=
  if r = Obj.LAYER_STILL_DATA then let (s, held) := s.stillWrite slot i off b; { s := s, status := st.OK, held := held }
  else if r = Obj.HEARTH_IMAGE then Elem.of3 (s.hearthWrite slot off b)
  else if r = Obj.CAL_MEAS_DATA then Elem.ok (s.bufWrite j off b)
  else if r = Obj.CAL_BULK_DATA then
    if !chimneyOn s.rdAt (bits (s.nat Obj.CAL_BULK_DEST) 26 24) then let (q, s) := s.freeRefusal; Elem.of (s, q)
    else { s := s.bulkRelay off b slot, status := st.OK, held := !b.isEmpty }
  else if r = Obj.UPD_IMAGE then Elem.of (s.updImage via off b)
  else if r.acc = .rws then Elem.ok (s.shadowBytes r i j off b)
  else { s := s.storeBlob r i j off b, status := st.OK, after := anchorAfter r }

/-- A value written to a CMD object of chapters 1 to 9: `slot` is the session, `n` the value. -/
def State.command1 (s : State) (slot : Nat) (r : ObjRow) (i n : Nat) : Option Elem :=
  if r = Obj.DEV_PAIR_RESTART then
    some { s := s, status := st.OK, after := [.pair (if n = 1 then .m else .c)] }
  else if r = Obj.DEV_ENG_RETIRED_CLEAR then some (Elem.ok s.clearRetired)
  else if r = Obj.COMMIT_GO then
    let x := s.session slot
    let (s, q, _) := s.commit slot x.scope x.chims x.flags x.target
    some (Elem.of (s, q))
  else if r = Obj.PERSIST_SAVE then some (Elem.ok s.startSave)
  else if r = Obj.PERSIST_DEFAULTS then
    let (s, q, after) := s.defaults slot n
    some { s := s, status := q, after := after }
  else if r = Obj.LAYER_STILL_PUBLISH then some (Elem.of (s.stillPublish i))
  else if r = Obj.PHY_RETRAIN then some (Elem.ok (if n = 1 then s.retrainInFrame i else s.retrainOpen i))
  else if r = Obj.TIME_PTP_RESTEP then some (Elem.of3 s.ptpRestep)
  else if r = Obj.TIME_REALIGN then some (Elem.of3 s.timeRealign)
  else none

/-- A value written to a CMD object of chapters 11 to 18. -/
def State.command2 (s : State) (slot : Nat) (r : ObjRow) (n : Nat) (e : Extra) : Elem :=
  if r = Obj.STR_ENUM then Elem.ok s.strEnum
  else if r = Obj.STR_DRV_GO then Elem.ok (s.drvGo (n == 1))
  else if r = Obj.SCAN_OPEN_CLEAR then Elem.ok (if n = 0xFFFF then s.openClearAll else s.openClear n)
  else if r = Obj.LOOP_SWAP then Elem.of3 (s.loopSwap n)
  else if r = Obj.CAL_OPEN then Elem.of (s.calOpen slot)
  else if r = Obj.CAL_RUN then Elem.of s.calRun
  else if r = Obj.CAL_ABORT then Elem.of s.calAbort
  else if r = Obj.CAL_PATTERN_SHOW then Elem.of (if n = 0xFF then s.patternEnd else s.patternShow n)
  else if r = Obj.CAL_MEAS_CLEAR then Elem.ok s.measClear
  else if r = Obj.CAL_FIELD_REVERT then Elem.of (s.fieldRevert n)
  else if r = Obj.CAL_LINK_RUN then Elem.of (s.linkRunCmd n)
  else if r = Obj.CAL_LINK_CLEAR then Elem.of (s.linkClear n)
  else if r = Obj.CAL_TRIM_RUN then Elem.of s.trimRun
  else if r = Obj.SEC_FW_REVOKE then Elem.of (s.fwRevoke n)
  else if r = Obj.MOD_SERVICE then
    Elem.ok (if bit n 15 then s.serviceEnter (n % 16) else s.serviceLeave (n % 16))
  else if r = Obj.FLT_CLEAR then Elem.of3 (s.fltClear n)
  else if r = Obj.FLT_INJECT then Elem.of3 (s.fltInject n)
  else if r = Obj.FLT_INJECT_CLEAR then Elem.ok s.fltInjectClear
  else if r = Obj.UPD_BEGIN then Elem.of s.updBegin
  else if r = Obj.UPD_VERIFY then
    match e.verdicts with
    | some l => Elem.of (s.updVerify l)
    | none => Elem.of (s.used.updVerify s.freeVerdicts)
  else if r = Obj.UPD_ACTIVATE then Elem.of (s.updActivate (bits n 50 48) (n % 2 ^ 48))
  else if r = Obj.UPD_FALLBACK then Elem.of s.updFallback
  else if r = Obj.BOOT_RESET then
    { s := if e.powerOn.isSome then s else s.used, status := st.OK, after := [.reset (e.powerOn.getD s.freePowerOn)] }
  else if r = Obj.BOOT_RELEASE_M then Elem.of s.releaseM
  else Elem.ok s

/-- A number written to an object that the checks admit. -/
def State.writeNum (s : State) (slot : Nat) (via : Transport) (r : ObjRow) (i j : Nat) (v : Int) (e : Extra) : Elem :=
  if r.acc = .rws then Elem.ok (s.shadowNum r i j v)
  else if r = Obj.LOCK_CTRL then
    Elem.of (if v = 1 then s.lock slot via j else if v = 2 then s.unlock slot j else s.clearSuspect slot j)
  else if r = Obj.TIME_STEP then Elem.of3 (s.timeStep slot v)
  else if r = Obj.LOOP_COEF_B0 ∧ s.bankBusy i 0 = true ∨ r = Obj.LOOP_COEF_B1 ∧ s.bankBusy i 1 = true then
    Elem.of (s, st.BUSY)
  else if r.acc = .cmd then (s.command1 slot r i v.toNat).getD (s.command2 slot r v.toNat e)
  else Elem.ok (s.storeRw slot r i j v)

/-- One element of a WRITE: the checks, then its effect; a change of a persistent value, by an RW write or by the defaults that
PERSIST_DEFAULTS writes, makes a save due (R66). -/
def State.writeElem (s : State) (slot : Nat) (via : Transport) (ix sub : Nat) (v : WVal) (e : Extra) : Elem :=
  match s.writeRefused slot ix sub v, s.objAt ix sub with
  | none, some (r, i, j) =>
    let out := match v with
      | .num n => s.writeNum slot via r i j n e
      | .window off b => s.writeWindow slot via r i j off b
      | _ => Elem.ok s
    { out with s := if r.acc == .rw || r = Obj.PERSIST_DEFAULTS then out.s.noteChange s else out.s }
  | some q, _ => Elem.of (s, q)
  | none, none => Elem.of (s, st.NO_OBJECT)

/-! ### The message -/

def State.writeAll (s : State) (slot : Nat) (via : Transport) (ix sub : Nat) (e : Extra) :
    List WVal → State × List Nat × Bool × List After
  | [] => (s, [], false, [])
  | v :: vs =>
    let x := s.writeElem slot via ix sub v e
    let (s, l, held, after) := x.s.writeAll slot via ix (sub + 1) e vs
    (s, x.status :: l, x.held || held, x.after ++ after)

/-- WRITE (R469). An element without a value in the payload is badly encoded (log 62). -/
def State.write (s : State) (m : Msg) (vals : List WVal) (e : Extra) : Act :=
  if m.count = 0 ∨ 256 < m.sub + m.count then Act.of (s, st.RANGE)
  else
    let vals := vals.take m.count ++ List.replicate (m.count - vals.length) .bad
    let (s, l, held, after) := s.writeAll m.session m.transport m.index m.sub e vals
    { s := s, r := { status := worst l, payload := l.map fun q => (q, none) }, held := held, after := after }

/-- Payload bytes of a WRITE: the values in the wire form of their objects' types. -/
def writeBytesOf (ix sub : Nat) : List WVal → Nat
  | [] => 0
  | v :: vs => WVal.wire (((findObj ix sub).map fun q => q.1.ty).getD (.u 1)) v + writeBytesOf ix (sub + 1) vs

/-- A WRITE message, of any transport and route. -/
def State.writeMsg (m : Msg) (vals : List WVal) (e : Extra) (s : State) : State :=
  s.request m 0x11 true 0 (writeBytesOf m.index m.sub vals) vals fun s => s.write m vals e

/-- The WRITE of one object that has a command of its own: one value at element `j` of instance `i`. -/
def State.writeObj (m : Msg) (r : ObjRow) (i j : Nat) (v : WVal) (e : Extra) (s : State) : State :=
  State.writeMsg { m with index := r.base + r.stride * i, sub := r.s0 + j, count := 1 } [v] e s

end Sys2Proof.Machine
end

