-- ==== Sys2Proof/Machine/Commands.lean ====
section
/-! DEFINITION. The commands that are dictionary messages: sessions, commits, locks, and the writes of objects that have a
command of their own. Each is its message through the envelope of Dict.lean. -/

namespace Sys2Proof.Machine

/-! ### Messages -/

/-- CLOSE (R41). -/
def execClose (t : Cyc) (m : Msg) (s : State) : Host.Outcome State Fault Refusal :=
  s.run t fun s => s.request m 0x02 true 0 0 [] fun s => { s := s, r := { status := st.OK }, after := [.close] }

/-- KEEPALIVE: any valid message restarts the timeout (R41). -/
def execKeepalive (t : Cyc) (m : Msg) (s : State) : Host.Outcome State Fault Refusal :=
  s.run t fun s => s.request m 0x03 true 0 0 [] fun s => { s := s, r := { status := st.OK } }

/-- READ (R469). -/
def execRead (t : Cyc) (m : Msg) (win : Option (Nat × Nat)) (s : State) : Host.Outcome State Fault Refusal :=
  s.run t fun s => s.request m 0x10 true 0 0 [] fun s => s.read m win

/-- WRITE (R37). -/
def execWrite (t : Cyc) (m : Msg) (vals : List WVal) (s : State) : Host.Outcome State Fault Refusal :=
  s.run t (State.writeMsg m vals {})

/-- DESCRIBE (R34). -/
def execDescribe (t : Cyc) (m : Msg) (s : State) : Host.Outcome State Fault Refusal :=
  s.run t fun s => s.request m 0x12 false 0 0 [] fun s => s.describe m

/-- COMMIT (R48): the reply carries the commit ID. -/
def execCommit (t : Cyc) (m : Msg) (scope chims flags target : Nat) (s : State) : Host.Outcome State Fault Refusal :=
  s.run t fun s => s.request m 0x20 false 0 14 [] fun s =>
    let (s, q, id) := s.commit m.session scope chims flags target
    { s := s, r := { status := q, id := id } }

/-- ARM (R52): in session 0 of a tile only (Table 2-8). -/
def execArm (t : Cyc) (m : Msg) (id scope target gen : Nat) (s : State) : Host.Outcome State Fault Refusal :=
  s.run t fun s => s.request m 0x21 false 0 20 [] fun s =>
    if s.isTile && m.session == 0 then
      let (s, q) := s.armTile id scope target gen
      { s := s, r := { status := q, id := id } }
    else Act.of (s, st.DENIED)

/-- ABORT (R52 step 7). -/
def execAbort (t : Cyc) (m : Msg) (id : Nat) (s : State) : Host.Outcome State Fault Refusal :=
  s.run t fun s => s.oneWay m 0x22 4 fun s => s.abortTile id

/-- LOCK (R59). -/
def execLock (t : Cyc) (m : Msg) (area : Nat) (s : State) : Host.Outcome State Fault Refusal :=
  s.run t fun s => s.request m 0x30 false area 0 [] fun s => Act.of (s.lock m.session m.transport area)

/-- UNLOCK (R59). -/
def execUnlock (t : Cyc) (m : Msg) (area : Nat) (s : State) : Host.Outcome State Fault Refusal :=
  s.run t fun s => s.request m 0x31 false area 0 [] fun s => Act.of (s.unlock m.session area)

/-- A session without a valid message for DICT_SESSION_TIMEOUT ends, abnormally (R41). -/
def sessionTimeout (slot : Nat) (s : State) : State :=
  let x := s.session slot
  if x.isOpen && decide (x.lastMsg + seconds (s.nat Obj.DICT_SESSION_TIMEOUT) ≤ s.now) then s.endSession slot false else s

/-- SESSION_TIMEOUT. -/
def execSessionTimeout (t : Cyc) (slot : Nat) (s : State) : Host.Outcome State Fault Refusal :=
  s.run t (sessionTimeout slot)

/-- POWER_GRANT at a tile (R330, R331). -/
def execPowerGrant (t : Cyc) (m : Msg) (gseq target : Nat) (grants : List Nat) (s : State) : Host.Outcome State Fault Refusal :=
  s.run t fun s => s.oneWay m 0x42 (8 + 4 * grants.length) fun s => s.takeGrant gseq target grants

/-- POWER_REPORT at the sender: a message of a tile in its session 0, in the order of R45. -/
def powerReport (m : Msg) (c a : Nat) (r : PowerReport) (s : State) : State :=
  let v := s.tile c a
  if !(s.isSender && s.pairMUp) then s
  else if !(m.version == 1 && m.tagOk && (s.mapped c).contains a && v.s0open && m.epoch == v.s0epoch) then
    s.bump Obj.DICT_AUTH_FAILS
  else if m.seq = v.s0seq then s
  else if m.seq < v.s0seq then s.bump Obj.DICT_REPLAYS
  else (s.setTile c a { v with s0seq := m.seq }).takeReport c a r

/-- POWER_REPORT (R333). -/
def execPowerReport (t : Cyc) (m : Msg) (chim tile : Nat) (r : PowerReport) (s : State) : Host.Outcome State Fault Refusal :=
  s.run t (powerReport m chim tile r)

/-! ### Locks and commits through objects -/

/-- COMMIT_GO (R43): a COMMIT from the objects of the session. -/
def execCommitGo (t : Cyc) (m : Msg) (s : State) : Host.Outcome State Fault Refusal :=
  s.run t (State.writeObj m Obj.COMMIT_GO 0 0 (.num 1) {})

/-- LOCK_CTRL 1 (R59). -/
def execLockAcquire (t : Cyc) (m : Msg) (area : Nat) (s : State) : Host.Outcome State Fault Refusal :=
  s.run t (State.writeObj m Obj.LOCK_CTRL 0 area (.num 1) {})

/-- LOCK_CTRL 2 (R59). -/
def execLockRelease (t : Cyc) (m : Msg) (area : Nat) (s : State) : Host.Outcome State Fault Refusal :=
  s.run t (State.writeObj m Obj.LOCK_CTRL 0 area (.num 2) {})

/-- LOCK_CTRL 3 (R62). -/
def execLockClearSuspect (t : Cyc) (m : Msg) (area : Nat) (s : State) : Host.Outcome State Fault Refusal :=
  s.run t (State.writeObj m Obj.LOCK_CTRL 0 area (.num 3) {})

/-- PERSIST_SAVE (R64). -/
def execPersistSave (t : Cyc) (m : Msg) (s : State) : Host.Outcome State Fault Refusal :=
  s.run t (State.writeObj m Obj.PERSIST_SAVE 0 0 (.num 1) {})

/-- PERSIST_DEFAULTS (R67). -/
def execPersistDefaults (t : Cyc) (m : Msg) (mask : Nat) (s : State) : Host.Outcome State Fault Refusal :=
  s.run t (State.writeObj m Obj.PERSIST_DEFAULTS 0 0 (.num mask) {})

/-! ### Device -/

/-- BOOT_RESET (R411). -/
def execBootReset (t : Cyc) (m : Msg) (p : PowerOn) (s : State) : Host.Outcome State Fault Refusal :=
  s.run t (State.writeObj m Obj.BOOT_RESET 0 0 (.num 1) { powerOn := some p })

/-- DEV_PAIR_RESTART 1 (R11). -/
def execPairMRestart (t : Cyc) (m : Msg) (s : State) : Host.Outcome State Fault Refusal :=
  s.run t (State.writeObj m Obj.DEV_PAIR_RESTART 0 0 (.num 1) {})

/-- DEV_PAIR_RESTART 2 (R11). -/
def execPairCRestart (t : Cyc) (m : Msg) (s : State) : Host.Outcome State Fault Refusal :=
  s.run t (State.writeObj m Obj.DEV_PAIR_RESTART 0 0 (.num 2) {})

/-- DEV_ENG_RETIRED_CLEAR (R20). -/
def execDevEngRetiredClear (t : Cyc) (m : Msg) (s : State) : Host.Outcome State Fault Refusal :=
  s.run t (State.writeObj m Obj.DEV_ENG_RETIRED_CLEAR 0 0 (.num 1) {})

/-! ### Layers and the Hearth layer -/

/-- LAYER_STILL_DATA (R88). -/
def execLayerStillData (t : Cyc) (m : Msg) (layer off : Nat) (bytes : List Byte) (s : State) :
    Host.Outcome State Fault Refusal :=
  s.run t (State.writeObj m Obj.LAYER_STILL_DATA layer 0 (.window off bytes) {})

/-- LAYER_STILL_PUBLISH (R88). -/
def execLayerStillPublish (t : Cyc) (m : Msg) (layer : Nat) (s : State) : Host.Outcome State Fault Refusal :=
  s.run t (State.writeObj m Obj.LAYER_STILL_PUBLISH layer 0 (.num 1) {})

/-- HEARTH_IMAGE (R109). -/
def execHearthImage (t : Cyc) (m : Msg) (off : Nat) (bytes : List Byte) (s : State) : Host.Outcome State Fault Refusal :=
  s.run t (State.writeObj m Obj.HEARTH_IMAGE 0 0 (.window off bytes) {})

/-- HEARTH_WIDTH or HEARTH_HEIGHT (R110). -/
def execHearthSizeWrite (t : Cyc) (m : Msg) (height : Bool) (value : Nat) (s : State) : Host.Outcome State Fault Refusal :=
  s.run t (State.writeObj m (if height then Obj.HEARTH_HEIGHT else Obj.HEARTH_WIDTH) 0 0 (.num value) {})

/-! ### Flue, paths and time -/

/-- PHY_RETRAIN 1 (R166). -/
def execPhyRetrainInFrame (t : Cyc) (m : Msg) (port : Nat) (s : State) : Host.Outcome State Fault Refusal :=
  s.run t (State.writeObj m Obj.PHY_RETRAIN port 0 (.num 1) {})

/-- PHY_RETRAIN 2 (R166). -/
def execPhyRetrainOpen (t : Cyc) (m : Msg) (port : Nat) (s : State) : Host.Outcome State Fault Refusal :=
  s.run t (State.writeObj m Obj.PHY_RETRAIN port 0 (.num 2) {})

/-- PHY_LOOP (R159). -/
def execPhyLoop (t : Cyc) (m : Msg) (port value : Nat) (s : State) : Host.Outcome State Fault Refusal :=
  s.run t (State.writeObj m Obj.PHY_LOOP port 0 (.num value) {})

/-- PHY_TEST_PATTERN (R161). -/
def execPhyTestPattern (t : Cyc) (m : Msg) (port value : Nat) (s : State) : Host.Outcome State Fault Refusal :=
  s.run t (State.writeObj m Obj.PHY_TEST_PATTERN port 0 (.num value) {})

/-- PATH_FORCE (R205). -/
def execPathForce (t : Cyc) (m : Msg) (value : Nat) (s : State) : Host.Outcome State Fault Refusal :=
  s.run t (State.writeObj m Obj.PATH_FORCE 0 0 (.num value) {})

/-- TIME_STEP (R218). -/
def execTimeStep (t : Cyc) (m : Msg) (delta : Int) (s : State) : Host.Outcome State Fault Refusal :=
  s.run t (State.writeObj m Obj.TIME_STEP 0 0 (.num delta) {})

/-- TIME_PTP_RESTEP (R218). -/
def execTimePtpRestep (t : Cyc) (m : Msg) (s : State) : Host.Outcome State Fault Refusal :=
  s.run t (State.writeObj m Obj.TIME_PTP_RESTEP 0 0 (.num 1) {})

/-- TIME_REALIGN (R227). -/
def execTimeRealign (t : Cyc) (m : Msg) (s : State) : Host.Outcome State Fault Refusal :=
  s.run t (State.writeObj m Obj.TIME_REALIGN 0 0 (.num 1) {})

/-! ### Strands, scan and loops -/

/-- STR_ENUM (R278). -/
def execStrEnum (t : Cyc) (m : Msg) (s : State) : Host.Outcome State Fault Refusal :=
  s.run t (State.writeObj m Obj.STR_ENUM 0 0 (.num 1) {})

/-- STR_DRV_GO 1 (R279). -/
def execStrDrvRead (t : Cyc) (m : Msg) (s : State) : Host.Outcome State Fault Refusal :=
  s.run t (State.writeObj m Obj.STR_DRV_GO 0 0 (.num 1) {})

/-- STR_DRV_GO 2 (R279). -/
def execStrDrvWrite (t : Cyc) (m : Msg) (s : State) : Host.Outcome State Fault Refusal :=
  s.run t (State.writeObj m Obj.STR_DRV_GO 0 0 (.num 2) {})

/-- SCAN_OPEN_CLEAR of an entry (R304). -/
def execScanOpenClearEntry (t : Cyc) (m : Msg) (entry : Nat) (s : State) : Host.Outcome State Fault Refusal :=
  s.run t (State.writeObj m Obj.SCAN_OPEN_CLEAR 0 0 (.num entry) {})

/-- SCAN_OPEN_CLEAR 0xFFFF (R304). -/
def execScanOpenClearAll (t : Cyc) (m : Msg) (s : State) : Host.Outcome State Fault Refusal :=
  s.run t (State.writeObj m Obj.SCAN_OPEN_CLEAR 0 0 (.num 0xFFFF) {})

/-- LOOP_SWAP (R325). -/
def execLoopSwap (t : Cyc) (m : Msg) (mask : Nat) (s : State) : Host.Outcome State Fault Refusal :=
  s.run t (State.writeObj m Obj.LOOP_SWAP 0 0 (.num mask) {})

/-! ### Calibration -/

/-- CAL_OPEN (R339). -/
def execCalOpen (t : Cyc) (m : Msg) (s : State) : Host.Outcome State Fault Refusal :=
  s.run t (State.writeObj m Obj.CAL_OPEN 0 0 (.num 1) {})

/-- CAL_RUN (R342). -/
def execCalRun (t : Cyc) (m : Msg) (s : State) : Host.Outcome State Fault Refusal :=
  s.run t (State.writeObj m Obj.CAL_RUN 0 0 (.num 1) {})

/-- CAL_ABORT (R339). -/
def execCalAbort (t : Cyc) (m : Msg) (s : State) : Host.Outcome State Fault Refusal :=
  s.run t (State.writeObj m Obj.CAL_ABORT 0 0 (.num 1) {})

/-- CAL_PATTERN_SHOW (R340). -/
def execCalPatternShow (t : Cyc) (m : Msg) (pattern : Nat) (s : State) : Host.Outcome State Fault Refusal :=
  s.run t (State.writeObj m Obj.CAL_PATTERN_SHOW 0 0 (.num pattern) {})

/-- CAL_PATTERN_SHOW 0xFF (R340). -/
def execCalPatternEnd (t : Cyc) (m : Msg) (s : State) : Host.Outcome State Fault Refusal :=
  s.run t (State.writeObj m Obj.CAL_PATTERN_SHOW 0 0 (.num 0xFF) {})

/-- CAL_MEAS_CLEAR (R341). -/
def execCalMeasClear (t : Cyc) (m : Msg) (s : State) : Host.Outcome State Fault Refusal :=
  s.run t (State.writeObj m Obj.CAL_MEAS_CLEAR 0 0 (.num 1) {})

/-- CAL_MEAS_DATA (R341). -/
def execCalMeasData (t : Cyc) (m : Msg) (buf off : Nat) (bytes : List Byte) (s : State) : Host.Outcome State Fault Refusal :=
  s.run t (State.writeObj m Obj.CAL_MEAS_DATA 0 buf (.window off bytes) {})

/-- CAL_BULK_DATA (R341). -/
def execCalBulkData (t : Cyc) (m : Msg) (off : Nat) (bytes : List Byte) (s : State) : Host.Outcome State Fault Refusal :=
  s.run t (State.writeObj m Obj.CAL_BULK_DATA 0 0 (.window off bytes) {})

/-- CAL_FIELD_REVERT (R357). -/
def execCalFieldRevert (t : Cyc) (m : Msg) (value : Nat) (s : State) : Host.Outcome State Fault Refusal :=
  s.run t (State.writeObj m Obj.CAL_FIELD_REVERT 0 0 (.num value) {})

/-- CAL_LINK_RUN (R352). -/
def execCalLinkRun (t : Cyc) (m : Msg) (port : Nat) (s : State) : Host.Outcome State Fault Refusal :=
  s.run t (State.writeObj m Obj.CAL_LINK_RUN 0 0 (.num port) {})

/-- CAL_LINK_CLEAR (R353). -/
def execCalLinkClear (t : Cyc) (m : Msg) (port : Nat) (s : State) : Host.Outcome State Fault Refusal :=
  s.run t (State.writeObj m Obj.CAL_LINK_CLEAR 0 0 (.num port) {})

/-- CAL_TRIM_RUN (R354). -/
def execCalTrimRun (t : Cyc) (m : Msg) (s : State) : Host.Outcome State Fault Refusal :=
  s.run t (State.writeObj m Obj.CAL_TRIM_RUN 0 0 (.num 1) {})

/-! ### Security and modules -/

/-- ANCHOR_WRITE (R362). -/
def execAnchorWrite (t : Cyc) (m : Msg) (kind : AnchorKind) (entry : Nat) (key : List Byte) (s : State) :
    Host.Outcome State Fault Refusal :=
  s.run t (State.writeObj m (match kind with | .client => Obj.SEC_CLIENT_ANCHOR | .safety => Obj.SEC_SAFETY_ANCHOR) 0 entry
    (.window 0 key) {})

/-- SEC_FW_REVOKE (R369). -/
def execSecFwRevoke (t : Cyc) (m : Msg) (key : Nat) (s : State) : Host.Outcome State Fault Refusal :=
  s.run t (State.writeObj m Obj.SEC_FW_REVOKE 0 0 (.num key) {})

/-- MOD_SERVICE with bit 15 (R381). -/
def execModServiceEnter (t : Cyc) (m : Msg) (module : Nat) (s : State) : Host.Outcome State Fault Refusal :=
  s.run t (State.writeObj m Obj.MOD_SERVICE 0 0 (.num (0x8000 + module % 16 : Nat)) {})

/-- MOD_SERVICE without bit 15 (R381). -/
def execModServiceLeave (t : Cyc) (m : Msg) (module : Nat) (s : State) : Host.Outcome State Fault Refusal :=
  s.run t (State.writeObj m Obj.MOD_SERVICE 0 0 (.num (module % 16 : Nat)) {})

/-! ### Faults -/

/-- FLT_CLEAR of a source (R400). -/
def execFltClearSource (t : Cyc) (m : Msg) (src : Nat) (s : State) : Host.Outcome State Fault Refusal :=
  s.run t (State.writeObj m Obj.FLT_CLEAR 0 0 (.num src) {})

/-- FLT_CLEAR 0xFFFF (R400). -/
def execFltClearAll (t : Cyc) (m : Msg) (s : State) : Host.Outcome State Fault Refusal :=
  s.run t (State.writeObj m Obj.FLT_CLEAR 0 0 (.num 0xFFFF) {})

/-- FLT_INJECT (R403). -/
def execFltInject (t : Cyc) (m : Msg) (value : Nat) (s : State) : Host.Outcome State Fault Refusal :=
  s.run t (State.writeObj m Obj.FLT_INJECT 0 0 (.num value) {})

/-- FLT_INJECT_CLEAR (R403). -/
def execFltInjectClear (t : Cyc) (m : Msg) (s : State) : Host.Outcome State Fault Refusal :=
  s.run t (State.writeObj m Obj.FLT_INJECT_CLEAR 0 0 (.num 1) {})

/-! ### Boot and update -/

/-- BOOT_RELEASE_M (R420). -/
def execBootReleaseM (t : Cyc) (m : Msg) (s : State) : Host.Outcome State Fault Refusal :=
  s.run t (State.writeObj m Obj.BOOT_RELEASE_M 0 0 (.num 1) {})

/-- UPD_BEGIN (R421). -/
def execUpdBegin (t : Cyc) (m : Msg) (s : State) : Host.Outcome State Fault Refusal :=
  s.run t (State.writeObj m Obj.UPD_BEGIN 0 0 (.num 1) {})

/-- UPD_IMAGE (R421). -/
def execUpdImage (t : Cyc) (m : Msg) (off : Nat) (bytes : List Byte) (s : State) : Host.Outcome State Fault Refusal :=
  s.run t (State.writeObj m Obj.UPD_IMAGE 0 0 (.window off bytes) {})

/-- UPD_VERIFY (R421). -/
def execUpdVerify (t : Cyc) (m : Msg) (verdicts : List ImageVerdict) (s : State) : Host.Outcome State Fault Refusal :=
  s.run t (State.writeObj m Obj.UPD_VERIFY 0 0 (.num 1) { verdicts := some verdicts })

/-- UPD_ACTIVATE (R422). -/
def execUpdActivate (t : Cyc) (m : Msg) (mask target : Nat) (s : State) : Host.Outcome State Fault Refusal :=
  s.run t (State.writeObj m Obj.UPD_ACTIVATE 0 0 (.num (mask * 2 ^ 48 + target % 2 ^ 48 : Nat)) {})

/-- UPD_FALLBACK (R425). -/
def execUpdFallback (t : Cyc) (m : Msg) (s : State) : Host.Outcome State Fault Refusal :=
  s.run t (State.writeObj m Obj.UPD_FALLBACK 0 0 (.num 1) {})

end Sys2Proof.Machine
end

