-- ==== Sys2Proof/Machine/Dispatch.lean ====
section
/-! DEFINITION. One arm per command: the direct call of its meaning. -/

namespace Sys2Proof.Machine

/-- The effect of a command on everything but the queue. -/
def exec (i : Instr) (s : State) : Host.Outcome State Fault Refusal :=
  match i with
  | .porstAssert t => Sys2Proof.Machine.execPorstAssert t s
  | .porstRelease t p => Sys2Proof.Machine.execPorstRelease t p s
  | .brownOut t io => Sys2Proof.Machine.execBrownOut t io s
  | .brownOutRecover t p => Sys2Proof.Machine.execBrownOutRecover t p s
  | .pllLossOfLock t pll => Sys2Proof.Machine.execPllLossOfLock t pll s
  | .pllRelock t pll => Sys2Proof.Machine.execPllRelock t pll s
  | .pllRelockTimeout t pll p => Sys2Proof.Machine.execPllRelockTimeout t pll p s
  | .bootReset t m p => Sys2Proof.Machine.execBootReset t m p s
  | .configLoadDone t => Sys2Proof.Machine.execConfigLoadDone t s
  | .powerOnAnchor t => Sys2Proof.Machine.execPowerOnAnchor t s
  | .tileLightUp t => Sys2Proof.Machine.execTileLightUp t s
  | .frameBoundary t => Sys2Proof.Machine.execFrameBoundary t s
  | .lockstepMismatch t pair => Sys2Proof.Machine.execLockstepMismatch t pair s
  | .pairWatchdogExpiry t pair => Sys2Proof.Machine.execPairWatchdogExpiry t pair s
  | .pairMemoryUe t pair => Sys2Proof.Machine.execPairMemoryUe t pair s
  | .pairMRestart t m => Sys2Proof.Machine.execPairMRestart t m s
  | .pairCRestart t m => Sys2Proof.Machine.execPairCRestart t m s
  | .pairCResume t => Sys2Proof.Machine.execPairCResume t s
  | .pairMResume t => Sys2Proof.Machine.execPairMResume t s
  | .engineUe t pe => Sys2Proof.Machine.execEngineUe t pe s
  | .engineHealthCheck t pe ok => Sys2Proof.Machine.execEngineHealthCheck t pe ok s
  | .engineCorrectedError t pe word => Sys2Proof.Machine.execEngineCorrectedError t pe word s
  | .devEngRetiredClear t m => Sys2Proof.Machine.execDevEngRetiredClear t m s
  | .arbiterGrant t arb raised => Sys2Proof.Machine.execArbiterGrant t arb raised s
  | .openMsg t o => Sys2Proof.Machine.execOpenMsg t o s
  | .close t m => Sys2Proof.Machine.execClose t m s
  | .keepalive t m => Sys2Proof.Machine.execKeepalive t m s
  | .read t m win => Sys2Proof.Machine.execRead t m win s
  | .write t m vals => Sys2Proof.Machine.execWrite t m vals s
  | .describe t m => Sys2Proof.Machine.execDescribe t m s
  | .commit t m scope chims flags target => Sys2Proof.Machine.execCommit t m scope chims flags target s
  | .commitGo t m => Sys2Proof.Machine.execCommitGo t m s
  | .arm t m id scope target gen => Sys2Proof.Machine.execArm t m id scope target gen s
  | .armReply t chim tile id armed => Sys2Proof.Machine.execArmReply t chim tile id armed s
  | .armReplyDeadline t => Sys2Proof.Machine.execArmReplyDeadline t s
  | .abortRepeat t => Sys2Proof.Machine.execAbortRepeat t s
  | .abort t m id => Sys2Proof.Machine.execAbort t m id s
  | .commitDivergenceTimeout t chim tile => Sys2Proof.Machine.execCommitDivergenceTimeout t chim tile s
  | .lock t m area => Sys2Proof.Machine.execLock t m area s
  | .unlock t m area => Sys2Proof.Machine.execUnlock t m area s
  | .lockAcquire t m area => Sys2Proof.Machine.execLockAcquire t m area s
  | .lockRelease t m area => Sys2Proof.Machine.execLockRelease t m area s
  | .lockClearSuspect t m area => Sys2Proof.Machine.execLockClearSuspect t m area s
  | .sessionTimeout t slot => Sys2Proof.Machine.execSessionTimeout t slot s
  | .persistSave t m => Sys2Proof.Machine.execPersistSave t m s
  | .persistAutoSave t => Sys2Proof.Machine.execPersistAutoSave t s
  | .persistDefaults t m mask => Sys2Proof.Machine.execPersistDefaults t m mask s
  | .flashStoreDone t dev first second => Sys2Proof.Machine.execFlashStoreDone t dev first second s
  | .setup t h f => Sys2Proof.Machine.execSetup t h f s
  | .frameReq t h => Sys2Proof.Machine.execFrameReq t h s
  | .data t h bytes => Sys2Proof.Machine.execData t h bytes s
  | .ingestCreditTimer t slot => Sys2Proof.Machine.execIngestCreditTimer t slot s
  | .publish t h frameNo => Sys2Proof.Machine.execPublish t h frameNo s
  | .publishCheck t slot => Sys2Proof.Machine.execPublishCheck t slot s
  | .fenceRelease t owner buf => Sys2Proof.Machine.execFenceRelease t owner buf s
  | .sourceStaleTimeout t slot => Sys2Proof.Machine.execSourceStaleTimeout t slot s
  | .layerStillData t m layer off bytes => Sys2Proof.Machine.execLayerStillData t m layer off bytes s
  | .layerStillPublish t m layer => Sys2Proof.Machine.execLayerStillPublish t m layer s
  | .compositorDeadlineMiss t chim => Sys2Proof.Machine.execCompositorDeadlineMiss t chim s
  | .layerFetchError t layer plane line unit => Sys2Proof.Machine.execLayerFetchError t layer plane line unit s
  | .hearthImage t m off bytes => Sys2Proof.Machine.execHearthImage t m off bytes s
  | .hearthSizeWrite t m height value => Sys2Proof.Machine.execHearthSizeWrite t m height value s
  | .hearthCopyDone t => Sys2Proof.Machine.execHearthCopyDone t s
  | .hearthWordError t copy word => Sys2Proof.Machine.execHearthWordError t copy word s
  | .hearthScrub t => Sys2Proof.Machine.execHearthScrub t s
  | .chimneyBringUp t chim => Sys2Proof.Machine.execChimneyBringUp t chim s
  | .assign t port hop dirB enabled => Sys2Proof.Machine.execAssign t port hop dirB enabled s
  | .assignReturn t chim hop dirB => Sys2Proof.Machine.execAssignReturn t chim hop dirB s
  | .assignPeriodic t chim => Sys2Proof.Machine.execAssignPeriodic t chim s
  | .ringCloseTimeout t chim => Sys2Proof.Machine.execRingCloseTimeout t chim s
  | .modeHoldTimeout t => Sys2Proof.Machine.execModeHoldTimeout t s
  | .phaseTrackStep t port lane tracker => Sys2Proof.Machine.execPhaseTrackStep t port lane tracker s
  | .clockLaneLoss t port offsets => Sys2Proof.Machine.execClockLaneLoss t port offsets s
  | .fwdClockReturn t port offsets => Sys2Proof.Machine.execFwdClockReturn t port offsets s
  | .trainingBlock t port blocks rx => Sys2Proof.Machine.execTrainingBlock t port blocks rx s
  | .trainingStageLimit t port => Sys2Proof.Machine.execTrainingStageLimit t port s
  | .trainingRetry t port => Sys2Proof.Machine.execTrainingRetry t port s
  | .linkFramesStart t port => Sys2Proof.Machine.execLinkFramesStart t port s
  | .blockLockGained t port lane => Sys2Proof.Machine.execBlockLockGained t port lane s
  | .blockLockLost t port loss => Sys2Proof.Machine.execBlockLockLost t port loss s
  | .wakeTimeout t port => Sys2Proof.Machine.execWakeTimeout t port s
  | .eyeMeasurementDone t port lane width => Sys2Proof.Machine.execEyeMeasurementDone t port lane width s
  | .eyeMeasureTimeout t port lane => Sys2Proof.Machine.execEyeMeasureTimeout t port lane s
  | .phyRetrainInFrame t m port => Sys2Proof.Machine.execPhyRetrainInFrame t m port s
  | .phyRetrainOpen t m port => Sys2Proof.Machine.execPhyRetrainOpen t m port s
  | .phyLoop t m port value => Sys2Proof.Machine.execPhyLoop t m port value s
  | .phyTestPattern t m port value => Sys2Proof.Machine.execPhyTestPattern t m port value s
  | .linkFrame t port f => Sys2Proof.Machine.execLinkFrame t port f s
  | .linkAlignAcquired t port => Sys2Proof.Machine.execLinkAlignAcquired t port s
  | .linkAlignLost t port => Sys2Proof.Machine.execLinkAlignLost t port s
  | .ctrl t port g => Sys2Proof.Machine.execCtrl t port g s
  | .ctrlReassemblyTimeout t src pathB msgId => Sys2Proof.Machine.execCtrlReassemblyTimeout t src pathB msgId s
  | .credit t chim tile a7 a6 a0 b7 b6 b0 => Sys2Proof.Machine.execCredit t chim tile a7 a6 a0 b7 b6 b0 s
  | .tileCreditTimer t => Sys2Proof.Machine.execTileCreditTimer t s
  | .bootFlagEnd t => Sys2Proof.Machine.execBootFlagEnd t s
  | .insertionGap t port => Sys2Proof.Machine.execInsertionGap t port s
  | .allowanceTick t port => Sys2Proof.Machine.execAllowanceTick t port s
  | .ownPacketInsert t port ahead group => Sys2Proof.Machine.execOwnPacketInsert t port ahead group s
  | .ctrlForwardSend t chim => Sys2Proof.Machine.execCtrlForwardSend t chim s
  | .unaddrFaultReport t => Sys2Proof.Machine.execUnaddrFaultReport t s
  | .line t port p => Sys2Proof.Machine.execLine t port p s
  | .frameClose t => Sys2Proof.Machine.execFrameClose t s
  | .pathHoldoffExpiry t => Sys2Proof.Machine.execPathHoldoffExpiry t s
  | .pathForce t m value => Sys2Proof.Machine.execPathForce t m value s
  | .statusPeriodic t => Sys2Proof.Machine.execStatusPeriodic t s
  | .pathFlagsStatus t => Sys2Proof.Machine.execPathFlagsStatus t s
  | .status t chim p => Sys2Proof.Machine.execStatus t chim p s
  | .reachTimeout t chim tile => Sys2Proof.Machine.execReachTimeout t chim tile s
  | .firstStatusTimeout t chim tile => Sys2Proof.Machine.execFirstStatusTimeout t chim tile s
  | .ptpSync t p => Sys2Proof.Machine.execPtpSync t p s
  | .ptpFollowUp t p => Sys2Proof.Machine.execPtpFollowUp t p s
  | .ptpDelayResp t p => Sys2Proof.Machine.execPtpDelayResp t p s
  | .ptpAnnounce t p => Sys2Proof.Machine.execPtpAnnounce t p s
  | .ptpDelayReqInterval t => Sys2Proof.Machine.execPtpDelayReqInterval t s
  | .ptpAnnounceTimeout t => Sys2Proof.Machine.execPtpAnnounceTimeout t s
  | .ptpSyncTimeout t => Sys2Proof.Machine.execPtpSyncTimeout t s
  | .frefEdge t falling => Sys2Proof.Machine.execFrefEdge t falling s
  | .frefEdgeMissing t => Sys2Proof.Machine.execFrefEdgeMissing t s
  | .timeStep t m delta => Sys2Proof.Machine.execTimeStep t m delta s
  | .timePtpRestep t m => Sys2Proof.Machine.execTimePtpRestep t m s
  | .timeRealign t m => Sys2Proof.Machine.execTimeRealign t m s
  | .syncInterval t port => Sys2Proof.Machine.execSyncInterval t port s
  | .delayReq t port p => Sys2Proof.Machine.execDelayReq t port p s
  | .anchorInterval t chim => Sys2Proof.Machine.execAnchorInterval t chim s
  | .anchorAnnounceRepeat t => Sys2Proof.Machine.execAnchorAnnounceRepeat t s
  | .delayReqInterval t => Sys2Proof.Machine.execDelayReqInterval t s
  | .sync t port p => Sys2Proof.Machine.execSync t port p s
  | .delayResp t port p => Sys2Proof.Machine.execDelayResp t port p s
  | .anchor t port a => Sys2Proof.Machine.execAnchor t port a s
  | .tileSyncTimeout t => Sys2Proof.Machine.execTileSyncTimeout t s
  | .holdoverMaxExpiry t => Sys2Proof.Machine.execHoldoverMaxExpiry t s
  | .scanStart t => Sys2Proof.Machine.execScanStart t s
  | .passStart t err => Sys2Proof.Machine.execPassStart t err s
  | .tpoEdge t n => Sys2Proof.Machine.execTpoEdge t n s
  | .lampFirstPassDone t => Sys2Proof.Machine.execLampFirstPassDone t s
  | .lampProcessingDone t => Sys2Proof.Machine.execLampProcessingDone t s
  | .driveDeadline t => Sys2Proof.Machine.execDriveDeadline t s
  | .workingSetBuildStart t module => Sys2Proof.Machine.execWorkingSetBuildStart t module s
  | .workingSetBuildDone t module => Sys2Proof.Machine.execWorkingSetBuildDone t module s
  | .workingSetAgeTimeout t module => Sys2Proof.Machine.execWorkingSetAgeTimeout t module s
  | .coefWordError t x y => Sys2Proof.Machine.execCoefWordError t x y s
  | .storedSetError t module set => Sys2Proof.Machine.execStoredSetError t module set s
  | .agingSweep t => Sys2Proof.Machine.execAgingSweep t s
  | .doseFold t => Sys2Proof.Machine.execDoseFold t s
  | .doseSave t => Sys2Proof.Machine.execDoseSave t s
  | .strandFrameReturn t strand r => Sys2Proof.Machine.execStrandFrameReturn t strand r s
  | .breakSym t strand addr => Sys2Proof.Machine.execBreak t strand addr s
  | .strandReturnTimeout t strand => Sys2Proof.Machine.execStrandReturnTimeout t strand s
  | .strEnum t m => Sys2Proof.Machine.execStrEnum t m s
  | .enumPeriodic t => Sys2Proof.Machine.execEnumPeriodic t s
  | .enumReturn t strand count => Sys2Proof.Machine.execEnumReturn t strand count s
  | .strDrvRead t m => Sys2Proof.Machine.execStrDrvRead t m s
  | .strDrvWrite t m => Sys2Proof.Machine.execStrDrvWrite t m s
  | .cmdReturn t strand payload => Sys2Proof.Machine.execCmdReturn t strand payload s
  | .driverCmdTimeout t strand => Sys2Proof.Machine.execDriverCmdTimeout t strand s
  | .scanOpenClearEntry t m entry => Sys2Proof.Machine.execScanOpenClearEntry t m entry s
  | .scanOpenClearAll t m => Sys2Proof.Machine.execScanOpenClearAll t m s
  | .loopSample t slot => Sys2Proof.Machine.execLoopSample t slot s
  | .damperStagingWrite t zone => Sys2Proof.Machine.execDamperStagingWrite t zone s
  | .monConversion t vMon vRefP vRefN => Sys2Proof.Machine.execMonConversion t vMon vRefP vRefN s
  | .opRampEval t => Sys2Proof.Machine.execOpRampEval t s
  | .loopSwap t m mask => Sys2Proof.Machine.execLoopSwap t m mask s
  | .powerGrant t m gseq target grants => Sys2Proof.Machine.execPowerGrant t m gseq target grants s
  | .powerReport t m chim tile r => Sys2Proof.Machine.execPowerReport t m chim tile r s
  | .grantMissingTimeout t => Sys2Proof.Machine.execGrantMissingTimeout t s
  | .powerReportMissing t chim tile => Sys2Proof.Machine.execPowerReportMissing t chim tile s
  | .zoneTempSupply t => Sys2Proof.Machine.execZoneTempSupply t s
  | .calOpen t m => Sys2Proof.Machine.execCalOpen t m s
  | .calRun t m => Sys2Proof.Machine.execCalRun t m s
  | .calAbort t m => Sys2Proof.Machine.execCalAbort t m s
  | .calPatternShow t m pattern => Sys2Proof.Machine.execCalPatternShow t m pattern s
  | .calPatternEnd t m => Sys2Proof.Machine.execCalPatternEnd t m s
  | .calMeasClear t m => Sys2Proof.Machine.execCalMeasClear t m s
  | .calMeasData t m buf off bytes => Sys2Proof.Machine.execCalMeasData t m buf off bytes s
  | .calBulkData t m off bytes => Sys2Proof.Machine.execCalBulkData t m off bytes s
  | .bulk t h off bytes => Sys2Proof.Machine.execBulk t h off bytes s
  | .calUnitStart t => Sys2Proof.Machine.execCalUnitStart t s
  | .calSolveDone t => Sys2Proof.Machine.execCalSolveDone t s
  | .calCheckDone t => Sys2Proof.Machine.execCalCheckDone t s
  | .calFieldRevert t m value => Sys2Proof.Machine.execCalFieldRevert t m value s
  | .calLinkRun t m port => Sys2Proof.Machine.execCalLinkRun t m port s
  | .linkRunEnd t port => Sys2Proof.Machine.execLinkRunEnd t port s
  | .linkRunAutoStart t port => Sys2Proof.Machine.execLinkRunAutoStart t port s
  | .calLinkClear t m port => Sys2Proof.Machine.execCalLinkClear t m port s
  | .calTrimRun t m => Sys2Proof.Machine.execCalTrimRun t m s
  | .trimRunEnd t sites => Sys2Proof.Machine.execTrimRunEnd t sites s
  | .anchorWrite t m kind entry key => Sys2Proof.Machine.execAnchorWrite t m kind entry key s
  | .secFwRevoke t m key => Sys2Proof.Machine.execSecFwRevoke t m key s
  | .modulePoll t module found => Sys2Proof.Machine.execModulePoll t module found s
  | .modServiceEnter t m module => Sys2Proof.Machine.execModServiceEnter t m module s
  | .modServiceLeave t m module => Sys2Proof.Machine.execModServiceLeave t m module s
  | .sensorConversion t readings => Sys2Proof.Machine.execSensorConversion t readings s
  | .thermalStageApply t => Sys2Proof.Machine.execThermalStageApply t s
  | .moduleTempStale t module => Sys2Proof.Machine.execModuleTempStale t module s
  | .faultEvent t => Sys2Proof.Machine.execFaultEvent t s
  | .faultQuietExpiry t src => Sys2Proof.Machine.execFaultQuietExpiry t src s
  | .fltClearSource t m src => Sys2Proof.Machine.execFltClearSource t m src s
  | .fltClearAll t m => Sys2Proof.Machine.execFltClearAll t m s
  | .fltInject t m value => Sys2Proof.Machine.execFltInject t m value s
  | .fltInjectClear t m => Sys2Proof.Machine.execFltInjectClear t m s
  | .ashLogSave t => Sys2Proof.Machine.execAshLogSave t s
  | .alarmRepeat t => Sys2Proof.Machine.execAlarmRepeat t s
  | .fault t chim src entry => Sys2Proof.Machine.execFault t chim src entry s
  | .wallAlarmTimeout t chim tile => Sys2Proof.Machine.execWallAlarmTimeout t chim tile s
  | .svcFrame t f => Sys2Proof.Machine.execSvcFrame t f s
  | .bootReleaseM t m => Sys2Proof.Machine.execBootReleaseM t m s
  | .updBegin t m => Sys2Proof.Machine.execUpdBegin t m s
  | .updImage t m off bytes => Sys2Proof.Machine.execUpdImage t m off bytes s
  | .updVerify t m verdicts => Sys2Proof.Machine.execUpdVerify t m verdicts s
  | .updActivate t m mask target => Sys2Proof.Machine.execUpdActivate t m mask target s
  | .kernelLoadDone t => Sys2Proof.Machine.execKernelLoadDone t s
  | .updConfirm t => Sys2Proof.Machine.execUpdConfirm t s
  | .updWindowExpiry t => Sys2Proof.Machine.execUpdWindowExpiry t s
  | .updFallback t m => Sys2Proof.Machine.execUpdFallback t m s
  | .trimPwmPeriod t n => Sys2Proof.Machine.execTrimPwmPeriod t n s
  | .tpoPulseEnd t n => Sys2Proof.Machine.execTpoPulseEnd t n s
  | .jtagInstruction t code => Sys2Proof.Machine.execJtagInstruction t code s

end Sys2Proof.Machine
end

