-- ==== Sys2Proof/Safety.lean ====
section
/-! DEFINITION. What claims speak of: safe steps, power, admitted requests and what answering one leaves alone. -/

namespace Sys2Proof.Machine

/-- A step that neither faults nor refuses. -/
def Safe (s : State) : Prop := ∃ t, step s = .next t

/-- The device is out of reset only while PORST_N is high and both rails are good (R410, R437). -/
def State.Powered (s : State) : Prop := s.live = true → s.sys.porstLow = false ∧ s.sys.railLow = false

/-- A message of an open session of this device that nothing turns away before it runs at `t`: pair M takes it, or the
ROM's responder where `rom` says that it takes such a message (R420); it is for this device, genuine (R46) and in order
(R45), its session does not close, and the SVC queue has room for the reply (R419). -/
def State.Fresh (s : State) (t : Cyc) (m : Msg) (rom : Bool) : Prop :=
  s.live = true ∧ (s.pairMUp || rom) = true ∧ s.hears m.transport = true ∧ m.route = .device
    ∧ s.genuine m = true ∧ max (s.session m.session).seq (s.session m.session).oneWay < m.seq ∧ m.seq < 0xFFFFFFFF
    ∧ (s.session m.session).closing = false ∧ (s.session m.session).own + 1 < 0xFFFFFFFF
    ∧ (m.transport = .svc → (s.upd.svc.filter fun x => decide (max s.now t < x)).length < 4)

/-- The state in which an admitted message runs: the timeout restarts, and the SEQ is taken (R41, R45). -/
def State.taken (s : State) (t : Cyc) (m : Msg) : State :=
  let s := s.upTo t
  let s := s.setSession m.session { s.session m.session with lastMsg := s.now, transport := m.transport }
  s.setSession m.session { s.session m.session with seq := m.seq, cached := none, busy := none }

/-- The write of one object passes every check of R37 in the state in which it runs. -/
def State.Writes (s : State) (t : Cyc) (m : Msg) (r : ObjRow) (i j : Nat) (v : WVal) : Prop :=
  s.Fresh t m true ∧ (s.taken t m).objAt (r.base + r.stride * i) (r.s0 + j) = some (r, i, j)
    ∧ (s.taken t m).writeRefused m.session (r.base + r.stride * i) (r.s0 + j) v = none

/-- But for packets that wait on its ports, and the next MSG_ID, `x` is `y`. -/
def Flue.Queued (x y : Flue) : Prop := x = { y with egress := x.egress, msgId := x.msgId }

/-- The state `u` after a request that ran as `q` and was answered: the reply is kept for a repeat and has left (R45);
sessions, what has been sent and a reply that waits on a tile's Flue ports aside, `u` is `q`. -/
def State.Answers (u q : State) (m : Msg) (op : Nat) (r : Reply) : Prop :=
  (u.session m.session).cached = some (op, r) ∧ u.dict = q.dict ∧ u.shadow = q.shadow ∧ u.blob = q.blob
    ∧ u.shadowBlob = q.shadowBlob ∧ u.time = q.time ∧ u.clock = q.clock ∧ u.flt = q.flt ∧ u.nv = q.nv
    ∧ u.upd = { q.upd with svc := u.upd.svc }
    ∧ u.video = q.video ∧ Flue.Queued u.flue q.flue ∧ (m.transport ≠ .flue → u.flue = q.flue) ∧ u.lamp = q.lamp ∧ u.strands = q.strands ∧ u.seq = q.seq
    ∧ u.power = q.power ∧ u.mods = q.mods ∧ u.sys.phase = q.sys.phase ∧ u.sess.armed = q.sess.armed
    ∧ u.out.head? = some (q.now, .reply m.transport m.session m.seq op r)

/-- The reply to the write of one object. -/
def writeReply (status : Nat) : Reply := { status := status, payload := [(status, none)] }

/-- Every number store of the dictionary rises strictly by key. -/
def State.dictWf (s : State) : Prop := risingFrom 0 s.dict = true ∧ risingFrom 0 s.shadow = true

end Sys2Proof.Machine
end

