-- ==== Sys2Proof/WellFormed.lean ====
section
/-! DEFINITION. Which commands are well formed: every operand within the range that its field or its unit has.

A meaning is total and does not rest on this; it says which terms stand for something that can happen. -/

namespace Sys2Proof

def isPort (p : Nat) : Bool := decide (p < 16)
def isLane (l : Nat) : Bool := decide (l < 4)
def isChimney (c : Nat) : Bool := decide (c < 8)
/-- A tile address (R120, R123). -/
def isTileAddress (a : Nat) : Bool := decide (1 ≤ a ∧ a ≤ 128)
def isModule (m : Nat) : Bool := decide (m < 16)
def isStrand (n : Nat) : Bool := decide (n < 256)
def isZone (z : Nat) : Bool := decide (z < 8)
def isEngine (pe : Nat) : Bool := decide (pe < 544)
def isSource (src : Nat) : Bool := decide (src < 128)
def isLayer (l : Nat) : Bool := decide (l < 15)
def isSession (k : Nat) : Bool := decide (k < 64)
def isLoop (k : Nat) : Bool := decide (k < 32)
def isIngestSlot (k : Nat) : Bool := decide (k < 8)

/-- The header fields fit Table 2-7. -/
def msgOk (m : Msg) : Bool :=
  decide (m.version < 256 ∧ m.session < 256 ∧ m.epoch < 65536 ∧ m.seq < 2 ^ 32 ∧ m.flags < 65536 ∧ m.index < 65536
    ∧ m.sub < 256 ∧ m.count < 256)

/-- The header fields fit Table 3-2. -/
def ingOk (h : IngHdr) : Bool :=
  decide (h.port < 16 ∧ h.version < 16 ∧ h.len < 65536 ∧ h.seq < 2 ^ 32 ∧ h.gen < 65536 ∧ h.buf < 8 ∧ h.plane < 4
    ∧ h.line < 8192 ∧ h.offset < 8192)

/-- CFG_STRAP has four bits, and the external memory eight channels (R92). -/
def powerOk (p : PowerOn) : Bool := decide (p.straps < 16 ∧ p.channels.length ≤ 8)

/-- A module of a flash device, and a channel or port of an arbiter, exists. -/
def devOk : FlashDev → Bool
  | .boot => true
  | .module m => isModule m
def arbOk : ArbId → Bool
  | .mem c => decide (c < 8)
  | .ws => true
  | .egress p => isPort p

def Instr.wf : Instr → Bool
  | .porstAssert _ => true
  | .porstRelease _ p => powerOk p
  | .brownOut _ _ => true
  | .brownOutRecover _ p => powerOk p
  | .pllLossOfLock _ _ => true
  | .pllRelock _ _ => true
  | .pllRelockTimeout _ _ p => powerOk p
  | .bootReset _ m p => msgOk m && powerOk p
  | .configLoadDone _ => true
  | .powerOnAnchor _ => true
  | .tileLightUp _ => true
  | .frameBoundary _ => true
  | .lockstepMismatch _ _ => true
  | .pairWatchdogExpiry _ _ => true
  | .pairMemoryUe _ _ => true
  | .pairMRestart _ m => msgOk m
  | .pairCRestart _ m => msgOk m
  | .pairCResume _ => true
  | .pairMResume _ => true
  | .engineUe _ pe => isEngine pe
  | .engineHealthCheck _ pe _ => isEngine pe
  | .engineCorrectedError _ pe _ => isEngine pe
  | .devEngRetiredClear _ m => msgOk m
  | .arbiterGrant _ arb raised => arbOk arb && raised.all (fun r => decide (r.input < 8 ∧ r.burst ≤ 4096))
  | .openMsg _ o => decide (o.version < 256)
  | .close _ m => msgOk m
  | .keepalive _ m => msgOk m
  | .read _ m _ => msgOk m
  | .write _ m _ => msgOk m
  | .describe _ m => msgOk m
  | .commit _ m scope chims flags _ => msgOk m && decide (scope < 2 ^ 32) && decide (chims < 256) && decide (flags < 256)
  | .commitGo _ m => msgOk m
  | .arm _ m id scope _ gen => msgOk m && decide (id < 2 ^ 32) && decide (scope < 2 ^ 32) && decide (gen < 2 ^ 32)
  | .armReply _ chim tile id _ => isChimney chim && isTileAddress tile && decide (id < 2 ^ 32)
  | .armReplyDeadline _ => true
  | .abortRepeat _ => true
  | .abort _ m id => msgOk m && decide (id < 2 ^ 32)
  | .commitDivergenceTimeout _ chim tile => isChimney chim && isTileAddress tile
  | .lock _ m area => msgOk m && decide (area < 256)
  | .unlock _ m area => msgOk m && decide (area < 256)
  | .lockAcquire _ m area => msgOk m && decide (area < 256)
  | .lockRelease _ m area => msgOk m && decide (area < 256)
  | .lockClearSuspect _ m area => msgOk m && decide (area < 256)
  | .sessionTimeout _ slot => isSession slot
  | .persistSave _ m => msgOk m
  | .persistAutoSave _ => true
  | .persistDefaults _ m _ => msgOk m
  | .flashStoreDone _ dev _ _ => devOk dev
  | .setup _ h _ => ingOk h
  | .frameReq _ h => ingOk h
  | .data _ h _ => ingOk h
  | .ingestCreditTimer _ slot => isIngestSlot slot
  | .publish _ h _ => ingOk h
  | .publishCheck _ slot => isIngestSlot slot
  | .fenceRelease _ _ _ => true
  | .sourceStaleTimeout _ slot => isIngestSlot slot
  | .layerStillData _ m layer _ _ => msgOk m && isLayer layer
  | .layerStillPublish _ m layer => msgOk m && isLayer layer
  | .compositorDeadlineMiss _ chim => isChimney chim
  | .layerFetchError _ layer _ _ _ => isLayer layer
  | .hearthImage _ m _ _ => msgOk m
  | .hearthSizeWrite _ m _ _ => msgOk m
  | .hearthCopyDone _ => true
  | .hearthWordError _ _ _ => true
  | .hearthScrub _ => true
  | .chimneyBringUp _ chim => isChimney chim
  | .assign _ port _ _ _ => isPort port
  | .assignReturn _ chim _ _ => isChimney chim
  | .assignPeriodic _ chim => isChimney chim
  | .ringCloseTimeout _ chim => isChimney chim
  | .modeHoldTimeout _ => true
  | .phaseTrackStep _ port lane _ => isPort port && isLane lane
  | .clockLaneLoss _ port _ => isPort port
  | .fwdClockReturn _ port _ => isPort port
  | .trainingBlock _ port blocks _ => isPort port && decide (blocks.length ≤ 4)
  | .trainingStageLimit _ port => isPort port
  | .trainingRetry _ port => isPort port
  | .linkFramesStart _ port => isPort port
  | .blockLockGained _ port lane => isPort port && isLane lane
  | .blockLockLost _ port loss => isPort port && isLane loss.lane && decide (loss.invalid < 2 ^ 32)
  | .wakeTimeout _ port => isPort port
  | .eyeMeasurementDone _ port lane _ => isPort port && isLane lane
  | .eyeMeasureTimeout _ port lane => isPort port && isLane lane
  | .phyRetrainInFrame _ m port => msgOk m && isPort port
  | .phyRetrainOpen _ m port => msgOk m && isPort port
  | .phyLoop _ m port _ => msgOk m && isPort port
  | .phyTestPattern _ m port _ => msgOk m && isPort port
  | .linkFrame _ port f => isPort port && decide (f.lanes.length = 4 ∧ f.slip.natAbs ≤ 31)
      && f.lanes.all fun l => decide (l.length = 8) && l.all fun b => decide (b.line < 2 ^ 64)
  | .linkAlignAcquired _ port => isPort port
  | .linkAlignLost _ port => isPort port
  | .ctrl _ port g => isPort port && decide (g.src < 256 ∧ g.dst < 256 ∧ g.msgId < 65536)
  | .ctrlReassemblyTimeout _ src _ _ => decide (src < 256)
  | .credit _ chim tile _ _ _ _ _ _ => isChimney chim && isTileAddress tile
  | .tileCreditTimer _ => true
  | .bootFlagEnd _ => true
  | .insertionGap _ port => isPort port
  | .allowanceTick _ port => isPort port
  | .ownPacketInsert _ port ahead _ => isPort port && decide (ahead ≤ 62)
  | .ctrlForwardSend _ chim => isChimney chim
  | .unaddrFaultReport _ => true
  | .line _ port p => isPort port && decide (1 ≤ p.words.length ∧ p.words.length ≤ 387) && p.words.all fun w => decide (w < 2 ^ 64)
  | .frameClose _ => true
  | .pathHoldoffExpiry _ => true
  | .pathForce _ m _ => msgOk m
  | .statusPeriodic _ => true
  | .pathFlagsStatus _ => true
  | .status _ chim p => isChimney chim && decide (p.src < 256)
  | .reachTimeout _ chim tile => isChimney chim && isTileAddress tile
  | .firstStatusTimeout _ chim tile => isChimney chim && isTileAddress tile
  | .ptpSync _ _ => true
  | .ptpFollowUp _ _ => true
  | .ptpDelayResp _ _ => true
  | .ptpAnnounce _ _ => true
  | .ptpDelayReqInterval _ => true
  | .ptpAnnounceTimeout _ => true
  | .ptpSyncTimeout _ => true
  | .frefEdge _ _ => true
  | .frefEdgeMissing _ => true
  | .timeStep _ m _ => msgOk m
  | .timePtpRestep _ m => msgOk m
  | .timeRealign _ m => msgOk m
  | .syncInterval _ port => isPort port
  | .delayReq _ port _ => isPort port
  | .anchorInterval _ chim => isChimney chim
  | .anchorAnnounceRepeat _ => true
  | .delayReqInterval _ => true
  | .sync _ port _ => isPort port
  | .delayResp _ port _ => isPort port
  | .anchor _ port _ => isPort port
  | .tileSyncTimeout _ => true
  | .holdoverMaxExpiry _ => true
  | .scanStart _ => true
  | .passStart _ _ => true
  | .tpoEdge _ n => decide (n < 4)
  | .lampFirstPassDone _ => true
  | .lampProcessingDone _ => true
  | .driveDeadline _ => true
  | .workingSetBuildStart _ module => isModule module
  | .workingSetBuildDone _ module => isModule module
  | .workingSetAgeTimeout _ module => isModule module
  | .coefWordError _ _ _ => true
  | .storedSetError _ module _ => isModule module
  | .agingSweep _ => true
  | .doseFold _ => true
  | .doseSave _ => true
  | .strandFrameReturn _ strand _ => isStrand strand
  | .breakSym _ strand _ => isStrand strand
  | .strandReturnTimeout _ strand => isStrand strand
  | .strEnum _ m => msgOk m
  | .enumPeriodic _ => true
  | .enumReturn _ strand _ => isStrand strand
  | .strDrvRead _ m => msgOk m
  | .strDrvWrite _ m => msgOk m
  | .cmdReturn _ strand _ => isStrand strand
  | .driverCmdTimeout _ strand => isStrand strand
  | .scanOpenClearEntry _ m _ => msgOk m
  | .scanOpenClearAll _ m => msgOk m
  | .loopSample _ slot => isLoop slot
  | .damperStagingWrite _ zone => isZone zone
  | .monConversion _ _ _ _ => true
  | .opRampEval _ => true
  | .loopSwap _ m _ => msgOk m
  | .powerGrant _ m _ _ _ => msgOk m
  | .powerReport _ m chim tile _ => msgOk m && isChimney chim && isTileAddress tile
  | .grantMissingTimeout _ => true
  | .powerReportMissing _ chim tile => isChimney chim && isTileAddress tile
  | .zoneTempSupply _ => true
  | .calOpen _ m => msgOk m
  | .calRun _ m => msgOk m
  | .calAbort _ m => msgOk m
  | .calPatternShow _ m pattern => msgOk m && decide (pattern < 65536)
  | .calPatternEnd _ m => msgOk m
  | .calMeasClear _ m => msgOk m
  | .calMeasData _ m buf _ _ => msgOk m && decide (buf < 33)
  | .calBulkData _ m _ _ => msgOk m
  | .bulk _ h off bytes => decide (h.transfer < 256 ∧ off < 2 ^ 25 ∧ bytes.length ≤ 56)
  | .calUnitStart _ => true
  | .calSolveDone _ => true
  | .calCheckDone _ => true
  | .calFieldRevert _ m _ => msgOk m
  | .calLinkRun _ m port => msgOk m && isPort port
  | .linkRunEnd _ port => isPort port
  | .linkRunAutoStart _ port => isPort port
  | .calLinkClear _ m port => msgOk m && isPort port
  | .calTrimRun _ m => msgOk m
  | .trimRunEnd _ _ => true
  | .anchorWrite _ m _ _ _ => msgOk m
  | .secFwRevoke _ m _ => msgOk m
  | .modulePoll _ module found => isModule module && found.all fun f => decide (f.slots.length ≤ 5 ∧ f.certSerial < 2 ^ 64)
  | .modServiceEnter _ m module => msgOk m && isModule module
  | .modServiceLeave _ m module => msgOk m && isModule module
  | .sensorConversion _ _ => true
  | .thermalStageApply _ => true
  | .moduleTempStale _ module => isModule module
  | .faultEvent _ => true
  | .faultQuietExpiry _ src => isSource src
  | .fltClearSource _ m src => msgOk m && decide (src < 65536)
  | .fltClearAll _ m => msgOk m
  | .fltInject _ m _ => msgOk m
  | .fltInjectClear _ m => msgOk m
  | .ashLogSave _ => true
  | .alarmRepeat _ => true
  | .fault _ chim src entry => isChimney chim && decide (src < 256) && decide (entry < 2 ^ 128)
  | .wallAlarmTimeout _ chim tile => isChimney chim && isTileAddress tile
  | .svcFrame _ f => decide (f.hop < 65536 ∧ f.len < 65536)
  | .bootReleaseM _ m => msgOk m
  | .updBegin _ m => msgOk m
  | .updImage _ m _ _ => msgOk m
  | .updVerify _ m _ => msgOk m
  | .updActivate _ m _ _ => msgOk m
  | .kernelLoadDone _ => true
  | .updConfirm _ => true
  | .updWindowExpiry _ => true
  | .updFallback _ m => msgOk m
  | .trimPwmPeriod _ n => decide (n < 8)
  | .tpoPulseEnd _ n => decide (n < 4)
  | .jtagInstruction _ _ => true

/-- The instant at which a command arrives or comes due. -/
def Instr.time : Instr → Cyc
  | .porstAssert t => t
  | .porstRelease t _ => t
  | .brownOut t _ => t
  | .brownOutRecover t _ => t
  | .pllLossOfLock t _ => t
  | .pllRelock t _ => t
  | .pllRelockTimeout t _ _ => t
  | .bootReset t _ _ => t
  | .configLoadDone t => t
  | .powerOnAnchor t => t
  | .tileLightUp t => t
  | .frameBoundary t => t
  | .lockstepMismatch t _ => t
  | .pairWatchdogExpiry t _ => t
  | .pairMemoryUe t _ => t
  | .pairMRestart t _ => t
  | .pairCRestart t _ => t
  | .pairCResume t => t
  | .pairMResume t => t
  | .engineUe t _ => t
  | .engineHealthCheck t _ _ => t
  | .engineCorrectedError t _ _ => t
  | .devEngRetiredClear t _ => t
  | .arbiterGrant t _ _ => t
  | .openMsg t _ => t
  | .close t _ => t
  | .keepalive t _ => t
  | .read t _ _ => t
  | .write t _ _ => t
  | .describe t _ => t
  | .commit t _ _ _ _ _ => t
  | .commitGo t _ => t
  | .arm t _ _ _ _ _ => t
  | .armReply t _ _ _ _ => t
  | .armReplyDeadline t => t
  | .abortRepeat t => t
  | .abort t _ _ => t
  | .commitDivergenceTimeout t _ _ => t
  | .lock t _ _ => t
  | .unlock t _ _ => t
  | .lockAcquire t _ _ => t
  | .lockRelease t _ _ => t
  | .lockClearSuspect t _ _ => t
  | .sessionTimeout t _ => t
  | .persistSave t _ => t
  | .persistAutoSave t => t
  | .persistDefaults t _ _ => t
  | .flashStoreDone t _ _ _ => t
  | .setup t _ _ => t
  | .frameReq t _ => t
  | .data t _ _ => t
  | .ingestCreditTimer t _ => t
  | .publish t _ _ => t
  | .publishCheck t _ => t
  | .fenceRelease t _ _ => t
  | .sourceStaleTimeout t _ => t
  | .layerStillData t _ _ _ _ => t
  | .layerStillPublish t _ _ => t
  | .compositorDeadlineMiss t _ => t
  | .layerFetchError t _ _ _ _ => t
  | .hearthImage t _ _ _ => t
  | .hearthSizeWrite t _ _ _ => t
  | .hearthCopyDone t => t
  | .hearthWordError t _ _ => t
  | .hearthScrub t => t
  | .chimneyBringUp t _ => t
  | .assign t _ _ _ _ => t
  | .assignReturn t _ _ _ => t
  | .assignPeriodic t _ => t
  | .ringCloseTimeout t _ => t
  | .modeHoldTimeout t => t
  | .phaseTrackStep t _ _ _ => t
  | .clockLaneLoss t _ _ => t
  | .fwdClockReturn t _ _ => t
  | .trainingBlock t _ _ _ => t
  | .trainingStageLimit t _ => t
  | .trainingRetry t _ => t
  | .linkFramesStart t _ => t
  | .blockLockGained t _ _ => t
  | .blockLockLost t _ _ => t
  | .wakeTimeout t _ => t
  | .eyeMeasurementDone t _ _ _ => t
  | .eyeMeasureTimeout t _ _ => t
  | .phyRetrainInFrame t _ _ => t
  | .phyRetrainOpen t _ _ => t
  | .phyLoop t _ _ _ => t
  | .phyTestPattern t _ _ _ => t
  | .linkFrame t _ _ => t
  | .linkAlignAcquired t _ => t
  | .linkAlignLost t _ => t
  | .ctrl t _ _ => t
  | .ctrlReassemblyTimeout t _ _ _ => t
  | .credit t _ _ _ _ _ _ _ _ => t
  | .tileCreditTimer t => t
  | .bootFlagEnd t => t
  | .insertionGap t _ => t
  | .allowanceTick t _ => t
  | .ownPacketInsert t _ _ _ => t
  | .ctrlForwardSend t _ => t
  | .unaddrFaultReport t => t
  | .line t _ _ => t
  | .frameClose t => t
  | .pathHoldoffExpiry t => t
  | .pathForce t _ _ => t
  | .statusPeriodic t => t
  | .pathFlagsStatus t => t
  | .status t _ _ => t
  | .reachTimeout t _ _ => t
  | .firstStatusTimeout t _ _ => t
  | .ptpSync t _ => t
  | .ptpFollowUp t _ => t
  | .ptpDelayResp t _ => t
  | .ptpAnnounce t _ => t
  | .ptpDelayReqInterval t => t
  | .ptpAnnounceTimeout t => t
  | .ptpSyncTimeout t => t
  | .frefEdge t _ => t
  | .frefEdgeMissing t => t
  | .timeStep t _ _ => t
  | .timePtpRestep t _ => t
  | .timeRealign t _ => t
  | .syncInterval t _ => t
  | .delayReq t _ _ => t
  | .anchorInterval t _ => t
  | .anchorAnnounceRepeat t => t
  | .delayReqInterval t => t
  | .sync t _ _ => t
  | .delayResp t _ _ => t
  | .anchor t _ _ => t
  | .tileSyncTimeout t => t
  | .holdoverMaxExpiry t => t
  | .scanStart t => t
  | .passStart t _ => t
  | .tpoEdge t _ => t
  | .lampFirstPassDone t => t
  | .lampProcessingDone t => t
  | .driveDeadline t => t
  | .workingSetBuildStart t _ => t
  | .workingSetBuildDone t _ => t
  | .workingSetAgeTimeout t _ => t
  | .coefWordError t _ _ => t
  | .storedSetError t _ _ => t
  | .agingSweep t => t
  | .doseFold t => t
  | .doseSave t => t
  | .strandFrameReturn t _ _ => t
  | .breakSym t _ _ => t
  | .strandReturnTimeout t _ => t
  | .strEnum t _ => t
  | .enumPeriodic t => t
  | .enumReturn t _ _ => t
  | .strDrvRead t _ => t
  | .strDrvWrite t _ => t
  | .cmdReturn t _ _ => t
  | .driverCmdTimeout t _ => t
  | .scanOpenClearEntry t _ _ => t
  | .scanOpenClearAll t _ => t
  | .loopSample t _ => t
  | .damperStagingWrite t _ => t
  | .monConversion t _ _ _ => t
  | .opRampEval t => t
  | .loopSwap t _ _ => t
  | .powerGrant t _ _ _ _ => t
  | .powerReport t _ _ _ _ => t
  | .grantMissingTimeout t => t
  | .powerReportMissing t _ _ => t
  | .zoneTempSupply t => t
  | .calOpen t _ => t
  | .calRun t _ => t
  | .calAbort t _ => t
  | .calPatternShow t _ _ => t
  | .calPatternEnd t _ => t
  | .calMeasClear t _ => t
  | .calMeasData t _ _ _ _ => t
  | .calBulkData t _ _ _ => t
  | .bulk t _ _ _ => t
  | .calUnitStart t => t
  | .calSolveDone t => t
  | .calCheckDone t => t
  | .calFieldRevert t _ _ => t
  | .calLinkRun t _ _ => t
  | .linkRunEnd t _ => t
  | .linkRunAutoStart t _ => t
  | .calLinkClear t _ _ => t
  | .calTrimRun t _ => t
  | .trimRunEnd t _ => t
  | .anchorWrite t _ _ _ _ => t
  | .secFwRevoke t _ _ => t
  | .modulePoll t _ _ => t
  | .modServiceEnter t _ _ => t
  | .modServiceLeave t _ _ => t
  | .sensorConversion t _ => t
  | .thermalStageApply t => t
  | .moduleTempStale t _ => t
  | .faultEvent t => t
  | .faultQuietExpiry t _ => t
  | .fltClearSource t _ _ => t
  | .fltClearAll t _ => t
  | .fltInject t _ _ => t
  | .fltInjectClear t _ => t
  | .ashLogSave t => t
  | .alarmRepeat t => t
  | .fault t _ _ _ => t
  | .wallAlarmTimeout t _ _ => t
  | .svcFrame t _ => t
  | .bootReleaseM t _ => t
  | .updBegin t _ => t
  | .updImage t _ _ _ => t
  | .updVerify t _ _ => t
  | .updActivate t _ _ _ => t
  | .kernelLoadDone t => t
  | .updConfirm t => t
  | .updWindowExpiry t => t
  | .updFallback t _ => t
  | .trimPwmPeriod t _ => t
  | .tpoPulseEnd t _ => t
  | .jtagInstruction t _ => t

/-- The same command at another instant. -/
def Instr.moved (i : Instr) (t : Cyc) : Instr :=
  match i with
  | .porstAssert _ => .porstAssert t
  | .porstRelease _ a => .porstRelease t a
  | .brownOut _ io => .brownOut t io
  | .brownOutRecover _ a => .brownOutRecover t a
  | .pllLossOfLock _ a => .pllLossOfLock t a
  | .pllRelock _ a => .pllRelock t a
  | .pllRelockTimeout _ a b => .pllRelockTimeout t a b
  | .bootReset _ a b => .bootReset t a b
  | .configLoadDone _ => .configLoadDone t
  | .powerOnAnchor _ => .powerOnAnchor t
  | .tileLightUp _ => .tileLightUp t
  | .frameBoundary _ => .frameBoundary t
  | .lockstepMismatch _ a => .lockstepMismatch t a
  | .pairWatchdogExpiry _ a => .pairWatchdogExpiry t a
  | .pairMemoryUe _ a => .pairMemoryUe t a
  | .pairMRestart _ a => .pairMRestart t a
  | .pairCRestart _ a => .pairCRestart t a
  | .pairCResume _ => .pairCResume t
  | .pairMResume _ => .pairMResume t
  | .engineUe _ a => .engineUe t a
  | .engineHealthCheck _ a b => .engineHealthCheck t a b
  | .engineCorrectedError _ a b => .engineCorrectedError t a b
  | .devEngRetiredClear _ a => .devEngRetiredClear t a
  | .arbiterGrant _ a b => .arbiterGrant t a b
  | .openMsg _ a => .openMsg t a
  | .close _ a => .close t a
  | .keepalive _ a => .keepalive t a
  | .read _ a b => .read t a b
  | .write _ a b => .write t a b
  | .describe _ a => .describe t a
  | .commit _ a b c d e => .commit t a b c d e
  | .commitGo _ a => .commitGo t a
  | .arm _ a b c d e => .arm t a b c d e
  | .armReply _ a b c d => .armReply t a b c d
  | .armReplyDeadline _ => .armReplyDeadline t
  | .abortRepeat _ => .abortRepeat t
  | .abort _ a b => .abort t a b
  | .commitDivergenceTimeout _ a b => .commitDivergenceTimeout t a b
  | .lock _ a b => .lock t a b
  | .unlock _ a b => .unlock t a b
  | .lockAcquire _ a b => .lockAcquire t a b
  | .lockRelease _ a b => .lockRelease t a b
  | .lockClearSuspect _ a b => .lockClearSuspect t a b
  | .sessionTimeout _ a => .sessionTimeout t a
  | .persistSave _ a => .persistSave t a
  | .persistAutoSave _ => .persistAutoSave t
  | .persistDefaults _ a b => .persistDefaults t a b
  | .flashStoreDone _ a b c => .flashStoreDone t a b c
  | .setup _ a b => .setup t a b
  | .frameReq _ a => .frameReq t a
  | .data _ a b => .data t a b
  | .ingestCreditTimer _ a => .ingestCreditTimer t a
  | .publish _ a b => .publish t a b
  | .publishCheck _ a => .publishCheck t a
  | .fenceRelease _ a b => .fenceRelease t a b
  | .sourceStaleTimeout _ a => .sourceStaleTimeout t a
  | .layerStillData _ a b c d => .layerStillData t a b c d
  | .layerStillPublish _ a b => .layerStillPublish t a b
  | .compositorDeadlineMiss _ a => .compositorDeadlineMiss t a
  | .layerFetchError _ a b c d => .layerFetchError t a b c d
  | .hearthImage _ a b c => .hearthImage t a b c
  | .hearthSizeWrite _ a b c => .hearthSizeWrite t a b c
  | .hearthCopyDone _ => .hearthCopyDone t
  | .hearthWordError _ a b => .hearthWordError t a b
  | .hearthScrub _ => .hearthScrub t
  | .chimneyBringUp _ a => .chimneyBringUp t a
  | .assign _ a b c d => .assign t a b c d
  | .assignReturn _ a b c => .assignReturn t a b c
  | .assignPeriodic _ a => .assignPeriodic t a
  | .ringCloseTimeout _ a => .ringCloseTimeout t a
  | .modeHoldTimeout _ => .modeHoldTimeout t
  | .phaseTrackStep _ a b c => .phaseTrackStep t a b c
  | .clockLaneLoss _ a b => .clockLaneLoss t a b
  | .fwdClockReturn _ a b => .fwdClockReturn t a b
  | .trainingBlock _ a b c => .trainingBlock t a b c
  | .trainingStageLimit _ a => .trainingStageLimit t a
  | .trainingRetry _ a => .trainingRetry t a
  | .linkFramesStart _ a => .linkFramesStart t a
  | .blockLockGained _ a b => .blockLockGained t a b
  | .blockLockLost _ a b => .blockLockLost t a b
  | .wakeTimeout _ a => .wakeTimeout t a
  | .eyeMeasurementDone _ a b c => .eyeMeasurementDone t a b c
  | .eyeMeasureTimeout _ a b => .eyeMeasureTimeout t a b
  | .phyRetrainInFrame _ a b => .phyRetrainInFrame t a b
  | .phyRetrainOpen _ a b => .phyRetrainOpen t a b
  | .phyLoop _ a b c => .phyLoop t a b c
  | .phyTestPattern _ a b c => .phyTestPattern t a b c
  | .linkFrame _ a b => .linkFrame t a b
  | .linkAlignAcquired _ a => .linkAlignAcquired t a
  | .linkAlignLost _ a => .linkAlignLost t a
  | .ctrl _ a b => .ctrl t a b
  | .ctrlReassemblyTimeout _ a b c => .ctrlReassemblyTimeout t a b c
  | .credit _ a b c d e f g h => .credit t a b c d e f g h
  | .tileCreditTimer _ => .tileCreditTimer t
  | .bootFlagEnd _ => .bootFlagEnd t
  | .insertionGap _ a => .insertionGap t a
  | .allowanceTick _ a => .allowanceTick t a
  | .ownPacketInsert _ a b c => .ownPacketInsert t a b c
  | .ctrlForwardSend _ a => .ctrlForwardSend t a
  | .unaddrFaultReport _ => .unaddrFaultReport t
  | .line _ a b => .line t a b
  | .frameClose _ => .frameClose t
  | .pathHoldoffExpiry _ => .pathHoldoffExpiry t
  | .pathForce _ a b => .pathForce t a b
  | .statusPeriodic _ => .statusPeriodic t
  | .pathFlagsStatus _ => .pathFlagsStatus t
  | .status _ a b => .status t a b
  | .reachTimeout _ a b => .reachTimeout t a b
  | .firstStatusTimeout _ a b => .firstStatusTimeout t a b
  | .ptpSync _ a => .ptpSync t a
  | .ptpFollowUp _ a => .ptpFollowUp t a
  | .ptpDelayResp _ a => .ptpDelayResp t a
  | .ptpAnnounce _ a => .ptpAnnounce t a
  | .ptpDelayReqInterval _ => .ptpDelayReqInterval t
  | .ptpAnnounceTimeout _ => .ptpAnnounceTimeout t
  | .ptpSyncTimeout _ => .ptpSyncTimeout t
  | .frefEdge _ a => .frefEdge t a
  | .frefEdgeMissing _ => .frefEdgeMissing t
  | .timeStep _ a b => .timeStep t a b
  | .timePtpRestep _ a => .timePtpRestep t a
  | .timeRealign _ a => .timeRealign t a
  | .syncInterval _ a => .syncInterval t a
  | .delayReq _ a b => .delayReq t a b
  | .anchorInterval _ a => .anchorInterval t a
  | .anchorAnnounceRepeat _ => .anchorAnnounceRepeat t
  | .delayReqInterval _ => .delayReqInterval t
  | .sync _ a b => .sync t a b
  | .delayResp _ a b => .delayResp t a b
  | .anchor _ a b => .anchor t a b
  | .tileSyncTimeout _ => .tileSyncTimeout t
  | .holdoverMaxExpiry _ => .holdoverMaxExpiry t
  | .scanStart _ => .scanStart t
  | .passStart _ a => .passStart t a
  | .tpoEdge _ a => .tpoEdge t a
  | .lampFirstPassDone _ => .lampFirstPassDone t
  | .lampProcessingDone _ => .lampProcessingDone t
  | .driveDeadline _ => .driveDeadline t
  | .workingSetBuildStart _ a => .workingSetBuildStart t a
  | .workingSetBuildDone _ a => .workingSetBuildDone t a
  | .workingSetAgeTimeout _ a => .workingSetAgeTimeout t a
  | .coefWordError _ a b => .coefWordError t a b
  | .storedSetError _ a b => .storedSetError t a b
  | .agingSweep _ => .agingSweep t
  | .doseFold _ => .doseFold t
  | .doseSave _ => .doseSave t
  | .strandFrameReturn _ a b => .strandFrameReturn t a b
  | .breakSym _ a b => .breakSym t a b
  | .strandReturnTimeout _ a => .strandReturnTimeout t a
  | .strEnum _ a => .strEnum t a
  | .enumPeriodic _ => .enumPeriodic t
  | .enumReturn _ a b => .enumReturn t a b
  | .strDrvRead _ a => .strDrvRead t a
  | .strDrvWrite _ a => .strDrvWrite t a
  | .cmdReturn _ a b => .cmdReturn t a b
  | .driverCmdTimeout _ a => .driverCmdTimeout t a
  | .scanOpenClearEntry _ a b => .scanOpenClearEntry t a b
  | .scanOpenClearAll _ a => .scanOpenClearAll t a
  | .loopSample _ a => .loopSample t a
  | .damperStagingWrite _ a => .damperStagingWrite t a
  | .monConversion _ a b c => .monConversion t a b c
  | .opRampEval _ => .opRampEval t
  | .loopSwap _ a b => .loopSwap t a b
  | .powerGrant _ a b c d => .powerGrant t a b c d
  | .powerReport _ a b c d => .powerReport t a b c d
  | .grantMissingTimeout _ => .grantMissingTimeout t
  | .powerReportMissing _ a b => .powerReportMissing t a b
  | .zoneTempSupply _ => .zoneTempSupply t
  | .calOpen _ a => .calOpen t a
  | .calRun _ a => .calRun t a
  | .calAbort _ a => .calAbort t a
  | .calPatternShow _ a b => .calPatternShow t a b
  | .calPatternEnd _ a => .calPatternEnd t a
  | .calMeasClear _ a => .calMeasClear t a
  | .calMeasData _ a b c d => .calMeasData t a b c d
  | .calBulkData _ a b c => .calBulkData t a b c
  | .bulk _ a b c => .bulk t a b c
  | .calUnitStart _ => .calUnitStart t
  | .calSolveDone _ => .calSolveDone t
  | .calCheckDone _ => .calCheckDone t
  | .calFieldRevert _ a b => .calFieldRevert t a b
  | .calLinkRun _ a b => .calLinkRun t a b
  | .linkRunEnd _ a => .linkRunEnd t a
  | .linkRunAutoStart _ a => .linkRunAutoStart t a
  | .calLinkClear _ a b => .calLinkClear t a b
  | .calTrimRun _ a => .calTrimRun t a
  | .trimRunEnd _ a => .trimRunEnd t a
  | .anchorWrite _ a b c d => .anchorWrite t a b c d
  | .secFwRevoke _ a b => .secFwRevoke t a b
  | .modulePoll _ a b => .modulePoll t a b
  | .modServiceEnter _ a b => .modServiceEnter t a b
  | .modServiceLeave _ a b => .modServiceLeave t a b
  | .sensorConversion _ a => .sensorConversion t a
  | .thermalStageApply _ => .thermalStageApply t
  | .moduleTempStale _ a => .moduleTempStale t a
  | .faultEvent _ => .faultEvent t
  | .faultQuietExpiry _ a => .faultQuietExpiry t a
  | .fltClearSource _ a b => .fltClearSource t a b
  | .fltClearAll _ a => .fltClearAll t a
  | .fltInject _ a b => .fltInject t a b
  | .fltInjectClear _ a => .fltInjectClear t a
  | .ashLogSave _ => .ashLogSave t
  | .alarmRepeat _ => .alarmRepeat t
  | .fault _ a b c => .fault t a b c
  | .wallAlarmTimeout _ a b => .wallAlarmTimeout t a b
  | .svcFrame _ a => .svcFrame t a
  | .bootReleaseM _ a => .bootReleaseM t a
  | .updBegin _ a => .updBegin t a
  | .updImage _ a b c => .updImage t a b c
  | .updVerify _ a b => .updVerify t a b
  | .updActivate _ a b c => .updActivate t a b c
  | .kernelLoadDone _ => .kernelLoadDone t
  | .updConfirm _ => .updConfirm t
  | .updWindowExpiry _ => .updWindowExpiry t
  | .updFallback _ a => .updFallback t a
  | .trimPwmPeriod _ a => .trimPwmPeriod t a
  | .tpoPulseEnd _ a => .tpoPulseEnd t a
  | .jtagInstruction _ a => .jtagInstruction t a

end Sys2Proof
end

