-- ==== Sys2Proof/Certificates/Slice0/Obligations.lean ====
section
/-! DEFINITION. The statements for the provers: what the manual's rules say of the commands, of each kind of state, and of
a step. -/

open Sys2Proof Sys2Proof.Machine

/-! ### The machine -/

/-- A step takes the command at the front of the queue: it is `exec` of that command on the state with the queue's
rest. On an empty queue the block idles (the model's choice, log 1). -/
def Obligations.StepRunsFrontCommand : Prop :=
  (∀ (s : State) (c : Instr) (rest : List Instr), step { s with pending := c :: rest } = exec c { s with pending := rest })
  ∧ (∀ s : State, s.pending = [] → step s = .next s)

/-- Every command answers a next state, in which time has passed to the command's instant and never back, the queue is
as it was, and neither PORST_N nor a rail has moved but by the commands that stand for them. R1 and R2: the role is
sampled at the start after PORST_N and a good supply, and by no other event. -/
def Obligations.EveryCommandAnswers : Prop :=
  (∀ (c : Instr) (s : State), ∃ u, exec c s = .next u ∧ u.now = max s.now c.time ∧ u.pending = s.pending
      ∧ (u.sys.porstLow = s.sys.porstLow ∨ ∃ t p, c = .porstAssert t ∨ c = .porstRelease t p)
      ∧ (u.sys.railLow = s.sys.railLow ∨ ∃ t p io, c = .brownOut t io ∨ c = .brownOutRecover t p)
      ∧ (u.sys.ioLow = s.sys.ioLow ∨ ∃ t p io, c = .brownOut t io ∨ c = .brownOutRecover t p))
  ∧ (∀ (c : Instr) (s u : State), exec c s = .next u → (∀ t p, c ≠ .porstRelease t p ∧ c ≠ .brownOutRecover t p) →
      u.role = s.role)

/-- R410 and R437: while the device is in reset no command but those of PORST_N, the rails and JTAG changes anything;
only time passes. R410 and R437: PORST_N low, or a rail below its threshold, resets the whole device at once: every
volatile state takes its reset value, TRIM and TPO go low, FLT_N low and ALM_P/N to alarm, or without VDDIO_1V8 (R451)
FLT_N is released and ALM_P/N equal, and the flash, the fuses and the retired list stand. -/
def Obligations.PowerLossResets : Prop :=
  (∀ (c : Instr) (s : State), s.live = false →
      (∀ t p, c ≠ .porstAssert t ∧ c ≠ .porstRelease t p ∧ c ≠ .brownOutRecover t p
        ∧ (∀ io, c ≠ .brownOut t io) ∧ ∀ k, c ≠ .jtagInstruction t k) →
      exec c s = .next { s with now := max s.now c.time })
  ∧ (∀ (s : State) (t : Cyc) (c : Instr) (io : Bool),
      (c = .porstAssert t ∧ io = s.sys.ioLow ∨ ∃ r, c = .brownOut t r ∧ io = (r || s.sys.ioLow)) →
      ∃ u, exec c s = .next u ∧ u.live = false ∧ u.role = s.role
        ∧ u.dict = [] ∧ u.shadow = [] ∧ u.blob = [] ∧ u.shadowBlob = [] ∧ u.sess = {} ∧ u.flt = {} ∧ u.upd = {}
        ∧ u.video = {} ∧ u.flue = {} ∧ u.clock = {} ∧ u.time = {} ∧ u.lamp = {} ∧ u.strands = [] ∧ u.seq = {}
        ∧ u.power = {} ∧ u.mods = {} ∧ u.nv = { s.nv with busy := [], waiting := [] }
        ∧ (∀ n < 8, (max s.now t, Tx.pin (.trim n) 0) ∈ u.out) ∧ (∀ n < 4, (max s.now t, Tx.pin (.tpo n) 0) ∈ u.out)
        ∧ (max s.now t, Tx.pin .fltN (if io then 1 else 0)) ∈ u.out ∧ (max s.now t, Tx.pin .alm (if io then 2 else 0)) ∈ u.out)

/-- R410 and R437: that the device is out of reset only while PORST_N is high and both rails are good is kept by every
step, from every state that has it. -/
def Obligations.EveryStepKeepsPowered : Prop :=
  ∀ s u : State, s.Powered → step s = .next u → u.Powered

/-- The state right after reset has it. -/
def Obligations.ResetIsPowered : Prop :=
  State.reset.Powered

/-- R35 and R410: right after reset the device is held, PORST_N asserted; every object of the table that no chip
constant or state supplies reads its default, in force and in the shadow; no command waits; FLT_N is low and ALM is at
alarm (R404). -/
def Obligations.ResetState : Prop :=
  (∀ (r : ObjRow) (i j : Nat), State.reset.rdAt r i j = r.default j ∧ State.reset.shAt r i j = r.default j)
  ∧ State.reset.sys.phase = .inReset ∧ State.reset.sys.porstLow = true ∧ State.reset.pending = []
  ∧ State.reset.flt.fltN = false ∧ State.reset.flt.almAlarm = true
  ∧ (∀ k, (State.reset.session k).st = 0) ∧ State.reset.dictWf

/-- R31 and R36: an address names one element of one row of the object table: looking up the address of element j of
instance i of any row finds that row, that instance and that element. -/
def Obligations.ObjectAddressesAreUnique : Prop :=
  ∀ r ∈ objTable, ∀ i j : Nat, i < r.ni → j < r.ns → findObj (r.base + r.stride * i) (r.s0 + j) = some (r, i, j)

/-! ### Power, reset and clocks (R1, R25, R410, R411, R437) -/

/-- R1, R410, R437 and R443: on the event that frees the device, PORST_N rising with both rails good, or the supply
coming back with PORST_N high, and TEST_EN low, it leaves reset with the role that ROLE_SEL gives, high the sender and low a
tile (R438 leaves a floating ROLE_SEL's role undefined); with TEST_EN high, or while the other cause lasts, it stays in reset
and changes nothing else, but that FLT_N and ALM_P/N take their levels again with VDDIO_1V8. (The level of TEST_EN is sampled
by the commands that start the device: the model's choice, log 146.) R411 and R412: BOOT_RESET, with value 1 to its object,
answers OK and then resets the device: its sessions end, the role and the retired list stand, and with TEST_EN low the
device starts again. -/
def Obligations.StartsAndBootResets : Prop :=
  (∀ (s : State) (t : Cyc) (p : PowerOn), s.live = false →
      let starts (u : State) : Prop := u.live = true
        ∧ (p.roleSel = .high → u.role = .sender) ∧ (p.roleSel = .low → u.role = .tile)
      (p.testEn = false → s.sys.railLow = false → ∃ u, exec (.porstRelease t p) s = .next u ∧ starts u)
      ∧ (p.testEn = false → s.sys.porstLow = false → ∃ u, exec (.brownOutRecover t p) s = .next u ∧ starts u)
      ∧ ((s.sys.railLow = true ∨ p.testEn = true) → exec (.porstRelease t p) s =
          .next { s with now := max s.now t, sys := { s.sys with porstLow := false, testEn := p.testEn } })
      ∧ (s.sys.porstLow = true ∨ p.testEn = true → s.sys.ioLow = false → exec (.brownOutRecover t p) s =
          .next { s with now := max s.now t, sys := { s.sys with railLow := false, testEn := p.testEn } })
      ∧ (s.sys.porstLow = true → s.sys.ioLow = true → exec (.brownOutRecover t p) s =
          .next { s with now := max s.now t, sys := { s.sys with railLow := false, ioLow := false, testEn := p.testEn },
                         out := (max s.now t, .pin .alm 0) :: (max s.now t, .pin .fltN 0) :: s.out }))
  ∧ (∀ (s : State) (t : Cyc) (m : Msg) (p : PowerOn), s.Writes t m Obj.BOOT_RESET 0 0 (.num 1) →
      ∃ u, exec (.bootReset t m p) s = .next u ∧ u.live = !p.testEn ∧ u.role = s.role ∧ u.sess = {} ∧ u.flue = {}
        ∧ u.strands = [] ∧ u.nv.retired = s.nv.retired ∧ u.nv.fuses = s.nv.fuses
        ∧ (max s.now t, Tx.reply m.transport m.session m.seq 0x11 (writeReply st.OK)) ∈ u.out)

/-- R25: a PLL that loses lock, its bit of DEV_CLOCK_STATUS falling and its sticky bit set, raises pll-lost, held;
when it locks again the lock bit rises, the sticky bit stays and the condition ends. A sender has no strand PLL. R25,
R411 and R42: a PLL that stays out of lock for 10 ms resets the device: the role and the latched shutdown stand, and
every session ends with its state; it starts again where TEST_EN is low (R443); before the 10 ms are over nothing
happens. -/
def Obligations.PllLossIsReportedThenResets : Prop :=
  (∀ (s : State) (t : Cyc) (pll : Pll), s.live = true →
      ((∀ x ∈ s.sys.pllLost, x.1 ≠ pll) → ¬ (s.isSender = true ∧ pll = .strd) →
        ∃ u, exec (.pllLossOfLock t pll) s = .next u
          ∧ u.nat Obj.DEV_CLOCK_STATUS = setBit (setBit (s.nat Obj.DEV_CLOCK_STATUS) (pllBit pll) false) (pllBit pll + 8) true
          ∧ u.sys.pllLost = s.sys.pllLost ++ [(pll, max s.now t)] ∧ 0x29 * 65536 + pllBit pll ∈ u.flt.conds
          ∧ (s.flt.running = true → ∃ e ∈ u.flt.queue, e.src = 0x29 ∧ e.unit = pllBit pll)
          ∧ u.sess = s.sess ∧ u.nv = s.nv ∧ u.flue = s.flue ∧ u.video = s.video ∧ u.mods = s.mods)
      ∧ ((∃ x ∈ s.sys.pllLost, x.1 = pll) →
        ∃ u, exec (.pllRelock t pll) s = .next u
          ∧ u.nat Obj.DEV_CLOCK_STATUS = setBit (s.nat Obj.DEV_CLOCK_STATUS) (pllBit pll) true
          ∧ (∀ x ∈ u.sys.pllLost, x.1 ≠ pll) ∧ 0x29 * 65536 + pllBit pll ∉ u.flt.conds
          ∧ u.sess = s.sess ∧ u.nv = s.nv ∧ u.flue = s.flue ∧ u.video = s.video ∧ u.mods = s.mods))
  ∧ (∀ (s : State) (t t0 : Cyc) (pll : Pll) (p : PowerOn), s.live = true →
      s.sys.pllLost.find? (fun x => x.1 == pll) = some (pll, t0) →
      (t0 + ms 10 ≤ max s.now t → ∃ u, exec (.pllRelockTimeout t pll p) s = .next u ∧ u.live = !p.testEn ∧ u.role = s.role
        ∧ u.sess = {} ∧ u.flue = {} ∧ u.video = {} ∧ u.strands = [] ∧ u.sys.pllLost = []
        ∧ u.mods.thermal.shutdown = s.mods.thermal.shutdown ∧ u.flt.ash = s.flt.ash ∧ u.nv.fuses = s.nv.fuses
        ∧ u.nv.retired = s.nv.retired)
      ∧ (max s.now t < t0 + ms 10 →
        exec (.pllRelockTimeout t pll p) s = .next { s with now := max s.now t }))

/-! ### Lockstep pairs and the engine pool (R10 to R22) -/

/-- R11, R13, R14 and R42: a failing check of pair M, or DEV_PAIR_RESTART 1, restarts it: every session ends and every
slot's reset epoch advances, the restart is counted, and the fourth within 600 s holds the pair in reset; the data
plane and the flash are untouched. (Outside an update's window, which R425 treats.) R11, R12 and R14: a failing check
of pair C, or DEV_PAIR_RESTART 2, restarts it: its loops hold their outputs (state 4), the restart is counted, and the
fourth within 600 s holds the pair in reset; the lamp engines, the sessions' slots and the flash are untouched.
(Outside an update's window, which R425 treats.) R15, R324 and R367: a restarted pair that comes back reports 0; pair
C's configured loops run on from their held outputs, and a sender's pair M opens session 0 at each tile of a running
chimney again. -/
def Obligations.PairsRestartAndResume : Prop :=
  (∀ (s : State) (t : Cyc) (c : Instr), s.live = true → s.sys.phase = .running → s.nat Obj.DEV_PAIR_M_STATE ≠ 2 →
      s.activating = false →
      (c = .lockstepMismatch t .m ∨ c = .pairWatchdogExpiry t .m ∨ c = .pairMemoryUe t .m
        ∨ ∃ m, c = .pairMRestart t m ∧ s.Writes t m Obj.DEV_PAIR_RESTART 0 0 (.num 1)) →
      ∃ u, exec c s = .next u
        ∧ (∀ k < 64, (u.session k).st = 0 ∧ (u.session k).epoch = ((s.session k).epoch + 1) % 65536)
        ∧ u.rd Obj.DEV_PAIR_M_STATE = (if 3 ≤ (s.sys.pairM.recent.filter fun x => decide (max s.now t ≤ x + seconds 600)).length
            then 2 else 1)
        ∧ (s.rd Obj.DEV_PAIR_M_RESTARTS < 4294967295 → u.rd Obj.DEV_PAIR_M_RESTARTS = s.rd Obj.DEV_PAIR_M_RESTARTS + 1)
        ∧ u.video = s.video ∧ u.lamp = s.lamp ∧ u.strands = s.strands ∧ u.seq = s.seq ∧ u.power = s.power ∧ u.nv = s.nv
        ∧ u.time = s.time ∧ u.shadow = s.shadow)
  ∧ (∀ (s : State) (t : Cyc) (c : Instr), s.live = true → s.nat Obj.DEV_PAIR_C_STATE ≠ 2 → s.activating = false →
      (c = .lockstepMismatch t .c ∨ c = .pairWatchdogExpiry t .c ∨ c = .pairMemoryUe t .c
        ∨ ∃ m, c = .pairCRestart t m ∧ s.Writes t m Obj.DEV_PAIR_RESTART 0 0 (.num 2)) →
      ∃ u, exec c s = .next u
        ∧ u.rd Obj.DEV_PAIR_C_STATE = (if 3 ≤ (s.sys.pairC.recent.filter fun x => decide (max s.now t ≤ x + seconds 600)).length
            then 2 else 1)
        ∧ (s.rd Obj.DEV_PAIR_C_RESTARTS < 4294967295 → u.rd Obj.DEV_PAIR_C_RESTARTS = s.rd Obj.DEV_PAIR_C_RESTARTS + 1)
        ∧ (s.pairCUp = true → ∀ k < 32, s.natAt Obj.LOOP_IN k 0 ≠ 0xFF → u.rdAt Obj.LOOP_STATE k 0 = 4)
        ∧ (∀ k < 64, (u.session k).st = (s.session k).st ∧ (u.session k).epoch = (s.session k).epoch)
        ∧ u.video = s.video ∧ u.lamp = s.lamp ∧ u.strands = s.strands ∧ u.seq = s.seq ∧ u.power = s.power ∧ u.nv = s.nv
        ∧ u.time = s.time ∧ u.shadow = s.shadow ∧ Flue.Queued u.flue s.flue)
  ∧ (∀ (s : State) (t : Cyc), s.live = true → s.nat Obj.UPD_STATE ≠ 3 →
      (s.nat Obj.DEV_PAIR_C_STATE = 1 → ∃ u, exec (.pairCResume t) s = .next u ∧ u.rd Obj.DEV_PAIR_C_STATE = 0
        ∧ (∀ k < 32, s.natAt Obj.LOOP_IN k 0 ≠ 0xFF →
            u.rdAt Obj.LOOP_STATE k 0 = 1 ∧ (u.loop k).resume = true ∧ (u.loop k).out = (s.loop k).out)
        ∧ u.sess = s.sess ∧ u.video = s.video ∧ u.flue = s.flue ∧ u.nv = s.nv)
      ∧ (s.sys.phase = .running → s.nat Obj.DEV_PAIR_M_STATE = 1 → s.sys.loading = false →
        ∃ u, exec (.pairMResume t) s = .next u ∧ u.rd Obj.DEV_PAIR_M_STATE = 0
          ∧ (s.isSender = true → ∀ c ∈ s.activeChims, ∀ a ∈ s.mapped c, (max s.now t, Tx.openTile c a) ∈ u.out)
          ∧ (s.isSender = false → u.flue = s.flue) ∧ u.sess = s.sess ∧ u.video = s.video ∧ u.nv = s.nv))

/-- R18, R19 and R20: an engine with an uncorrectable error, or one that fails a known-answer test, is retired at
once: it joins the persistent list and reads 2; the share of one that was in service is claimed for the lowest unclaimed
spare, as from the instant of its retirement. One that passes its test changes nothing. (Outside an update's window, which
R425 treats.) R18: a corrected error of an engine in service or spare is counted; the first at a word is remembered, the
second at one word since the engine entered service retires the engine. That a spare which has never been in service is judged
alike is the model's choice (log 131). R20: DEV_ENG_RETIRED_CLEAR answers OK and marks the list for the next power-on; the
list itself stands. -/
def Obligations.EnginesRetire : Prop :=
  (∀ (s : State) (t : Cyc) (pe : Nat) (c : Instr), s.live = true → s.activating = false → pe < 544 → pe ∉ s.nv.retired →
      (c = .engineUe t pe ∨ c = .engineHealthCheck t pe false) →
      (∃ u, exec c s = .next u ∧ pe ∈ u.nv.retired ∧ (∀ x ∈ s.nv.retired, x ∈ u.nv.retired) ∧ u.engine pe = 2
        ∧ (s.engine pe = 0 → ∃ k, k ∈ u.sys.takeovers ∧ k.pe = pe ∧ k.spare = s.sparePool.head? ∧ k.at_ = max s.now t)
        ∧ (∀ x < 544, x ≠ pe → u.engine x = s.engine x)
        ∧ u.sess = s.sess ∧ u.video = s.video ∧ u.flue = s.flue ∧ u.lamp = s.lamp ∧ u.mods = s.mods)
      ∧ exec (.engineHealthCheck t pe true) s = .next { s with now := max s.now t })
  ∧ (∀ (s : State) (t : Cyc) (pe word : Nat) (m : Msg),
      (s.live = true → pe < 544 → s.engine pe < 2 → s.rd Obj.DEV_ENG_CE_COUNT < 4294967295 →
        ((pe, word) ∉ s.sys.engineCe → ∃ u, exec (.engineCorrectedError t pe word) s = .next u
          ∧ u.rd Obj.DEV_ENG_CE_COUNT = s.rd Obj.DEV_ENG_CE_COUNT + 1 ∧ u.sys.engineCe = (pe, word) :: s.sys.engineCe
          ∧ u.nv = s.nv ∧ u.flt = s.flt ∧ u.sess = s.sess ∧ u.flue = s.flue)
        ∧ ((pe, word) ∈ s.sys.engineCe → pe ∉ s.nv.retired → ∃ u, exec (.engineCorrectedError t pe word) s = .next u
          ∧ u.rd Obj.DEV_ENG_CE_COUNT = s.rd Obj.DEV_ENG_CE_COUNT + 1 ∧ pe ∈ u.nv.retired ∧ u.engine pe = 2))
      ∧ (s.Writes t m Obj.DEV_ENG_RETIRED_CLEAR 0 0 (.num 1) → ∃ u, exec (.devEngRetiredClear t m) s = .next u
        ∧ State.Answers u { s.taken t m with nv := { s.nv with clearRetired := true } } m 0x11 (writeReply st.OK)))

/-! ### Arbiters (R26, R27) -/

/-- R26, R27 and R28 for a memory channel or the working store: of the requests that Table 1-9 admits (an input of the
arbiter, a burst within its bound, no ingest write held at a fence), a stream owner that still raises keeps its grant; else, where
something is raised, the evaluation grants one of them and counts it: the highest raised input, but every N-th time the one
raised longest. Nothing else of the device moves. R28 and R188: the egress of a tile's port is evaluated as an own packet is
inserted, with nothing in the frame ahead of it (the command's form is the model's choice, log 133). -/
def Obligations.ArbiterGrants : Prop :=
  (∀ (s : State) (t : Cyc) (id : ArbId) (raised : List ArbReq), s.live = true → (∀ p, id ≠ .egress p) →
      (∀ c, id = .mem c → s.isTile = true → c < 2) →
      let now := max s.now t
      let a := s.arb (arbKey id)
      let asks := raised.filter (s.arbAdmits id)
      let seen := (a.see (asks.map fun q => (q.input, min q.at_ now))).raised
      let same (u : State) : Prop := u = { s with now := now, sys := { s.sys with arbs := u.sys.arbs } }
      ((∃ o, a.owner = some o ∧ arbStream id o = true ∧ ∃ q ∈ asks, q.input = o) →
        ∃ u, exec (.arbiterGrant t id raised) s = .next u ∧ (u.arb (arbKey id)).owner = a.owner
          ∧ (u.arb (arbKey id)).count = a.count ∧ same u)
      ∧ (asks ≠ [] → (∀ o, a.owner = some o → arbStream id o = false ∨ ∀ q ∈ asks, q.input ≠ o) →
        ∃ u w, exec (.arbiterGrant t id raised) s = .next u
          ∧ (u.arb (arbKey id)).owner = some w ∧ (∃ q ∈ asks, q.input = w) ∧ (u.arb (arbKey id)).count = a.count + 1
          ∧ ((a.count + 1) % s.arbN id ≠ 0 → ∀ q ∈ asks, q.input ≤ w)
          ∧ ((a.count + 1) % s.arbN id = 0 → ∃ r ∈ seen, r.1 = w ∧ ∀ q ∈ seen, r.2 ≤ q.2)
          ∧ same u))
  ∧ (∀ (s : State) (t : Cyc) (p : Nat) (raised : List ArbReq), s.live = true → s.isTile = true →
      exec (.arbiterGrant t (.egress p) raised) s = exec (.ownPacketInsert t p 0 false) s)

/-! ### Messages and sessions (R37, R39 to R47, R469) -/

/-- R46: a message to this device whose session is not open, whose tag does not verify or whose epoch differs is
dropped without a reply and counted; it moves no session, so that the timeout runs on. R45: a repeat of the last
accepted SEQ receives the cached reply again and runs nothing a second time; a SEQ that is older is counted as a
replay and gets no reply. (On MGMT or the Flue.) -/
def Obligations.RequestsRunOnce : Prop :=
  (∀ (s : State) (t : Cyc) (m : Msg) (c : Instr), s.live = true → s.pairMUp = true → s.hears m.transport = true →
      m.route = .device → s.genuine m = false → s.rd Obj.DICT_AUTH_FAILS < 4294967295 →
      (c = .keepalive t m ∨ c = .close t m ∨ (∃ w, c = .read t m w) ∨ (∃ v, c = .write t m v) ∨ c = .describe t m
        ∨ (∃ a, c = .lock t m a ∨ c = .unlock t m a) ∨ (∃ a b d e, c = .commit t m a b d e)
        ∨ ∃ a, c = .abort t m a) →
      ∃ u, exec c s = .next u ∧ u.rd Obj.DICT_AUTH_FAILS = s.rd Obj.DICT_AUTH_FAILS + 1
        ∧ u = { s with now := max s.now t, dict := u.dict }
        ∧ ∀ (r : ObjRow) (i j : Nat), r.key i j ≠ Obj.DICT_AUTH_FAILS.key 0 0 → u.rdAt r i j = s.rdAt r i j)
  ∧ (∀ (s : State) (t : Cyc) (m : Msg) (c : Instr), s.live = true → s.pairMUp = true → s.hears m.transport = true →
      m.transport ≠ .svc → m.route = .device → s.genuine m = true → (s.session m.session).busy = none →
      (c = .keepalive t m ∨ c = .close t m ∨ (∃ w, c = .read t m w) ∨ (∃ v, c = .write t m v) ∨ c = .describe t m
        ∨ (∃ a, c = .lock t m a ∨ c = .unlock t m a) ∨ ∃ a b d e, c = .commit t m a b d e) →
      (∀ op r, (s.session m.session).cached = some (op, r) → m.seq = (s.session m.session).seq →
        ∃ u l, exec c s = .next u
          ∧ Flue.Queued u.flue s.flue ∧ (m.transport = .mgmt → u.flue = s.flue)
          ∧ u = { s with now := max s.now t, sess := { s.sess with slots := l }, flue := u.flue, free := u.free,
                         out := (max s.now t, .reply m.transport m.session m.seq op r) :: s.out }
          ∧ (u.session m.session).seq = (s.session m.session).seq)
      ∧ (m.seq < (s.session m.session).seq → s.rd Obj.DICT_REPLAYS < 4294967295 →
        ∃ u, exec c s = .next u ∧ u.rd Obj.DICT_REPLAYS = s.rd Obj.DICT_REPLAYS + 1 ∧ u.out = s.out
          ∧ (u.session m.session).seq = (s.session m.session).seq ∧ u.sess.armed = s.sess.armed ∧ u.shadow = s.shadow
          ∧ u.flt = s.flt ∧ u.nv = s.nv ∧ u.video = s.video ∧ u.flue = s.flue ∧ u.mods = s.mods))

/-- R41: a KEEPALIVE only answers OK, and CLOSE answers OK and ends the session: without a lock its epoch stands, else
the epoch advances and the locks are free; a session without a valid message for the timeout ends abnormally, its
epoch advancing, and not before. -/
def Obligations.SessionsEnd : Prop :=
  ∀ (s : State) (t : Cyc) (m : Msg) (slot : Nat),
    (s.Fresh t m true → ∃ u, exec (.keepalive t m) s = .next u ∧ State.Answers u (s.taken t m) m 0x03 { status := st.OK }
      ∧ (u.session m.session).lastMsg = max s.now t)
    ∧ (s.Fresh t m true → ∃ u, exec (.close t m) s = .next u ∧ (u.session m.session).st = 0
      ∧ (u.session m.session).epoch = (if s.locksOf m.session = [] then (s.session m.session).epoch
          else ((s.session m.session).epoch + 1) % 65536)
      ∧ (∀ k < 64, k ≠ m.session → u.session k = s.session k)
      ∧ (max s.now t, .reply m.transport m.session m.seq 0x02 { status := st.OK }) ∈ u.out)
    ∧ (s.live = true → (s.session slot).isOpen = true →
        ((s.session slot).lastMsg + seconds (s.nat Obj.DICT_SESSION_TIMEOUT) ≤ max s.now t →
          ∃ u, exec (.sessionTimeout t slot) s = .next u ∧ (u.session slot).st = 0
            ∧ (u.session slot).epoch = ((s.session slot).epoch + 1) % 65536
            ∧ (∀ a < 32, s.lockOwner a = slot → u.lockOwner a = 0xFF ∧ bit (u.nat Obj.LOCK_SUSPECT) a = true)
            ∧ ∀ k, k ≠ slot → u.session k = s.session k)
        ∧ (max s.now t < (s.session slot).lastMsg + seconds (s.nat Obj.DICT_SESSION_TIMEOUT) →
          exec (.sessionTimeout t slot) s = .next { s with now := max s.now t }))

/-- R31, R33, R47 and R469 for a READ of one element: an object that does not exist answers NO_OBJECT, to a WRITE too,
a WO or CMD object ACCESS, and any other number that is stored its value in force, or with FLAGS bit 0 the shadow of an RWS
object, in its type's width. Nothing changes. R34: DESCRIBE of an object answers its default (in the form of log 147), its
type and access codes, its attributes, array length and limits, then a unit code that the manual does not number (free,
log 60); of another address NO_OBJECT. -/
def Obligations.ReadsAndDescribes : Prop :=
  (∀ (s : State) (t : Cyc) (m : Msg), s.Fresh t m true → m.count = 1 → m.sub < 256 →
      ((s.taken t m).objAt m.index m.sub = none →
        ∃ u, exec (.read t m none) s = .next u
          ∧ State.Answers u (s.taken t m) m 0x10 { status := st.NO_OBJECT, payload := [(st.NO_OBJECT, none)] }
          ∧ ∀ v, ∃ w, exec (.write t m [v]) s = .next w ∧ State.Answers w (s.taken t m) m 0x11 (writeReply st.NO_OBJECT))
      ∧ ∀ r i j, (s.taken t m).objAt m.index m.sub = some (r, i, j) →
        ((r.acc = .wo ∨ r.acc = .cmd) → ∃ u, exec (.read t m none) s = .next u
          ∧ State.Answers u (s.taken t m) m 0x10 { status := st.ACCESS, payload := [(st.ACCESS, none)] })
        ∧ (r.acc ≠ .wo → r.acc ≠ .cmd → r.ty ≠ .blob → r.ty ≠ .str →
            r ≠ Obj.DEV_CLOCK_STATUS → (s.taken t m).liveValue m.session r i j = none →
            ∃ u, exec (.read t m none) s = .next u
              ∧ State.Answers u (s.taken t m) m 0x10 { status := st.OK, payload := [(st.OK, some (.num r.ty.wire
                  (if m.flags % 2 = 1 ∧ r.acc = .rws then s.shAt r i j else s.rdAt r i j)))] }))
  ∧ (∀ (s : State) (t : Cyc) (m : Msg), s.Fresh t m false →
      ((s.taken t m).objAt m.index m.sub = none → ∃ u, exec (.describe t m) s = .next u
        ∧ State.Answers u (s.taken t m) m 0x12 { status := st.NO_OBJECT })
      ∧ ∀ r i j, (s.taken t m).objAt m.index m.sub = some (r, i, j) →
        ∃ u acc unit, exec (.describe t m) s = .next u
          ∧ State.Answers u (s.taken t m) m 0x12
              ⟨st.OK, [(st.OK, some ((s.taken t m).defaultVal r i j))],
                [(r.ty.code : Nat), acc, if r.stopped then 1 else 0, if r.keep then 1 else 0,
                 if areaOf m.index = 21 then 1 else 0, (r.ns : Nat), r.lo, r.hi, unit], 0⟩
          ∧ (acc = 0 ↔ r.acc = .ro) ∧ (acc = 1 ↔ r.acc = .rw) ∧ (acc = 2 ↔ r.acc = .rws) ∧ (acc = 3 ↔ r.acc = .wo))

/-- R37 for a WRITE of one element: the checks stand in their order, object, role, access, lock, type, range, running
block; the first that fails gives the status, and nothing changes. R47: a write to an RWS number changes that object's
shadow and nothing else, neither its value in force nor another shadow. (A Hearth size also reformats the back image,
R110; it has its own statement.) -/
def Obligations.WritesAreCheckedInOrder : Prop :=
  (∀ (s : State) (t : Cyc) (m : Msg) (v : WVal), s.Fresh t m true → m.count = 1 → m.sub < 256 →
      let a := s.taken t m
      let refuses (q : Nat) : Prop := ∃ u, exec (.write t m [v]) s = .next u ∧ State.Answers u a m 0x11 (writeReply q)
      (a.objAt m.index m.sub = none → refuses st.NO_OBJECT)
      ∧ ∀ r i j, a.objAt m.index m.sub = some (r, i, j) →
        (mayWrite (s.session m.session).role r m.index = false → refuses st.DENIED)
        ∧ (mayWrite (s.session m.session).role r m.index = true →
          (r.acc = .ro → refuses st.ACCESS)
          ∧ (r.acc ≠ .ro →
            (a.lockedFor m.session (areaOf m.index) = true → refuses st.LOCKED)
            ∧ (a.lockedFor m.session (areaOf m.index) = false →
              (fitsType r.ty v = false → refuses st.TYPE)
              ∧ (fitsType r.ty v = true →
                (a.valueOk r i v = false → refuses st.RANGE)
                ∧ (a.valueOk r i v = true → r.stopped = true → a.portRuns i = true → refuses st.BUSY))))))
  ∧ (∀ (s : State) (t : Cyc) (m : Msg) (r : ObjRow) (i j : Nat) (v : Int),
      let m1 := { m with index := r.base + r.stride * i, sub := r.s0 + j, count := 1 }
      s.Writes t m1 r i j (.num v) → r.s0 + j < 256 → r.acc = .rws → r ≠ Obj.HEARTH_WIDTH → r ≠ Obj.HEARTH_HEIGHT →
      ∃ u, exec (.write t m1 [.num v]) s = .next u
        ∧ State.Answers u { s.taken t m1 with shadow := put (r.default j) (r.key i j) v s.shadow } m1 0x11 (writeReply st.OK)
        ∧ u.shAt r i j = v ∧ (∀ (q : ObjRow) (a b : Nat), q.key a b ≠ r.key i j → u.shAt q a b = s.shAt q a b)
        ∧ ∀ (q : ObjRow) (a b : Nat), u.rdAt q a b = s.rdAt q a b)

/-! ### Locks (R59 to R63) -/

/-- R59 and R60 for LOCK and UNLOCK: areas 2 and 31 are refused with DENIED and numbers that name no area with RANGE;
a free lock is taken with the session and its epoch; one that another session holds is refused with LOCKED; the owner
frees it. (At a tile not over SVC, and at a sender whose client holds no forwarded lock, R63.) R59 and R62 through
LOCK_CTRL: writing 1 and 2 act as LOCK and UNLOCK with the same statuses, and 3 clears the area's suspect mark, which
in area 21 a Safety session alone may do. -/
def Obligations.LocksAreTakenAndFreed : Prop :=
  (∀ (s : State) (t : Cyc) (m : Msg) (area : Nat), s.Fresh t m false →
      let a := s.taken t m
      let role := (s.session m.session).role
      let both (q : State) (status : Nat) : Prop :=
        (∃ u, exec (.lock t m area) s = .next u ∧ State.Answers u q m 0x30 { status := status })
      let un (q : State) (status : Nat) : Prop :=
        (∃ u, exec (.unlock t m area) s = .next u ∧ State.Answers u q m 0x31 { status := status })
      ((area = 2 ∨ area = 31) → both a st.DENIED ∧ un a st.DENIED)
      ∧ ((22 ≤ area ∧ area ≠ 31) → both a st.RANGE ∧ un a st.RANGE)
      ∧ (area < 22 → area ≠ 2 → mayLock role area = false → both a st.DENIED ∧ un a st.DENIED)
      ∧ (area < 22 → area ≠ 2 → mayLock role area = true →
        ((s.isTile = true ∧ m.transport = .svc) → both a st.DENIED)
        ∧ (¬ (s.isTile = true ∧ m.transport = .svc) →
          (s.lockOwner area ≠ 0xFF → both a st.LOCKED)
          ∧ (s.lockOwner area = 0xFF → s.sess.fwd = [] →
              both (a.wrAt Obj.LOCK_CTRL 0 area (m.session * 65536 + (s.session m.session).epoch : Nat)) st.OK))
        ∧ (s.lockOwner area = 0xFF → un a st.OK)
        ∧ (s.lockOwner area = m.session → s.lockOwner area ≠ 0xFF → un (a.wrAt Obj.LOCK_CTRL 0 area 0x00FF0000) st.OK)
        ∧ (s.lockOwner area ≠ m.session → s.lockOwner area ≠ 0xFF → un a st.LOCKED)))
  ∧ (∀ (s : State) (t : Cyc) (m : Msg) (area : Nat),
      let a := s.taken t m
      let role := (s.session m.session).role
      let acq (q : State) (status : Nat) : Prop :=
        ∃ u, exec (.lockAcquire t m area) s = .next u ∧ State.Answers u q m 0x11 (writeReply status)
      let rel (q : State) (status : Nat) : Prop :=
        ∃ u, exec (.lockRelease t m area) s = .next u ∧ State.Answers u q m 0x11 (writeReply status)
      (s.Writes t m Obj.LOCK_CTRL 0 area (.num 1) →
        ((area = 2 ∨ area = 31) → acq a st.DENIED)
        ∧ (22 ≤ area → area ≠ 31 → acq a st.RANGE)
        ∧ (area < 22 → area ≠ 2 → mayLock role area = false → acq a st.DENIED)
        ∧ (area < 22 → area ≠ 2 → mayLock role area = true →
          ((s.isTile = true ∧ m.transport = .svc) → acq a st.DENIED)
          ∧ (¬ (s.isTile = true ∧ m.transport = .svc) →
            (s.lockOwner area ≠ 0xFF → acq a st.LOCKED)
            ∧ (s.lockOwner area = 0xFF → s.sess.fwd = [] →
                acq (a.wrAt Obj.LOCK_CTRL 0 area (m.session * 65536 + (s.session m.session).epoch : Nat)) st.OK))))
      ∧ (s.Writes t m Obj.LOCK_CTRL 0 area (.num 2) →
        ((area = 2 ∨ area = 31) → rel a st.DENIED)
        ∧ (22 ≤ area → area ≠ 31 → rel a st.RANGE)
        ∧ (area < 22 → area ≠ 2 → mayLock role area = false → rel a st.DENIED)
        ∧ (area < 22 → area ≠ 2 → mayLock role area = true →
          (s.lockOwner area = 0xFF → rel a st.OK)
          ∧ (s.lockOwner area = m.session → s.lockOwner area ≠ 0xFF → rel (a.wrAt Obj.LOCK_CTRL 0 area 0x00FF0000) st.OK)
          ∧ (s.lockOwner area ≠ m.session → s.lockOwner area ≠ 0xFF → rel a st.LOCKED)))
      ∧ (s.Writes t m Obj.LOCK_CTRL 0 area (.num 3) → area < 22 → area ≠ 2 →
        ((area = 21 ∧ role = .safety) ∨ (area ≠ 21 ∧ (role = .integrator ∨ role = .vendor))) →
        ∃ u, exec (.lockClearSuspect t m area) s = .next u ∧ State.Answers u
          (a.wr Obj.LOCK_SUSPECT (setBit (s.nat Obj.LOCK_SUSPECT) area false : Nat)) m 0x11 (writeReply st.OK)))

/-! ### Commits (R47 to R54, R471, R472) -/

/-- R48 to R51 and R60 for a COMMIT, and for COMMIT_GO with the session's commit objects, to a device alone: a scope
that sets bit 2 or a bit from 22 up, or a chimney mask in a tile, is refused with RANGE, then a role that may not
commit it with DENIED, a locked area with LOCKED, a target below WFC plus the lead with LATE; else the validated
shadows of the scope are armed for the target under the next commit ID, and the reply carries that ID (IDs count up from 1: the
model's choice, log 139). R43 and R48: COMMIT_GO is a COMMIT from the objects 0x1F00.00 to .03 of the writing session. -/
def Obligations.CommitArmsTheShadows : Prop :=
  (∀ (s : State) (t : Cyc) (m : Msg) (scope chims flags target : Nat), s.Fresh t m false →
      let a := s.taken t m
      let role := (s.session m.session).role
      let lead := s.nat Obj.WFC + s.nat Obj.COMMIT_LEAD
      let aim := if target % 2 ^ 48 = 0 then lead else target % 2 ^ 48
      let refuses (q : State) (status : Nat) : Prop := ∃ u, exec (.commit t m scope chims flags target) s = .next u
        ∧ State.Answers u q m 0x20 { status := status }
      ((badScope scope = true ∨ (s.isTile = true ∧ chims % 256 ≠ 0)) → refuses a st.RANGE)
      ∧ (badScope scope = false → (s.isTile = true → chims % 256 = 0) →
        (mayCommit role scope = false → refuses a st.DENIED)
        ∧ (mayCommit role scope = true →
          (a.scopeLocked m.session scope = true → refuses a st.LOCKED)
          ∧ (a.scopeLocked m.session scope = false →
            (aim < lead → refuses (a.wr Obj.COMMIT_STATE 4) st.LATE)
            ∧ (lead ≤ aim → chims % 256 = 0 → a.vetSet scope aim = none →
              ∃ u, exec (.commit t m scope chims flags target) s = .next u
                ∧ (u.session m.session).cached = some (0x20, { status := st.OK, id := (s.sess.nextId + 1) % 2 ^ 32 })
                ∧ u.sess.armed = s.sess.armed ++ [ArmedSet.mk ((s.sess.nextId + 1) % 2 ^ 32) scope aim
                    (s.nat Obj.COMMIT_GENERATION) (s.snapNums scope) (s.snapBlobs scope) (s.snapSize scope)]
                ∧ u.rd Obj.COMMIT_STATE = 1 ∧ u.nat Obj.COMMIT_ID = (s.sess.nextId + 1) % 2 ^ 32
                ∧ u.shadow = s.shadow ∧ u.video = s.video ∧ u.nv = s.nv
                ∧ (s.isSender = false → Flue.Queued u.flue s.flue ∧ u.time = s.time))))))
  ∧ (∀ (s : State) (t : Cyc) (m : Msg), s.Writes t m Obj.COMMIT_GO 0 0 (.num 1) →
      let a := s.taken t m
      let x := s.session m.session
      let lead := s.nat Obj.WFC + s.nat Obj.COMMIT_LEAD
      let aim := if x.target % 2 ^ 48 = 0 then lead else x.target % 2 ^ 48
      x.chims % 256 = 0 → badScope x.scope = false → mayCommit x.role x.scope = true →
      a.scopeLocked m.session x.scope = false → lead ≤ aim → a.vetSet x.scope aim = none →
      ∃ u, exec (.commitGo t m) s = .next u ∧ (u.session m.session).cached = some (0x11, writeReply st.OK)
        ∧ u.sess.armed = s.sess.armed ++ [ArmedSet.mk ((s.sess.nextId + 1) % 2 ^ 32) x.scope aim
            (s.nat Obj.COMMIT_GENERATION) (s.snapNums x.scope) (s.snapBlobs x.scope) (s.snapSize x.scope)]
        ∧ u.rd Obj.COMMIT_STATE = 1 ∧ u.nat Obj.COMMIT_ID = (s.sess.nextId + 1) % 2 ^ 32
        ∧ u.shadow = s.shadow ∧ u.video = s.video ∧ u.nv = s.nv
        ∧ (s.isSender = false → Flue.Queued u.flue s.flue ∧ u.time = s.time))

/-- R52 and R53, the sender: a wall-wide commit whose tiles are all reachable sends ARM with the next ID and
generation on every masked chimney and waits for each mapped tile; with an unreachable one and flag bit 3 clear it is
aborted. (IDs count up from 1, and the messages to the tiles of a chimney have one count of SEQ: the model's choices, logs 139
and 136.) R52 steps 5 and 6, the sender: an ARMED reply ends the wait for its tile; the refusal of a tile waited for marks it in
0x1F02 and aborts at once, and so does a reply that is missing at the boundary before the target: the sets are discarded,
ABORT leaves on every masked chimney, and 7 more copies, each with the SEQ of its first one, follow at 100 us. R53: the refusal
of a tile left out of that wait marks it and aborts nothing. -/
def Obligations.WallCommitsArmAndAbort : Prop :=
  (∀ (s : State) (t : Cyc) (m : Msg) (scope chims flags target : Nat), s.Fresh t m false → s.isSender = true →
      let a := s.taken t m
      let lead := s.nat Obj.WFC + s.nat Obj.COMMIT_LEAD
      let aim := if target % 2 ^ 48 = 0 then lead else target % 2 ^ 48
      let id : Nat := (s.sess.nextId + 1) % 2 ^ 32
      let gen : Nat := (s.nat Obj.COMMIT_GENERATION + 1) % 2 ^ 32
      chims % 256 ≠ 0 → badScope scope = false → mayCommit (s.session m.session).role scope = true →
      a.scopeLocked m.session scope = false → lead ≤ aim → (bit flags 2 = true → a.vetSet scope aim = none) →
      ((∀ q ∈ s.wallTiles (chims % 256), s.unreachable q.1 q.2 = false) →
        ∃ u, exec (.commit t m scope chims flags target) s = .next u
          ∧ (u.session m.session).cached = some (0x20, { status := st.OK, id := id })
          ∧ (∀ c < 8, bit (chims % 256) c = true → (max s.now t, Tx.toTiles c 0xFF 0x21 ((s.chim c).seq + 1)
              [(id : Int), (scope : Int), (aim : Int), (gen : Int)]) ∈ u.out)
          ∧ (∃ w ∈ u.sess.walls, w.id = id ∧ w.live = true ∧ w.waiting = s.wallTiles (chims % 256) ∧ w.gen = gen)
          ∧ u.sess.armed.length = s.sess.armed.length + (if bit flags 2 then 1 else 0)
          ∧ u.rd Obj.COMMIT_STATE = 1 ∧ u.nat Obj.COMMIT_ID = id)
      ∧ ((∃ q ∈ s.wallTiles (chims % 256), s.unreachable q.1 q.2 = true) → bit flags 3 = false →
        ∃ u, exec (.commit t m scope chims flags target) s = .next u
          ∧ (u.session m.session).cached = some (0x20, { status := st.ABORTED, id := id })
          ∧ u.sess.armed = s.sess.armed ∧ u.rd Obj.COMMIT_STATE = 3 ∧ u.sess.walls = s.sess.walls))
  ∧ (∀ (s : State) (t : Cyc) (c a id : Nat) (w : WallCommit), s.live = true → s.isSender = true →
      (s.sess.walls.find? (fun x => x.id == id) = some w →
        (∃ u, exec (.armReply t c a id true) s = .next u ∧ u.sess.armed = s.sess.armed
          ∧ (∀ x ∈ u.sess.walls, x.id = id → (c, a) ∉ x.waiting ∧ (c, a) ∈ x.armed)
          ∧ u.video = s.video ∧ u.nv = s.nv ∧ u.time = s.time ∧ u.flt = s.flt ∧ u.out = s.out)
        ∧ (w.live = true → (c, a) ∈ w.waiting → ∃ u, exec (.armReply t c a id false) s = .next u
          ∧ u.sess.armed = s.sess.armed.filter (fun x => x.id != id)
          ∧ (∀ x ∈ u.sess.walls, x.id = id → x.live = false)
          ∧ (∀ k < 8, bit w.mask k = true → (max s.now t, Tx.toTiles k 0xFF 0x22 ((s.chim k).seq + 1) [(id : Int)]) ∈ u.out)
          ∧ ∃ r ∈ u.sess.aborts, r.id = id ∧ r.left = 7 ∧ r.next = max s.now t + us 100
              ∧ ∀ k < 8, bit w.mask k = true → (k, (s.chim k).seq + 1) ∈ r.seqs)
        ∧ ((c, a) ∉ w.waiting → ∃ u, exec (.armReply t c a id false) s = .next u ∧ u.sess = s.sess ∧ u.out = s.out
          ∧ (c < 8 → 1 ≤ a → a ≤ 128 → u.tileBit Obj.COMMIT_TILE_EXCEPT c a = true)))
      ∧ (∃ u, exec (.armReplyDeadline t) s = .next u
          ∧ (∀ x ∈ u.sess.walls, x.live = true → x.waiting = [] ∨ s.nat Obj.WFC + 1 < x.target)
          ∧ u.video = s.video ∧ u.nv = s.nv ∧ u.flt = s.flt)
      ∧ (∀ r : AbortRun, s.sess.aborts = [r] → r.next ≤ max s.now t →
        ∃ u, exec (.abortRepeat t) s = .next u
          ∧ (∀ q ∈ r.seqs, (max s.now t, Tx.toTiles q.1 0xFF 0x22 q.2 [(r.id : Int)]) ∈ u.out)
          ∧ u.sess.aborts = (if r.left ≤ 1 then [] else [{ r with left := r.left - 1, next := r.next + us 100 }])
          ∧ u.sess.armed = s.sess.armed ∧ u.dict = s.dict ∧ u.time = s.time))

/-- R52, a tile: ARM in session 0 with a target at or before the next boundary is LATE and raises wfc-commit-late; a
validated one arms the shadows for that target under the sender's ID and generation; ABORT before the target discards
the sets with its ID, and a copy of it that comes again changes nothing more. -/
def Obligations.TilesArmAndAbort : Prop :=
  ∀ (s : State) (t : Cyc) (m : Msg) (id scope target gen : Nat), m.session = 0 → s.isTile = true →
    (s.Fresh t m false → target % 2 ^ 48 ≤ s.nat Obj.WFC + 1 →
      ∃ u, exec (.arm t m id scope target gen) s = .next u ∧ (u.session 0).cached = some (0x21, { status := st.LATE, id := id })
        ∧ u.rd Obj.COMMIT_STATE = 4 ∧ u.nat Obj.COMMIT_ID = id ∧ u.sess.armed = s.sess.armed
        ∧ (s.flt.running = true → ∃ e ∈ u.flt.queue, e.src = 0x79))
    ∧ (s.Fresh t m false → s.nat Obj.WFC + 1 < target % 2 ^ 48 →
      ((s.taken t m).wr Obj.COMMIT_ID id).vetSet scope (target % 2 ^ 48) = none →
      ∃ u, exec (.arm t m id scope target gen) s = .next u ∧ (u.session 0).cached = some (0x21, { status := st.OK, id := id })
        ∧ u.sess.armed = s.sess.armed ++ [ArmedSet.mk id scope (target % 2 ^ 48) gen (s.snapNums scope)
            (s.snapBlobs scope) (s.snapSize scope)]
        ∧ u.rd Obj.COMMIT_STATE = 1 ∧ u.nat Obj.COMMIT_ID = id)
    ∧ (s.live = true → s.pairMUp = true → s.hears m.transport = true → s.genuine m = true →
        max (s.session 0).seq (s.session 0).oneWay < m.seq → (s.session 0).closing = false →
      ∃ u, exec (.abort t m id) s = .next u ∧ u.sess.armed = s.sess.armed.filter (fun a => a.id != id)
        ∧ (u.session 0).oneWay = m.seq ∧ u.out = s.out
        ∧ ((∃ a ∈ s.sess.armed, a.id = id) → s.nat Obj.COMMIT_ID = id → u.rd Obj.COMMIT_STATE = 3)
        ∧ u.video = s.video ∧ u.nv = s.nv ∧ u.lamp = s.lamp ∧ u.shadow = s.shadow)

/-! ### Chimneys at the sender (R54, R105, R123, R124, R185, R195, R209, R367, R472) -/

/-- R123 and R367: bringing a configured chimney up, and the periodic repeat a second later, queues ASSIGN on both its
ports, HOP 1 in direction A and the number of tiles in direction B with the map bits; the bring-up also opens session
0 at every mapped tile. R123, R124 and R174: an ASSIGN names the tile's address on its path, the A direction also its
port as path A, and goes on from the other port with the hop counted on. A tile that has no schedule yet, and so no
boundary to wait for, takes the address that its two paths agree on at once (the model's choice, log 134). -/
def Obligations.AddressesAreAssigned : Prop :=
  (∀ (s : State) (t : Cyc) (c : Nat), s.live = true → s.isSender = true → chimneyOn s.rdAt c = true →
      let sent (u : State) : Prop :=
        (∃ k ∈ (u.egress (s.natAt Obj.CHIM_PORT_A 0 c)).queue, k.typ = 0x24 ∧ k.words = [1, 0, (s.mapBits c : Int)])
        ∧ (∃ k ∈ (u.egress (s.natAt Obj.CHIM_PORT_B 0 c)).queue, k.typ = 0x24
            ∧ k.words = [(s.natAt Obj.WALL_CHIM_TILES 0 c : Int), 1, (s.mapBits c : Int)])
        ∧ (u.chim c).lastAssign = some (max s.now t)
        ∧ u.sess = s.sess ∧ u.video = s.video ∧ u.nv = s.nv ∧ u.dict = s.dict
      (s.pairMUp = true → ∃ u, exec (.chimneyBringUp t c) s = .next u ∧ sent u
        ∧ ∀ a ∈ s.mapped c, (max s.now t, Tx.openTile c a) ∈ u.out)
      ∧ ∀ t0, (s.chim c).lastAssign = some t0 →
        (t0 + seconds 1 ≤ max s.now t → ∃ u, exec (.assignPeriodic t c) s = .next u ∧ sent u)
        ∧ (max s.now t < t0 + seconds 1 → exec (.assignPeriodic t c) s = .next { s with now := max s.now t }))
  ∧ (∀ (s : State) (t : Cyc) (port hop bits : Nat), s.live = true → s.isTile = true → port < 2 →
      let map : List (Bool × Nat) := [(false, bits % 2 ^ 64), (false, bits / 2 ^ 64 % 2 ^ 64)]
      let settled (u : State) : Prop := (s.time.sched = none → u.nat Obj.TILE_ADDRESS = u.paths.address.1)
        ∧ (s.time.sched ≠ none → u.nat Obj.TILE_ADDRESS = s.nat Obj.TILE_ADDRESS)
        ∧ u.sess = s.sess ∧ u.video = s.video ∧ u.lamp = s.lamp ∧ u.nv = s.nv
      (∃ u, exec (.assign t port hop false bits) s = .next u ∧ u.nat Obj.TILE_A_PORT = port ∧ u.paths.aAddr = some hop
        ∧ u.paths.aOn = (decide (1 ≤ hop) && bit bits (hop - 1)) ∧ u.paths.bAddr = s.paths.bAddr
        ∧ (max s.now t, Tx.packet (1 - port) ((true, packetHeader 0x24 6 2 0xFF 0 false (min (hop + 1) 255 * 2 ^ 25)) :: map))
            ∈ u.out
        ∧ settled u)
      ∧ (∃ u, exec (.assign t port hop true bits) s = .next u ∧ u.paths.bAddr = some hop
        ∧ u.paths.bOn = (decide (1 ≤ hop) && bit bits (hop - 1)) ∧ u.paths.aAddr = s.paths.aAddr
        ∧ u.nat Obj.TILE_A_PORT = (if s.nat Obj.TILE_A_PORT = 0xFF then 1 - port else s.nat Obj.TILE_A_PORT)
        ∧ (max s.now t, Tx.packet (1 - port)
            ((true, packetHeader 0x24 6 2 0xFF 0 true ((hop - 1) % 256 * 2 ^ 25 + 2 ^ 24)) :: map)) ∈ u.out
        ∧ settled u))

/-- R367 and R364: the sender takes the epoch of session 0 from the OPEN reply, and the session is open to it from
then on. (The reply's last segment ends its first complete copy.) -/
def Obligations.SessionZeroOpensWithTheReply : Prop :=
  ∀ (s : State) (t : Cyc) (c p : Nat) (pathB : Bool) (g : CtrlSeg) (x : Asm), s.live = true → s.isSender = true →
    s.chimneyOf p = some (c, pathB) → g.src ∈ s.mapped c → g.dst = 0 → g.complete = true → g.last = true → g.seg ≠ 0 →
    s.flue.asm.find? (fun y => y.is (c * 256 + g.src) g.pathB g.msgId) = some x → x.next = g.seg →
    (s.upTo t).wasPassed (c * 256 + g.src) g.msgId = false →
    s.flue.refused.contains (c * 256 + g.src, g.pathB, g.msgId) = false →
    let b := x.bytes ++ g.bytes
    let sig := 24 + 131 + (byteAt b 24 * 256 + byteAt b 25)
    byteAt b 1 = 0x81 → byteAt b 18 = st.OK → byteAt b sig = 0 →
    ∃ u, exec (.ctrl t p g) s = .next u ∧ (u.tile c g.src).s0open = true
      ∧ (u.tile c g.src).s0epoch = byteAt b (sig + 2) * 256 + byteAt b (sig + 3) ∧ (u.tile c g.src).s0seq = 0
      ∧ (u.tile c g.src).status = (s.tile c g.src).status ∧ (∀ a, a ≠ g.src → u.tile c a = s.tile c a)
      ∧ u.sess = s.sess ∧ u.dict = s.dict ∧ u.out = s.out ∧ u.video = s.video ∧ u.nv = s.nv

/-- R124, R194 and R195: the path A ASSIGN that comes back after all tiles reports their number, at most 129, and
closes the ring if it is back within 10 ms; a number that differs from WALL_CHIM_TILES holds map-mismatch; without the
return in 10 ms the ring is open and chimney-open is held. R105 and R122: where the compositor has not ready the next line
packet that no path has sent and whose departure deadline has come, it is withheld on both paths of its chimney, counted and
raised as compositor-late; before that deadline nothing happens. R185: a CREDIT of a tile
moves each freed count to the later of the two modulo 2^16. -/
def Obligations.RingsAndCreditsAreKept : Prop :=
  (∀ (s : State) (t : Cyc) (c hop : Nat), s.live = true → s.isSender = true → c < 8 →
      (chimneyOn s.rdAt c = true → ∃ u, exec (.assignReturn t c hop false) s = .next u
        ∧ u.natAt Obj.WALL_CHIM_FOUND 0 c = min (hop - 1) 129
        ∧ (0x3A * 65536 + (256 + c) ∈ u.flt.conds ↔ min (hop - 1) 129 ≠ s.natAt Obj.WALL_CHIM_TILES 0 c)
        ∧ (∀ t0, (s.chim c).left = some t0 → max s.now t ≤ t0 + ms 10 →
            (u.chim c).left = none ∧ 0x10 * 65536 + c ∉ u.flt.conds
              ∧ (u.natAt Obj.CHIM_STATE 0 c = 2 ∨ u.natAt Obj.CHIM_STATE 0 c = 3))
        ∧ u.sess = s.sess ∧ u.video = s.video ∧ u.nv = s.nv ∧ u.out = s.out)
      ∧ (∀ t0, (s.chim c).left = some t0 → t0 + ms 10 ≤ max s.now t →
        ∃ u, exec (.ringCloseTimeout t c) s = .next u ∧ (u.chim c).left = none ∧ 0x10 * 65536 + c ∈ u.flt.conds
          ∧ u.natAt Obj.CHIM_STATE 0 c ≠ 2 ∧ u.sess = s.sess ∧ u.video = s.video ∧ u.nv = s.nv ∧ u.out = s.out))
  ∧ (∀ (s : State) (t : Cyc) (c a a7 a6 a0 b7 b6 b0 : Nat), s.live = true → s.isSender = true → c < 8 →
      (chimneyOn s.rdAt c = true → s.activating = false → s.rd Obj.COMP_LATE_PACKETS < 4294967295 →
        ∀ q i, (((lineSequence s.rdAt c).zipIdx.drop (max (s.egress (s.natAt Obj.CHIM_PORT_A 0 c)).lineAt
            (s.egress (s.natAt Obj.CHIM_PORT_B 0 c)).lineAt)).find? fun x => !(s.chim c).skip.contains x.1) = some (q, i) →
        (s.deadline c i ≤ (s.upTo t).wall18 → ∃ u, exec (.compositorDeadlineMiss t c) s = .next u
          ∧ u.rd Obj.COMP_LATE_PACKETS = s.rd Obj.COMP_LATE_PACKETS + 1 ∧ u.withheld c q.2 q.1 = true
          ∧ (s.flt.running = true → ∃ e ∈ u.flt.queue, e.src = 0x38 ∧ e.unit = c)
          ∧ u.sess = s.sess ∧ u.video = s.video ∧ u.nv = s.nv ∧ u.out = s.out)
        ∧ ((s.upTo t).wall18 < s.deadline c i →
          exec (.compositorDeadlineMiss t c) s = .next { s with now := max s.now t }))
      ∧ (1 ≤ a → a ≤ 128 → ∃ u, exec (.credit t c a a7 a6 a0 b7 b6 b0) s = .next u
          ∧ (u.tile c a).freed = List.zipWith laterCount (s.tile c a).freed [a7, a6, a0, b7, b6, b0]
          ∧ (∀ d b, d * 256 + b ≠ c * 256 + a → u.tile d b = s.tile d b)
          ∧ u = { s with now := max s.now t, flue := { s.flue with tiles := u.flue.tiles } }))

/-- R209: a STATUS of a mapped tile gives its paths' reachability and is kept; without one for 100 ms both paths are
unreachable, and a tile that had been reachable holds tile-lost; one whose entry has been in force for 10 s without a
first STATUS holds it too. R54 and R472: more than a commit lead after the target of the wall-wide commit that set the
sender's generation, a tile that still reports another generation is divergent: its 0x1F02 bit is set and wall-divergence held. -/
def Obligations.TilesAreMonitored : Prop :=
  (∀ (s : State) (t : Cyc) (c a : Nat) (p : StatusPkt), s.live = true → s.isSender = true → c < 8 → a ∈ s.mapped c →
      (p.src = a → ∃ u, exec (.status t c p) s = .next u ∧ (u.tile c a).status = some p ∧ (u.tile c a).statusAt = max s.now t
        ∧ u.tileBit Obj.CHIM_REACH_A c a = bit p.flags 7 ∧ u.tileBit Obj.CHIM_REACH_B c a = bit p.flags 6
        ∧ u.video = s.video ∧ u.nv = s.nv ∧ u.time = s.time)
      ∧ ((s.tile c a).status.isSome = true → (s.tile c a).statusAt + ms 100 ≤ max s.now t →
        ∃ u, exec (.reachTimeout t c a) s = .next u ∧ u.unreachable c a = true
          ∧ ((s.tile c a).reached = true → (s.tile c a).lost = false →
              (u.tile c a).lost = true ∧ 0x11 * 65536 + (c * 256 + a) ∈ u.flt.conds)
          ∧ u.sess = s.sess ∧ u.video = s.video ∧ u.nv = s.nv)
      ∧ (∀ t0, (s.tile c a).entryAt = some t0 → (s.tile c a).status = none → (s.tile c a).silent = false →
        t0 + seconds 10 ≤ max s.now t → ∃ u, exec (.firstStatusTimeout t c a) s = .next u ∧ (u.tile c a).silent = true
          ∧ 0x11 * 65536 + (c * 256 + a) ∈ u.flt.conds ∧ u.sess = s.sess ∧ u.dict = s.dict ∧ u.video = s.video))
  ∧ (∀ (s : State) (t : Cyc) (c a : Nat) (p : StatusPkt), s.live = true → s.isSender = true → c < 8 → a ∈ s.mapped c →
      (s.tile c a).status = some p → p.gen ≠ s.nat Obj.COMMIT_GENERATION →
      (s.sess.genAt + s.nat Obj.COMMIT_LEAD < s.nat Obj.WFC →
        ∃ u, exec (.commitDivergenceTimeout t c a) s = .next u ∧ u.tileBit Obj.COMMIT_TILE_EXCEPT c a = true
          ∧ 0x7A * 65536 + (c * 256 + a) ∈ u.flt.conds ∧ (c, a) ∈ u.sess.waitExcept
          ∧ u.sess.armed = s.sess.armed ∧ u.flue = s.flue ∧ u.video = s.video ∧ u.nv = s.nv)
      ∧ (s.nat Obj.WFC ≤ s.sess.genAt + s.nat Obj.COMMIT_LEAD →
        exec (.commitDivergenceTimeout t c a) s = .next { s with now := max s.now t }))

/-! ### Paths at a tile (R123, R124, R174, R196 to R208) -/

/-- R176: a line packet's blocks read back as what it says. R198 to R203: an intact copy of an own line on the preferred path, in an open frame and not yet settled, is
selected at once, kept and counted; a line packet of the tile whose frame is not open is late; a line that comes back
to the sender is counted for its chimney. R204 and R205: when path A has stayed clean for the hold-off, the preference
returns to it and is counted, unless PATH_FORCE holds a path; PATH_FORCE 1 or 2 holds path A or B at once, and leaving
it with 0 keeps the path in use. -/
def Obligations.LinesAreSelected : Prop :=
  (∀ p : LinePkt, 1 ≤ p.addr → p.addr ≤ 128 → p.line < 512 → 1 ≤ p.wq → p.wq < 128 → p.frame < 256 →
      p.pixels.length = 4 * (p.wq + 1) → (∀ q ∈ p.pixels, q.1 < 65536 ∧ q.2.1 < 65536 ∧ q.2.2 < 65536) →
      p.spans.length ≤ 7 → (∀ q ∈ p.spans, q.1 < 512 ∧ q.2 < 512) → p.unusedZero = true → p.complete = true →
      linePktOf ⟨lineWords p, true⟩ = p)
  ∧ (∀ (s : State) (t : Cyc) (port : Nat) (x : LineCopy), s.live = true →
      let p := linePktOf x
      (∀ f own, s.isTile = true → s.deadPort port = false → s.pathOf port = some p.pathB → s.nat Obj.TILE_ADDRESS = own → own ≠ 0 → p.addr = own →
        p.complete = true → p.unusedZero = true → 4 * (p.wq + 1) = s.nat Obj.TILE_WIDTH → p.line < s.nat Obj.TILE_HEIGHT →
        validSpans (s.nat Obj.TILE_WIDTH) none p.spans = true → p.spans.length ≤ 7 →
        s.paths.frames = [f] → f.k % 256 = p.frame → s.prefers = p.pathB →
        (∀ y < p.line, ((f.line y).copy p.pathB).st ≠ 0) → f.line p.line = {} →
        ∃ u g, exec (.line t port x) s = .next u ∧ u.paths.frames = [g] ∧ g.k = f.k
          ∧ (g.line p.line).pick = some (if p.pathB then 1 else 0)
          ∧ ((g.line p.line).copy p.pathB).px = p.pixels ∧ ((g.line p.line).copy p.pathB).spans = p.spans
          ∧ u.paths.lines = s.paths.lines ∧ u.sess = s.sess ∧ u.lamp = s.lamp ∧ u.nv = s.nv ∧ u.out = s.out)
      ∧ (s.isTile = true → s.deadPort port = false → s.pathOf port ≠ none → p.addr = s.nat Obj.TILE_ADDRESS → p.addr ≠ 0 → p.complete = true →
        s.paths.frames = [] → s.rd Obj.PATH_LATE < 4294967295 →
        ∃ u, exec (.line t port x) s = .next u ∧ u.rd Obj.PATH_LATE = s.rd Obj.PATH_LATE + 1 ∧ u.paths.lines = s.paths.lines
          ∧ (s.flt.running = true → ∃ e ∈ u.flt.queue, e.src = 0x0F ∧ e.value = p.line)
          ∧ u.sess = s.sess ∧ u.lamp = s.lamp ∧ u.nv = s.nv ∧ u.out = s.out)
      ∧ (∀ c pathB, s.isSender = true → s.chimneyOf port = some (c, pathB) → s.rdAt Obj.CHIM_LINES_RETURNED 0 c < 4294967295 →
        ∃ u, exec (.line t port x) s = .next u
          ∧ u.rdAt Obj.CHIM_LINES_RETURNED 0 c = s.rdAt Obj.CHIM_LINES_RETURNED 0 c + 1
          ∧ u = { s with now := max s.now t, dict := u.dict }))
  ∧ (∀ (s : State) (t : Cyc) (m : Msg) (v : Nat),
      (∀ t0 h, s.live = true → s.isTile = true → s.paths.holdoff = some (t0, h) → s.paths.prefB = true →
        s.nat Obj.PATH_FORCE = 0 → s.rd Obj.PATH_RETURNS < 4294967295 →
        (t0 + seconds h ≤ max s.now t → ∃ u, exec (.pathHoldoffExpiry t) s = .next u ∧ u.prefers = false
          ∧ u.paths.holdoff = none ∧ max s.now t ∈ u.paths.returns ∧ u.rd Obj.PATH_RETURNS = s.rd Obj.PATH_RETURNS + 1
          ∧ u.paths.lines = s.paths.lines ∧ u.sess = s.sess ∧ u.lamp = s.lamp ∧ u.nv = s.nv ∧ u.out = s.out)
        ∧ (max s.now t < t0 + seconds h → exec (.pathHoldoffExpiry t) s = .next { s with now := max s.now t }))
      ∧ (s.Writes t m Obj.PATH_FORCE 0 0 (.num v) → ∃ u, exec (.pathForce t m v) s = .next u
        ∧ (u.session m.session).cached = some (0x11, writeReply st.OK) ∧ u.nat Obj.PATH_FORCE = v
        ∧ u.prefers = (if v = 1 then false else if v = 2 then true else s.prefers)
        ∧ u.paths.lines = s.paths.lines ∧ u.lamp = s.lamp ∧ u.nv = s.nv ∧ u.flt = s.flt))

/-- R185, R188, R190 and R208: an addressed tile queues STATUS on both ports at the first frame boundary 20 ms after the last,
and 1 ms after it when a path flag has changed; CREDIT goes on both ports 100 us after a count has advanced; without an address
none of them is queued. R185: the BOOT flag ends after its second. -/
def Obligations.TilesReport : Prop :=
  ∀ (s : State) (t t0 b : Cyc), s.live = true → s.isTile = true →
    let queued (u : State) (typ : Nat) (words : List Int) : Prop :=
      (∃ k ∈ (u.egress 0).queue, k.typ = typ ∧ k.words = words) ∧ (∃ k ∈ (u.egress 1).queue, k.typ = typ ∧ k.words = words)
      ∧ u.dict = s.dict ∧ u.sess = s.sess ∧ u.flt = s.flt ∧ u.lamp = s.lamp ∧ u.nv = s.nv ∧ u.out = s.out
    (s.nat Obj.TILE_ADDRESS ≠ 0 → s.paths.statusAt = some t0 →
      (s.time.boundaryAt = some b →
        (t0 + ms 20 ≤ b → ∃ u, exec (.statusPeriodic t) s = .next u ∧ queued u 0x48 s.statusWords
          ∧ u.paths.statusAt = some (max s.now t) ∧ u.paths.statusDue = false)
        ∧ (b < t0 + ms 20 → exec (.statusPeriodic t) s = .next { s with now := max s.now t }))
      ∧ (s.paths.statusDue = true → t0 + ms 1 ≤ max s.now t → ∃ u, exec (.pathFlagsStatus t) s = .next u
        ∧ queued u 0x48 s.statusWords ∧ u.paths.statusAt = some (max s.now t) ∧ u.paths.statusDue = false)
      ∧ (s.paths.statusDue = false ∨ max s.now t < t0 + ms 1 →
        exec (.pathFlagsStatus t) s = .next { s with now := max s.now t }))
    ∧ (s.nat Obj.TILE_ADDRESS ≠ 0 → s.paths.creditDue = some t0 →
      (t0 + us 100 ≤ max s.now t → ∃ u, exec (.tileCreditTimer t) s = .next u
        ∧ queued u 0x26 (s.paths.freed.map Int.ofNat) ∧ u.paths.creditSent = s.paths.freed ∧ u.paths.creditDue = none)
      ∧ (max s.now t < t0 + us 100 → exec (.tileCreditTimer t) s = .next { s with now := max s.now t }))
    ∧ (s.nat Obj.TILE_ADDRESS = 0 → ∀ c, (c = .statusPeriodic t ∨ c = .pathFlagsStatus t ∨ c = .tileCreditTimer t) →
      ∃ u, exec c s = .next u ∧ u.flue.egress = s.flue.egress ∧ u.dict = s.dict ∧ u.out = s.out)
    ∧ (s.paths.bootUntil = some t0 →
      (t0 ≤ max s.now t → ∃ u, exec (.bootFlagEnd t) s = .next u ∧ u.paths.bootUntil = none ∧ u.paths.booted = true
        ∧ u = { s with now := max s.now t, flue := { s.flue with paths := u.flue.paths } })
      ∧ (max s.now t < t0 → exec (.bootFlagEnd t) s = .next { s with now := max s.now t }))

/-! ### Sources, ingest and layer buffers (R68 to R94) -/

/-- R69, R73, R74 and R80: SETUP on a bound port with VERSION 1 and the slot's format starts the streaming state,
CONSUMED and FREED at 0 and nothing open, and is acknowledged with the ring depth; an unbound port, another version or
another format is refused with reasons 2, 3 and 1, raised as ingest-setup-refused; other packets at an unbound port
change nothing. R77 and R78: in the streaming state a FRAME_REQ with nothing open grants the ring's next buffer with
its GEN raised; while the open buffer has taken no data the same grant goes again; one that has taken data is discarded
first; before SETUP_ACK the answer is RESET with reason 9. R73: what the sender answers waits in class 6 of the port. -/
def Obligations.SetupsAndFramesAreGranted : Prop :=
  (∀ (s : State) (t : Cyc) (h : IngHdr) (f : PlaneFormat), s.live = true → s.isSender = true → h.bad = false →
      let waits (u : State) (typ : Nat) (words : List Nat) : Prop :=
        ∃ k ∈ (u.egress h.port).queue, k.cls = 6 ∧ k.typ = typ ∧ k.words = words.map Int.ofNat
      let refused (code : Nat) : Prop := ∃ u, exec (.setup t h f) s = .next u
        ∧ waits u 0x03 [0, 0, h.seq, code] ∧ u.video = s.video ∧ u.sess = s.sess ∧ u.nv = s.nv ∧ u.out = s.out
        ∧ (s.flt.running = true → ∃ e ∈ u.flt.queue, e.src = 0x30 ∧ e.unit = h.port ∧ e.value = code)
      (s.slotOf h.port = none → refused 2 ∧ ∀ (no : Nat) (bytes : List Byte) (c : Instr),
        (c = .frameReq t h ∨ c = .data t h bytes ∨ c = .publish t h no) → exec c s = .next { s with now := max s.now t })
      ∧ ∀ i, s.slotOf h.port = some i →
        (h.version ≠ 1 → refused 3) ∧ (h.version = 1 → f ≠ slotFormat s.rdAt i → refused 1)
        ∧ (h.version = 1 → f = slotFormat s.rdAt i → ∃ u, exec (.setup t h f) s = .next u
          ∧ (u.slot i).streaming = true ∧ (u.slot i).opened = none ∧ (u.slot i).held = [] ∧ (u.slot i).consumed = 0
          ∧ (u.slot i).freed = 0 ∧ (u.slot i).order = (s.slot i).order ∧ (u.slot i).gens = (s.slot i).gens
          ∧ waits u 0x02 [0, 0, h.seq, 4096, s.natAt Obj.ING_RING_DEPTH i 0]
          ∧ (∀ k, k ≠ i → u.slot k = s.slot k) ∧ u.video.mem = s.video.mem ∧ u.sess = s.sess
          ∧ ((s.slot i).waiting = [] → u.flt = s.flt)))
  ∧ (∀ (s : State) (t : Cyc) (h : IngHdr) (i : Nat), s.live = true → s.isSender = true → h.bad = false → h.version = 1 →
      s.slotOf h.port = some i →
      let waits (u : State) (typ : Nat) (words : List Nat) : Prop :=
        ∃ k ∈ (u.egress h.port).queue, k.cls = 6 ∧ k.typ = typ ∧ k.words = words.map Int.ofNat
      let b := (s.slot i).pick (s.natAt Obj.ING_RING_DEPTH i 0)
      let g := ((s.slot i).gen b + 1) % 65536
      let granted (u : State) : Prop := (u.slot i).opened = some b ∧ (u.slot i).gen b = g ∧ (u.slot i).written = 0
        ∧ (u.slot i).fault = none ∧ waits u 0x05 [b, g, h.seq] ∧ (∀ k, k ≠ i → u.slot k = s.slot k)
        ∧ u.video.mem = s.video.mem
      ((s.slot i).streaming = true → (s.slot i).opened = none → ∃ u, exec (.frameReq t h) s = .next u
        ∧ granted u ∧ u.dict = s.dict ∧ u.flt = s.flt ∧ u.out = s.out)
      ∧ (∀ o, (s.slot i).streaming = true → (s.slot i).opened = some o → (s.slot i).taken = false →
        ∃ u, exec (.frameReq t h) s = .next u ∧ waits u 0x05 [o, (s.slot i).gen o, h.seq]
          ∧ u = { s with now := max s.now t, flue := { s.flue with egress := u.flue.egress } })
      ∧ (∀ o, (s.slot i).streaming = true → (s.slot i).opened = some o → (s.slot i).taken = true →
        ∃ u, exec (.frameReq t h) s = .next u ∧ granted u ∧ (u.slot i).held = [] ∧ (u.slot i).order = (s.slot i).order)
      ∧ ((s.slot i).streaming = false → ∃ u, exec (.frameReq t h) s = .next u
        ∧ u.natAt Obj.ING_REFUSE_REASON i 0 = 9 ∧ u.video = s.video ∧ waits u 0x0C [0, 0, 0, 9] ∧ u.out = s.out))

/-- R71, R75, R76 and R78: DATA in order for the open buffer and its GEN, in its plane and not fenced, is stored at its
place, byte for byte, and every other byte of the memory stays; DATA that skips units damages the open buffer and DATA
that goes back is not taken at all, both raised as ingest-data-lost, and so is DATA of a length that R75 does not allow. R79: a
PUBLISH of the open buffer and its GEN, complete and undamaged and with nothing of it held, makes that buffer the newest
published one, is counted and acknowledged; one that is incomplete or damaged is refused with its reason (one of too many bytes
with that of too few: the model's choice, log 142), the buffer discarded; a repeat of the last accepted one of its buffer is
acknowledged again, and any other is refused with 7. While a packet before it is held it waits, after those that wait already. -/
def Obligations.DataIsStoredAndPublished : Prop :=
  (∀ (s : State) (t : Cyc) (h : IngHdr) (bytes : List Byte) (i : Nat), s.live = true → s.isSender = true →
      h.bad = false → h.version = 1 → s.slotOf h.port = some i → (s.slot i).streaming = true →
      let place (off : Nat) : Nat := bufAddr i (s.slot i).epoch h.buf off
      let lost (u : State) : Prop := (∀ b, (s.slot i).opened = some b → (u.slot i).fault ≠ none)
        ∧ (s.flt.running = true → ∃ e ∈ u.flt.queue, e.src = 0x32 ∧ e.unit = i)
      let sized : Prop := h.len % 8 = 0 ∧ 8 ≤ h.len ∧ h.len ≤ 4096
      (∀ off, h.len = bytes.length → sized → seqCheck (s.slot i).consumed h.seq (ceilDiv h.len 64) = .inOrder →
        (s.slot i).opened = some h.buf → (s.slot i).gen h.buf = h.gen →
        dataPlace (slotFormat s.rdAt i) h bytes.length = some off →
        (s.slot i).fenced h.buf = false → ∃ u, exec (.data t h bytes) s = .next u
          ∧ (∀ k < bytes.length, u.memByte (place off + k) = bytes.getD k 0)
          ∧ (∀ a, (a < place off ∨ place off + bytes.length ≤ a) → u.memByte a = s.memByte a)
          ∧ (u.slot i).consumed = h.seq ∧ (u.slot i).written = (s.slot i).written + bytes.length
          ∧ (u.slot i).opened = some h.buf ∧ (∀ k, k ≠ i → u.slot k = s.slot k) ∧ u.dict = s.dict ∧ u.flt = s.flt)
      ∧ (seqCheck (s.slot i).consumed h.seq (ceilDiv h.len 64) = .outOfOrder → ∃ u, exec (.data t h bytes) s = .next u
          ∧ u.video.mem = s.video.mem ∧ (u.slot i).consumed = (s.slot i).consumed ∧ (u.slot i).written = (s.slot i).written
          ∧ lost u ∧ u.dict = s.dict ∧ u.out = s.out)
      ∧ (seqCheck (s.slot i).consumed h.seq (ceilDiv h.len 64) = .gap → ∃ u, exec (.data t h bytes) s = .next u
          ∧ (u.slot i).consumed = h.seq ∧ lost u)
      ∧ (¬ sized → seqCheck (s.slot i).consumed h.seq (ceilDiv h.len 64) ≠ .outOfOrder →
        ∃ u, exec (.data t h bytes) s = .next u ∧ u.video.mem = s.video.mem ∧ (u.slot i).consumed = h.seq
          ∧ (u.slot i).written = (s.slot i).written ∧ lost u))
  ∧ (∀ (s : State) (t : Cyc) (h : IngHdr) (no i : Nat), s.live = true → s.isSender = true → h.bad = false → h.version = 1 →
      s.slotOf h.port = some i → (s.slot i).streaming = true →
      let w : PubWait := { port := h.port, seq := h.seq, buf := h.buf, gen := h.gen, frameNo := no }
      let waits (u : State) (typ : Nat) (words : List Nat) : Prop :=
        ∃ k ∈ (u.egress h.port).queue, k.cls = 6 ∧ k.typ = typ ∧ k.words = words.map Int.ofNat
      let named : Prop := (s.slot i).opened = some h.buf ∧ (s.slot i).gen h.buf = h.gen
      let full : Prop := (s.slot i).fault = none ∧ (s.slot i).written = packedSize (slotFormat s.rdAt i)
      let refused (u : State) (code : Nat) : Prop := u.natAt Obj.ING_REFUSE_REASON i 0 = code
        ∧ waits u 0x08 [0, 0, h.seq, code] ∧ (u.slot i).order = (s.slot i).order
        ∧ (s.flt.running = true → ∃ e ∈ u.flt.queue, e.src = 0x33 ∧ e.unit = i)
      ((s.slot i).held = [] → (s.slot i).waiting = [] →
        (named → full → s.rdAt Obj.ING_FRAMES_PUBLISHED i 0 < 4294967295 →
          ∃ u, exec (.publish t h no) s = .next u ∧ (u.slot i).newest = some h.buf ∧ (u.slot i).opened = none
            ∧ (h.buf, max s.now t) ∈ (u.slot i).newAt ∧ (u.slot i).stale = false
            ∧ u.rdAt Obj.ING_FRAMES_PUBLISHED i 0 = s.rdAt Obj.ING_FRAMES_PUBLISHED i 0 + 1
            ∧ u.natAt Obj.ING_LAST_FRAME_NO i 0 = no
            ∧ waits u 0x07 [0, 0, h.seq] ∧ u.out = s.out ∧ u.video.mem = s.video.mem ∧ (∀ k, k ≠ i → u.slot k = s.slot k))
        ∧ (named → ¬ full → ∃ u, exec (.publish t h no) s = .next u ∧ (u.slot i).opened = none
            ∧ refused u ((s.slot i).fault.getD 4))
        ∧ (¬ named → (h.buf, h.gen) ∈ (s.slot i).accepted → ∃ u, exec (.publish t h no) s = .next u
            ∧ waits u 0x07 [0, 0, h.seq] ∧ (u.slot i).order = (s.slot i).order ∧ u.dict = s.dict ∧ u.flt = s.flt)
        ∧ (¬ named → (h.buf, h.gen) ∉ (s.slot i).accepted → ∃ u, exec (.publish t h no) s = .next u
            ∧ refused u 7 ∧ (u.slot i).opened = (s.slot i).opened ∧ u.video.mem = s.video.mem))
      ∧ ((s.slot i).held ≠ [] → ∃ u, exec (.publish t h no) s = .next u
        ∧ (u.slot i).waiting = (s.slot i).waiting ++ [w]
        ∧ (u.slot i).order = (s.slot i).order ∧ u.out = s.out ∧ u.dict = s.dict ∧ u.flue = s.flue))

/-- R76, R79 and R83: a waiting PUBLISH is checked once nothing is held; CREDIT reports FREED when it has moved, or
100 us after the last, and not before; a buffer whose fetch is complete is fenced no more, and its held packets are stored.
R89: the fetch of a buffer of an earlier configuration releases that buffer's memory, and no other. R87: a bound slot
without a publish for its time goes stale: it reads state 3, its layers read 4, and source-stale is held; before that nothing
happens. R107: a 64-byte unit that fails its check is lost to its layer, counted and raised. -/
def Obligations.IngestTimersRun : Prop :=
  (∀ (s : State) (t : Cyc) (i buf : Nat), s.live = true → s.isSender = true →
      let waits (u : State) (port typ : Nat) (words : List Nat) : Prop :=
        ∃ k ∈ (u.egress port).queue, k.cls = 6 ∧ k.typ = typ ∧ k.words = words.map Int.ofNat
      let place (off : Nat) : Nat := bufAddr i (s.slot i).epoch buf off
      (∀ w : PubWait, (s.slot i).waiting = [w] → (s.slot i).held = [] → (s.slot i).opened = some w.buf →
        (s.slot i).gen w.buf = w.gen → (s.slot i).fault = none → (s.slot i).written = packedSize (slotFormat s.rdAt i) →
        ∃ u, exec (.publishCheck t i) s = .next u ∧ (u.slot i).newest = some w.buf ∧ (u.slot i).waiting = []
          ∧ waits u w.port 0x07 [0, 0, w.seq] ∧ u.out = s.out)
      ∧ (s.slotOn i = true →
        (((s.slot i).freed ≠ (s.slot i).creditSent ∨ ((s.slot i).streaming = true ∧ (s.slot i).creditAt + us 100 ≤ max s.now t)) →
          ∃ u, exec (.ingestCreditTimer t i) s = .next u ∧ (u.slot i).creditSent = (s.slot i).freed
            ∧ waits u (s.natAt Obj.ING_PORT i 0) 0x0A [0, 0, (s.slot i).freed]
            ∧ u.dict = s.dict ∧ u.video.mem = s.video.mem ∧ u.out = s.out)
        ∧ ((s.slot i).freed = (s.slot i).creditSent → max s.now t < (s.slot i).creditAt + us 100 →
          exec (.ingestCreditTimer t i) s = .next { s with now := max s.now t }))
      ∧ ((∀ q ∈ (s.slot i).leaving, q.2 ≠ buf) →
        ((s.slot i).newest ≠ some buf → (s.slot i).opened = some buf → (s.slot i).waiting = [] →
          ∀ d, (s.slot i).held = [d] → d.buf = buf → ∃ u, exec (.fenceRelease t (.slot i) buf) s = .next u
            ∧ (u.slot i).fenced buf = false ∧ (u.slot i).held = []
            ∧ (∀ k < d.bytes.length, u.memByte (place d.offset + k) = d.bytes.getD k 0)
            ∧ ∀ a, (a < place d.offset ∨ place d.offset + d.bytes.length ≤ a) → u.memByte a = s.memByte a)
        ∧ ((s.slot i).held = [] → ∃ u, exec (.fenceRelease t (.slot i) buf) s = .next u
            ∧ (u.slot i).fetching = (s.slot i).fetching.filter (fun b => b != buf) ∧ u.video.mem = s.video.mem
            ∧ u.dict = s.dict ∧ u.out = s.out))
      ∧ (∀ q, (s.slot i).leaving.find? (fun r => r.2 == buf) = some q → ∃ u, exec (.fenceRelease t (.slot i) buf) s = .next u
            ∧ (u.slot i).leaving = (s.slot i).leaving.filter (fun r => r != q)
            ∧ (∀ a, a / 2 ^ 32 ≠ bufAddr i q.1 q.2 0 / 2 ^ 32 → u.memByte a = s.memByte a)
            ∧ (u.slot i).fetching = (s.slot i).fetching ∧ u.dict = s.dict ∧ u.out = s.out))
  ∧ (∀ (s : State) (t p0 : Cyc) (i l plane line unit : Nat), s.live = true → s.isSender = true →
      (i < 8 → (s.slot i).lastPub = some p0 → s.slotOn i = true → (s.slot i).stale = false →
        (p0 + ms (s.natAt Obj.ING_STALE_TIMEOUT i 0) ≤ max s.now t → ∃ u, exec (.sourceStaleTimeout t i) s = .next u
          ∧ (u.slot i).stale = true ∧ u.natAt Obj.ING_STATE i 0 = 3 ∧ 0x31 * 65536 + i ∈ u.flt.conds
          ∧ (∀ k ∈ s.boundTo i, u.natAt Obj.LAYER_STATE k 0 = 4) ∧ u.video.mem = s.video.mem ∧ u.sess = s.sess
          ∧ u.out = s.out)
        ∧ (max s.now t < p0 + ms (s.natAt Obj.ING_STALE_TIMEOUT i 0) →
          exec (.sourceStaleTimeout t i) s = .next { s with now := max s.now t }))
      ∧ (s.rdAt Obj.LAYER_FETCH_ERRORS l 0 < 4294967295 → ∃ u, exec (.layerFetchError t l plane line unit) s = .next u
        ∧ (plane, line, unit) ∈ (u.layer l).dead ∧ u.rdAt Obj.LAYER_FETCH_ERRORS l 0 = s.rdAt Obj.LAYER_FETCH_ERRORS l 0 + 1
        ∧ (s.flt.running = true → ∃ e ∈ u.flt.queue, e.src = 0x35 ∧ e.unit = l)
        ∧ u.video.mem = s.video.mem ∧ u.video.slots = s.video.slots ∧ u.sess = s.sess ∧ u.out = s.out))

/-- R88: LAYER_STILL_DATA writes the bytes of its window to the layer's back buffer, each at its place in the unpacked
image, and no other byte, unless that buffer is being fetched: the window is then held and so is the reply; when that fetch is
complete a held byte is written and the reply goes. LAYER_STILL_PUBLISH takes the back buffer for the next boundary, and a
second one before it is BUSY. (That both are accepted on a layer not bound as a still is the model's choice, log 143.) -/
def Obligations.StillLayersAreWritten : Prop :=
  (∀ (s : State) (t : Cyc) (m : Msg) (l off : Nat) (bytes : List Byte), l < 15 →
    let x := s.still l
    let place (k : Nat) : Nat :=
      bufAddr (8 + l) x.epoch x.target (unpack (planesOf (stillFormat s.rdAt l)) (off + k) 0)
    (s.Writes t m Obj.LAYER_STILL_DATA l 0 (.window off bytes) →
      (x.fetching.contains x.target = false → ∃ u, exec (.layerStillData t m l off bytes) s = .next u
        ∧ (u.session m.session).cached = some (0x11, writeReply st.OK)
        ∧ (∀ a, (∀ k < bytes.length, place k ≠ a) → u.memByte a = s.memByte a)
        ∧ (∀ k < bytes.length, u.memByte (place k) = bytes.getD k 0)
        ∧ u.video.slots = s.video.slots ∧ u.video.stills = s.video.stills ∧ u.dict = s.dict ∧ u.shadow = s.shadow)
      ∧ (x.fetching.contains x.target = true → ∃ u, exec (.layerStillData t m l off bytes) s = .next u
        ∧ u.video.mem = s.video.mem ∧ (u.still l).held = x.held ++ [(m.session, x.target, off, bytes)]
        ∧ (u.session m.session).busy = some (0x11, writeReply st.OK) ∧ u.out = s.out))
    ∧ (s.Writes t m Obj.LAYER_STILL_PUBLISH l 0 (.num 1) →
      (x.publish = false → ∃ u, exec (.layerStillPublish t m l) s = .next u
        ∧ State.Answers u ((s.taken t m).setStill l { x with publish := true }) m 0x11 (writeReply st.OK))
      ∧ (x.publish = true → ∃ u, exec (.layerStillPublish t m l) s = .next u
        ∧ State.Answers u (s.taken t m) m 0x11 (writeReply st.BUSY))))
  ∧ (∀ (s : State) (t : Cyc) (l buf k off op : Nat) (b : Byte) (r : Reply), s.live = true →
      (s.still l).held = [(k, buf, off, [b])] → (s.session k).isOpen = true → (s.session k).busy = some (op, r) →
      (s.session k).transport = .mgmt → (s.session k).own + 1 < 0xFFFFFFFF →
      ∃ u, exec (.fenceRelease t (.still l) buf) s = .next u ∧ (u.still l).held = []
        ∧ (u.still l).fetching = (s.still l).fetching.filter (fun x => x != buf)
        ∧ u.memByte (bufAddr (8 + l) (s.still l).epoch buf (unpack (planesOf (stillFormat s.rdAt l)) off 0)) = b
        ∧ (u.session k).busy = none ∧ (max s.now t, Tx.reply .mgmt k (s.session k).seq op r) ∈ u.out ∧ u.dict = s.dict)

/-! ### The Hearth layer (R108 to R114) -/

/-- R109, R110 and R468: HEARTH_IMAGE writes its window to the back image, and no other byte of it, with its CRC; a
changed size, written to the shadow, empties the back image; the front image stands in both cases. While an armed
area-21 commit waits to swap a written image the write is BUSY; while the images are copied it is held, and so is its reply.
R109 and R114: when the copy after a swap is complete the back image equals the front, where it was not reformatted meanwhile;
a word that fails in the first copy alone is
corrected from the second and counted; one that fails in both is lost and hearth-image-lost is held; a scrub rewrites
the words that one copy still has. -/
def Obligations.HearthImageIsWrittenAndProtected : Prop :=
  (∀ (s : State) (t : Cyc) (m : Msg) (off v : Nat) (bytes : List Byte) (height : Bool),
      let d := hearthDefault s.hearthShadowPixels
      let r := if height then Obj.HEARTH_HEIGHT else Obj.HEARTH_WIDTH
      (s.Writes t m Obj.HEARTH_IMAGE 0 0 (.window off bytes) →
        (s.video.hearth.written = false → s.video.hearth.copying = false →
          ∃ u, exec (.hearthImage t m off bytes) s = .next u
            ∧ (u.session m.session).cached = some (0x11, writeReply st.OK)
            ∧ u.video.hearth.back = writeBytes d s.video.hearth.back off bytes ∧ u.video.hearth.written = true
            ∧ (∀ k < bytes.length, look (d (off + k)) (off + k) u.video.hearth.back = bytes.getD k 0)
            ∧ (∀ a, (a < off ∨ off + bytes.length ≤ a) → look (d a) a u.video.hearth.back = look (d a) a s.video.hearth.back)
            ∧ u.video.hearth.front = s.video.hearth.front ∧ u.video.mem = s.video.mem ∧ u.shadow = s.shadow
            ∧ u.nat Obj.HEARTH_BACK_CRC = crc32 (readBytes d u.video.hearth.back 0 (4 * s.hearthShadowPixels)))
        ∧ (s.video.hearth.written = true → (∃ a ∈ s.sess.armed, bit a.scope 21 = true) →
          ∃ u, exec (.hearthImage t m off bytes) s = .next u ∧ State.Answers u (s.taken t m) m 0x11 (writeReply st.BUSY))
        ∧ (s.video.hearth.written = false → s.video.hearth.copying = true →
          ∃ u, exec (.hearthImage t m off bytes) s = .next u
            ∧ u.video.hearth.held = s.video.hearth.held ++ [(m.session, off, bytes)] ∧ u.video.hearth.back = s.video.hearth.back
            ∧ (u.session m.session).busy = some (0x11, writeReply st.OK) ∧ u.out = s.out))
      ∧ (s.Writes t m r 0 0 (.num v) → s.shAt r 0 0 ≠ v → ∃ u, exec (.hearthSizeWrite t m height v) s = .next u
        ∧ (u.session m.session).cached = some (0x11, writeReply st.OK) ∧ u.shAt r 0 0 = v ∧ u.video.hearth.back = []
        ∧ u.video.hearth.front = s.video.hearth.front ∧ u.rdAt r 0 0 = s.rdAt r 0 0))
  ∧ (∀ (s : State) (t : Cyc) (word : Nat), s.live = true →
      (s.video.hearth.copying = true → s.video.hearth.written = false → s.video.hearth.held = [] →
        ∃ u, exec (.hearthCopyDone t) s = .next u
        ∧ u.video.hearth.back = s.video.hearth.front ∧ u.video.hearth.front = s.video.hearth.front
        ∧ u.video.hearth.copying = false ∧ u.sess = s.sess ∧ u.out = s.out)
      ∧ (s.isSender = true → word < (s.hearthPixels + 1) / 2 → word < 2 ^ 20 → s.video.hearth.copying = false →
        (2 ^ 20 + word ∉ s.video.hearth.bad → s.rd Obj.HEARTH_CORRECTED < 4294967295 →
          ∃ u, exec (.hearthWordError t 0 word) s = .next u ∧ u.rd Obj.HEARTH_CORRECTED = s.rd Obj.HEARTH_CORRECTED + 1
            ∧ word ∈ u.video.hearth.bad ∧ u.video.hearth.lost = s.video.hearth.lost
            ∧ (s.flt.running = true → ∃ e ∈ u.flt.queue, e.src = 0x36) ∧ u.sess = s.sess ∧ u.out = s.out)
        ∧ (2 ^ 20 + word ∈ s.video.hearth.bad → ∃ u, exec (.hearthWordError t 0 word) s = .next u
            ∧ word ∈ u.video.hearth.lost ∧ 0x37 * 65536 ∈ u.flt.conds ∧ u.nat Obj.HEARTH_STATE = 2 ∧ u.sess = s.sess))
      ∧ (∃ u, exec (.hearthScrub t) s = .next u
        ∧ (∀ w ∈ u.video.hearth.bad, w ∈ s.video.hearth.bad ∧ w % 2 ^ 20 ∈ s.video.hearth.lost)
        ∧ u.video.hearth.front = s.video.hearth.front ∧ u.video.hearth.back = s.video.hearth.back ∧ u.dict = s.dict
        ∧ u.video.mem = s.video.mem))

/-! ### The Flue physical layer (R142 to R166, R171) -/

/-- R142 to R145 and R162: from bit alignment on, the forwarded phase of a lane follows its tracker by one step of at most one per
10 us, and inside 2/64 UI reads the tracker; a lost clock lane fails an attempt before stage 3, and from then on and in a loop
hands the lanes over, counted and held as flue-clock-lost; its return takes the lanes back without a realignment; an eye is
shown, low ones held as flue-eye-low, and after 10 s without one it reads 127. -/
def Obligations.PortClocksAndEyes : Prop :=
  ∀ (s : State) (t : Cyc) (p lane : Nat) (d : Int) (offsets : List Int) (width : Nat), s.live = true → p < 16 → lane < 4 →
    let only (u : State) : Prop :=
      u = { s with now := max s.now t, dict := u.dict, flt := u.flt, flue := u.flue, free := u.free }
    (s.portHears p = true → s.rxState p ≠ 1 → -128 ≤ d → d ≤ 127 →
      (s.rdAt Obj.PHY_RX_CLK_SRC p 0 = 0 → 2 < d.natAbs →
        (∀ q ∈ (s.port p).stepAt, q.1 = lane → q.2 + us 10 ≤ max s.now t) →
        ∃ u, exec (.phaseTrackStep t p lane d) s = .next u ∧ only u
          ∧ u.rdAt Obj.PHY_PHASE_DIFF p lane = (if 0 < d then d - 1 else d + 1)
          ∧ ∀ (r : ObjRow) (i j : Nat), r.key i j ≠ Obj.PHY_PHASE_DIFF.key p lane → u.rdAt r i j = s.rdAt r i j)
      ∧ (d.natAbs ≤ 2 → ∃ u, exec (.phaseTrackStep t p lane d) s = .next u ∧ only u ∧ u.rdAt Obj.PHY_PHASE_DIFF p lane = d))
    ∧ (s.portHears p = false ∨ s.rxState p = 1 → exec (.phaseTrackStep t p lane d) s = .next { s with now := max s.now t })
    ∧ (s.forwarded p = true → s.rdAt Obj.PHY_RX_CLK_SRC p 0 = 0 → s.deadPort p = false →
      (1 ≤ s.rxState p → s.rxState p ≤ 3 → (s.port p).retryAt = none → ∃ u, exec (.clockLaneLoss t p offsets) s = .next u
        ∧ only u ∧ (u.port p).clockLost = true ∧ (u.port p).fails = (s.port p).fails + 1
        ∧ (u.port p).retryAt = some (max s.now t + if (s.port p).fails + 1 < 8 then ms 1 else ms 100)
        ∧ (s.rdAt Obj.PHY_TRAIN_FAILS p 0 < 4294967295 →
            u.rdAt Obj.PHY_TRAIN_FAILS p 0 = s.rdAt Obj.PHY_TRAIN_FAILS p 0 + 1))
      ∧ (4 ≤ s.rxState p ∧ s.rxState p ≤ 6 ∨ s.rxState p = 9 → ∃ u, exec (.clockLaneLoss t p offsets) s = .next u ∧ only u
        ∧ u.rdAt Obj.PHY_RX_CLK_SRC p 0 = 1 ∧ 0x02 * 65536 + p ∈ u.flt.conds ∧ u.rxState p = s.rxState p
        ∧ (s.rdAt Obj.PHY_TAKEOVERS p 0 < 4294967295 →
            u.rdAt Obj.PHY_TAKEOVERS p 0 = s.rdAt Obj.PHY_TAKEOVERS p 0 + 1)))
    ∧ (s.forwarded p = true → s.flagAt Obj.PHY_CLK_RETURN p 0 = true → s.rdAt Obj.PHY_RX_CLK_SRC p 0 = 1 →
      ∃ u, exec (.fwdClockReturn t p offsets) s = .next u ∧ only u ∧ u.rdAt Obj.PHY_RX_CLK_SRC p 0 = 0
        ∧ (∀ l < 4, u.rdAt Obj.PHY_PHASE_DIFF p l = 0) ∧ 0x02 * 65536 + p ∉ u.flt.conds ∧ u.flt.queue = s.flt.queue
        ∧ u.rdAt Obj.PHY_REALIGNS p 0 = s.rdAt Obj.PHY_REALIGNS p 0 ∧ u.rdAt Obj.PHY_RX_DESKEW p 0 = s.rdAt Obj.PHY_RX_DESKEW p 0)
    ∧ (width ≤ 64 → ∃ u, exec (.eyeMeasurementDone t p lane width) s = .next u ∧ only u
        ∧ u.natAt Obj.PHY_EYE_WIDTH p lane = width
        ∧ (0x04 * 65536 + (p * 4 + lane) ∈ u.flt.conds ↔ width < s.natAt Obj.PHY_EYE_MIN p 0)
        ∧ (s.flt.running = true → width < s.natAt Obj.PHY_EYE_MIN p 0 → ∃ e ∈ u.flt.queue, e.src = 0x04 ∧ e.unit = p))
    ∧ (∀ t0, (s.port p).eyeAt.find? (fun q => q.1 == lane) = some (lane, t0) → t0 + seconds 10 ≤ max s.now t →
      ∃ u, exec (.eyeMeasureTimeout t p lane) s = .next u ∧ only u ∧ u.natAt Obj.PHY_EYE_WIDTH p lane = 127
        ∧ 0x04 * 65536 + (p * 4 + lane) ∉ u.flt.conds)

/-- R138, R148 to R154: a slot of four good blocks without a command takes a direction past its stage when the exit condition
holds; polarity comes from the blocks' types, lane order from their LANE fields, and stage 2 needs one SEQ on all lanes; skew
beyond 264 UI or an eye below 8 UI/64 at the end of stage 3 fails the attempt; a transmitter in open training sends its own slot,
which checks and names its lanes; a preset request loads that preset, another request moves its coefficient inside the limits; a
stage over its limit fails the attempt, but stage 3 of open training ends there with the eye that it has; a failed attempt
starts again after its wait. R153 and R197: link frames start after 16 further slots; where nothing then commands the port it
sends them, and a tile whose other direction is down sends ERROR blocks from the first frame. -/
def Obligations.PortsTrain : Prop :=
  ∀ (s : State) (t : Cyc) (p : Nat) (rx : RxProgress) (w : Nat) (ws : List Nat), s.live = true → p < 16 →
    let x := s.port p
    let failed (u : State) : Prop := (u.port p).fails = x.fails + 1
      ∧ (u.port p).retryAt = some (max s.now t + if x.fails + 1 < 8 then ms 1 else ms 100)
      ∧ (s.rdAt Obj.PHY_TRAIN_FAILS p 0 < 4294967295 → u.rdAt Obj.PHY_TRAIN_FAILS p 0 = s.rdAt Obj.PHY_TRAIN_FAILS p 0 + 1)
    let only (u : State) : Prop :=
      u = { s with now := max s.now t, dict := u.dict, flt := u.flt, flue := u.flue, free := u.free }
    let slot (u : State) : Prop :=
      u = { s with now := max s.now t, dict := u.dict, flt := u.flt, flue := u.flue, free := u.free, out := u.out }
      ∧ if s.txState p = 1 then ∃ l, u.out = (max s.now t, .training p l) :: s.out ∧ l.length = 4
          ∧ ∀ k < 4, trainingOk (l.getD k 0) = true ∧ bits (l.getD k 0) 55 54 = k
        else u.out = s.out
    (s.deadPort p = false → s.rxState p ≠ 0 → s.nearLoop p = false →
      (∀ g gs, slotRead (w :: ws) = g :: gs → gs.length = 3 → bits g.1 49 46 = 0 → x.retryAt = none →
        let got := g :: gs
        ∃ u, exec (.trainingBlock t p (w :: ws) rx) s = .next u ∧ slot u ∧ (u.port p).lastTrain = max s.now t
          ∧ u.natAt Obj.PHY_FAR_CAP p 0 = bits g.1 37 32
          ∧ (s.rxState p = 1 → u.rxState p = if rx.clockOk then 2 else 1)
          ∧ (s.rxState p = 2 → u.rxState p = (if rx.bitAligned then 3 else 2)
              ∧ (rx.bitAligned = true → (∀ k < 4, bit (u.natAt Obj.PHY_LANE_INVERT p 0) k = (got.getD k (0, false)).2
                  ∧ u.rdAt Obj.PHY_PHASE_DIFF p k = 0)))
          ∧ (s.rxState p = 3 → rx.deskew ≤ 264 →
            (∀ m, laneMapOf (got.map fun q => bits q.1 55 54) = some m → (∀ q ∈ got, bits q.1 31 24 = bits g.1 31 24) →
              u.rxState p = (if x.wakeAt.isSome then 5 else 4) ∧ u.natAt Obj.PHY_RX_DESKEW p 0 = rx.deskew
              ∧ u.natAt Obj.PHY_LANE_MAP p 0 = m)
            ∧ ((laneMapOf (got.map fun q => bits q.1 55 54) = none ∨ ∃ q ∈ got, bits q.1 31 24 ≠ bits g.1 31 24) →
              u.rxState p = 3))
          ∧ (s.rxState p = 3 → 264 < rx.deskew → failed u)
          ∧ (s.rxState p = 4 → rx.converged = true → (8 ≤ rx.eye → u.rxState p = 5) ∧ (rx.eye < 8 → failed u)))
      ∧ (trainingOk w = true → bits w 49 46 = 0 →
        let c := s.natAt Obj.PHY_TX_COEF p (bits w 55 54)
        let old := look {} (bits w 55 54) x.stats
        ∃ u, exec (.trainingBlock t p [w] rx) s = .next u ∧ slot u
          ∧ (bits w 23 22 = 0 → bits w 21 20 = 0 → bit w 19 = true → old.preset = false →
            u.natAt Obj.PHY_TX_COEF p (bits w 55 54) = presetCoef (bits w 18 16)
              ∧ (look {} (bits w 55 54) (u.port p).stats).preset = true)
          ∧ (bits w 23 22 = 1 → bits w 21 20 = 0 → bit w 19 = false → old.pre = 0 → bits c 3 0 < 15 →
            bits c 3 0 + 1 + bits c 12 8 ≤ 31 →
            u.natAt Obj.PHY_TX_COEF p (bits w 55 54) = bits c 12 8 * 256 + (bits c 3 0 + 1)
              ∧ (look {} (bits w 55 54) (u.port p).stats).pre = 1)
          ∧ (bits w 23 22 = 0 → bits w 21 20 = 1 → bit w 19 = false → old.post = 0 → 31 < bits c 12 8 + 1 + bits c 3 0 →
            u.natAt Obj.PHY_TX_COEF p (bits w 55 54) = bits c 12 8 * 256 + bits c 3 0
              ∧ (look {} (bits w 55 54) (u.port p).stats).post = 3)))
    ∧ (1 ≤ s.rxState p → s.rxState p ≤ 4 → x.retryAt = none → (s.upTo t).stageOver p = true →
      ∃ u, exec (.trainingStageLimit t p) s = .next u ∧ only u
        ∧ ((s.rxState p < 4 ∨ x.inFrame = true ∨ x.eye < 8) → failed u)
        ∧ (s.rxState p = 4 → x.inFrame = false → 8 ≤ x.eye → u.rxState p = 5))
    ∧ (∀ t0, x.retryAt = some t0 → t0 ≤ max s.now t → ∃ u, exec (.trainingRetry t p) s = .next u ∧ only u
        ∧ u.rxState p = (if s.forwarded p then 1 else 2) ∧ (u.port p).retryAt = none ∧ (u.port p).stageAt = max s.now t
        ∧ (u.port p).fails = x.fails)
    ∧ (s.txState p = 1 → x.lastTrain + ms 20 ≤ max s.now t ∨ (∃ t0, x.farReady = some t0 ∧ x.farState = some 4
          ∧ (s.rxState p = 5 ∨ s.rxState p = 6 ∨ t0 + ms 20 ≤ max s.now t)) → s.configured = false ∨ s.named p = true →
      ∃ u, exec (.linkFramesStart t p) s = .next u
        ∧ u = { s with now := max s.now t, dict := u.dict, flue := u.flue, out := u.out }
        ∧ (∀ i < 16, (max s.now t, Tx.training p ((s.upTo t).trainingSlot p 0 i)) ∈ u.out)
        ∧ u.txState p = (if s.rxState p = 6 ∧ 4 ≤ x.farState.getD 4 then 2 else 3)
        ∧ (s.isTile = true → p < 2 → s.rxState (1 - p) ≠ 6 →
          (max s.now t, Tx.lanes p (sendLanes (s.egress p).scr (frameOf 0 (List.replicate 31 errorBlock))).1) ∈ u.out))

/-- R147, R151, R156 to R161, R166 and R171: block lock is held per lane; losing it, with its invalid headers counted, takes a
direction that is up back to stage 1, flue-lane-lost held, ends a far-end loop that a command began, and is no loss to a quiet
direction; four good MARKERs bring a ready direction up, and eight frames without one take it down to ready; a wake that does
not come up in 2 us goes on as from sleep; the objects retrain, loop and send test patterns, but not on FL2 to FL15 of a tile,
which are powered down. -/
def Obligations.PortsComeUpAndDown : Prop :=
  ∀ (s : State) (t : Cyc) (m : Msg) (p lane v : Nat) (loss : LaneLoss), p < 16 → lane < 4 → loss.lane < 4 →
    (s.live = true →
      (∃ u, exec (.blockLockGained t p lane) s = .next u ∧ lane ∈ (u.port p).locks
        ∧ u = { s with now := max s.now t, flue := u.flue })
      ∧ (s.portHears p = false → exec (.blockLockLost t p loss) s = .next { s with now := max s.now t })
      ∧ (s.portHears p = true → (s.port p).byCmd = false →
        s.rdAt Obj.PHY_SYNC_ERRORS p loss.lane + loss.invalid ≤ 4294967295 → ∃ u, exec (.blockLockLost t p loss) s = .next u
          ∧ loss.lane ∉ (u.port p).locks
          ∧ u.rdAt Obj.PHY_SYNC_ERRORS p loss.lane = s.rdAt Obj.PHY_SYNC_ERRORS p loss.lane + loss.invalid
          ∧ (s.rxState p = 6 → u.rxState p = 2 ∧ u.rdAt Obj.FRM_ALIGNED p 0 = 0 ∧ 0x01 * 65536 + p ∈ u.flt.conds
            ∧ u.sess = s.sess ∧ u.nv = s.nv ∧ u.lamp = s.lamp)
          ∧ (s.rxState p ≠ 6 → u = { s with now := max s.now t, dict := u.dict, flue := u.flue }))
      ∧ (s.portHears p = true → (s.port p).byCmd = true → ∃ u, exec (.blockLockLost t p loss) s = .next u
          ∧ u.rxState p = (if s.forwarded p then 1 else 2) ∧ u.txState p = 1 ∧ (u.port p).byCmd = false
          ∧ u.sess = s.sess ∧ u.nv = s.nv ∧ u.lamp = s.lamp)
      ∧ (s.rdAt Obj.FRM_ALIGNED p 0 = 0 → 4 ≤ (s.port p).good → (s.port p).locks.length = 4 → s.rxState p = 5 →
        ∃ u, exec (.linkAlignAcquired t p) s = .next u ∧ u.rxState p = 6 ∧ u.rdAt Obj.FRM_ALIGNED p 0 = 1
          ∧ (u.port p).upSince = some (max s.now t) ∧ 0x05 * 65536 + p ∉ u.flt.conds
          ∧ u.sess = s.sess ∧ u.nv = s.nv ∧ u.lamp = s.lamp)
      ∧ (s.rdAt Obj.FRM_ALIGNED p 0 = 1 → 8 ≤ (s.port p).bad →
        ∃ u, exec (.linkAlignLost t p) s = .next u ∧ u.rxState p = 5 ∧ u.rdAt Obj.FRM_ALIGNED p 0 = 0
          ∧ (u.port p).upSince = none ∧ 0x05 * 65536 + p ∈ u.flt.conds ∧ u.sess = s.sess ∧ u.nv = s.nv ∧ u.lamp = s.lamp)
      ∧ (∀ t0, (s.port p).wakeAt = some t0 → s.rxState p ≠ 6 → t0 + us 2 ≤ max s.now t ∨ (s.port p).clockLost = true →
        ∃ u, exec (.wakeTimeout t p) s = .next u ∧ u.rxState p = (if s.forwarded p then 1 else 2)
          ∧ (u.port p).wakeAt = none ∧ u = { s with now := max s.now t, dict := u.dict, flue := u.flue, free := u.free }))
    ∧ (s.Writes t m Obj.PHY_RETRAIN p 0 (.num 1) → (s.isSender = true ∨ p < 2) → ∃ u, exec (.phyRetrainInFrame t m p) s = .next u
        ∧ (u.session m.session).cached = some (0x11, writeReply st.OK) ∧ u.rxState p = 2 ∧ (u.port p).inFrame = true
        ∧ u.nv = s.nv ∧ u.lamp = s.lamp)
    ∧ (s.Writes t m Obj.PHY_RETRAIN p 0 (.num 2) → (s.isSender = true ∨ p < 2) → ∃ u, exec (.phyRetrainOpen t m p) s = .next u
        ∧ (u.session m.session).cached = some (0x11, writeReply st.OK) ∧ u.rxState p = (if s.forwarded p then 1 else 2)
        ∧ u.txState p = 1 ∧ u.nv = s.nv ∧ u.lamp = s.lamp)
    ∧ (s.Writes t m Obj.PHY_LOOP p 0 (.num v) → ∃ u, exec (.phyLoop t m p v) s = .next u
        ∧ (u.session m.session).cached = some (0x11, writeReply st.OK) ∧ u.natAt Obj.PHY_LOOP p 0 = v
        ∧ ((s.isSender = true ∨ p < 2) → (v ≠ 0 → u.rxState p = 9) ∧ (v = 3 → u.txState p = 7)
          ∧ (v = 0 → s.natAt Obj.PHY_LOOP p 0 ≠ 0 → u.txState p = 1)) ∧ u.lamp = s.lamp)
    ∧ (s.Writes t m Obj.PHY_TEST_PATTERN p 0 (.num v) → ∃ u, exec (.phyTestPattern t m p v) s = .next u
        ∧ (u.session m.session).cached = some (0x11, writeReply st.OK) ∧ u.natAt Obj.PHY_TEST_PATTERN p 0 = v
        ∧ ((s.isSender = true ∨ p < 2) → (v = 1 → u.txState p = 6 ∧ u.rdAt Obj.PHY_TEST_ERRORS p 0 = 0)
          ∧ (v ≠ 1 → s.txState p = 6 → u.txState p = 1))
        ∧ u.lamp = s.lamp)

/-! ### Flue framing (R167 to R190, R198) -/

/-- R139 to R141 and R169 to R172: a link frame's blocks go to their lanes with their headers, scrambled, and a receiver with the
sender's lane order and history reads them back, the MARKER checking. A receiver counts every link frame; a good one in order
lengthens the run of good MARKERs; a bad one is a CRC error, ends that run, and every position of it counts as ERROR. R159: the
far-end loop sends the blocks on. R186: in a tile the positions join the relay of its other port (what is sent of them: log 133).
R182, R188, R190, R198 and R220: a gap that is due takes the place of the line packet that wins; an allowance tick adds one; a
tile's waiting packet that fits the run at the relay's head is written over it, a DELAY_REQ with its stamp recorded, and before
127 gaps it takes none; without an address only FAULT leaves; an unaddressed tile reports its faults with SRC 0xFE; a frame past
its close time closes. -/
def Obligations.LinkFramesAndPacketsPass : Prop :=
  (∀ (fseq : Nat) (body : List Blk) (scr : List (Nat × Nat)), body.length = 31 → (∀ b ∈ body, b.2 < 2 ^ 64) →
      blockStream (readLanes 0xE4 0 scr (sendLanes scr (frameOf fseq body)).1).1 = (frameOf fseq body).map some
      ∧ ∃ m, frameRead ((frameOf fseq body).map some) = some (body, m) ∧ bits m 55 40 = fseq % 65536)
  ∧ (∀ (s : State) (t : Cyc) (p : Nat) (f : LinkFrame), s.live = true → p < 16 →
      (s.portHears p = false → exec (.linkFrame t p f) s = .next { s with now := max s.now t })
      ∧ (s.portHears p = true → s.nearLoop p = false → s.flagAt Obj.PHY_TEST_PATTERN p 0 = false →
        s.rdAt Obj.FRM_FRAMES p 0 < 4294967295 → s.rdAt Obj.FRM_CRC_ERRORS p 0 < 4294967295 →
        let lanes := readLanes (s.natAt Obj.PHY_LANE_MAP p 0) (s.natAt Obj.PHY_LANE_INVERT p 0) (s.port p).scr f.lanes
        let got := if (s.port p).spoilt then none else frameRead (blockStream lanes.1)
        ∃ u, exec (.linkFrame t p f) s = .next u ∧ u.rdAt Obj.FRM_FRAMES p 0 = s.rdAt Obj.FRM_FRAMES p 0 + 1
        ∧ u.sess = s.sess ∧ u.nv = s.nv ∧ u.video = s.video ∧ u.lamp = s.lamp ∧ (u.port p).scr = lanes.2
        ∧ (s.txState p = 7 → (max s.now t, Tx.lanes p ((List.range 4).map fun k =>
            f.lanes.getD (physLane (s.natAt Obj.PHY_LANE_MAP p 0) k) [])) ∈ u.out)
        ∧ (∀ q, got = some q → u.rdAt Obj.FRM_CRC_ERRORS p 0 = s.rdAt Obj.FRM_CRC_ERRORS p 0
            ∧ (u.port p).fseq = some (bits q.2 55 40)
            ∧ (∀ n, (s.port p).fseq = some n → bits q.2 55 40 = (n + 1) % 65536 →
                (u.port p).good = (s.port p).good + 1 ∧ (u.port p).bad = 0)
            ∧ (∀ n, (s.port p).fseq = some n → bits q.2 55 40 ≠ (n + 1) % 65536 →
                (u.port p).good = 0 ∧ (u.port p).bad = (s.port p).bad + 1))
        ∧ (got = none → u.rdAt Obj.FRM_CRC_ERRORS p 0 = s.rdAt Obj.FRM_CRC_ERRORS p 0 + 1
            ∧ (u.port p).good = 0 ∧ (u.port p).bad = (s.port p).bad + 1 ∧ (u.port p).errRun = (s.port p).errRun + 31
            ∧ (s.flt.running = true → ∃ e ∈ u.flt.queue, e.src = 0x06 ∧ e.unit = p)
            ∧ (s.isTile = true → p < 2 → s.rxUp p = true → (s.egress (1 - p)).owed + f.slip = 0 →
                (u.egress (1 - p)).relay = List.replicate 31 errorBlock))))
  ∧ (∀ (s : State) (t : Cyc) (p ahead : Nat) (k : OutPkt), s.live = true → p < 16 →
      (s.isSender = true → (s.chimneyOf p).isSome = true →
        (∀ r, (s.upTo t).requests p = [(3, r)] → (s.upTo t).gapDue p = true → s.rdAt Obj.FRM_GAPS p 0 < 4294967295 →
          ∃ u, exec (.insertionGap t p) s = .next u ∧ u.rdAt Obj.FRM_GAPS p 0 = s.rdAt Obj.FRM_GAPS p 0 + 1
            ∧ (max s.now t, Tx.packet p (gapBlock :: List.replicate 9 idleBlock)) ∈ u.out
            ∧ (s.txState p = 3 → ∃ l, (max s.now t, Tx.training p l) ∈ u.out)
            ∧ (u.egress p).gapAt = some (max s.now t) ∧ (u.egress p).lineAt = (s.egress p).lineAt
            ∧ u = { s with now := max s.now t, dict := u.dict, sys := u.sys, flue := u.flue, out := u.out })
        ∧ ((s.upTo t).gapDue p = false → exec (.insertionGap t p) s = .next { s with now := max s.now t })
        ∧ (((s.egress p).ticks + 1) * 800 ≤ positionsIn (max s.now t - (s.egress p).since) →
          ∃ u, exec (.allowanceTick t p) s = .next u ∧ (u.egress p).allow = (s.egress p).allow + 1
            ∧ (u.egress p).ticks = (s.egress p).ticks + 1 ∧ (∀ x, x ≠ p → u.egress x = s.egress x)
            ∧ u = { s with now := max s.now t, sys := u.sys, flue := u.flue })
        ∧ (positionsIn (max s.now t - (s.egress p).since) < ((s.egress p).ticks + 1) * 800 →
          exec (.allowanceTick t p) s = .next { s with now := max s.now t }))
      ∧ (s.isTile = true → p < 2 → s.sends p = true → s.faultWaiting p = none → (s.egress p).queue = [k] → k.cls < 8 →
        let w := (s.upTo t).relayOn p ahead
        let free : Prop := (w.headRun p).2 = false ∨ 127 ≤ (w.egress p).sinceGap
        (s.nat Obj.TILE_ADDRESS ≠ 0 → k.blocks ≤ (w.headRun p).1 → free → (k.typ = 0x30 → ∃ n : Nat, k.words = [2, 0, (n : Int), 0, 0]) →
          ∃ u, exec (.ownPacketInsert t p ahead false) s = .next u ∧ (u.egress p).queue = []
            ∧ (max s.now t, Tx.packet p (w.packetBlocks p k)) ∈ u.out
            ∧ (u.egress p).relay = (w.egress p).relay.drop (w.packetBlocks p k).length
            ∧ ((w.headRun p).2 = true → (u.egress p).sinceGap = 0 ∧ (w.rdAt Obj.FRM_GAPS_USED p 0 < 4294967295 →
                u.rdAt Obj.FRM_GAPS_USED p 0 = w.rdAt Obj.FRM_GAPS_USED p 0 + 1))
            ∧ (∀ n : Nat, k.typ = 0x30 → k.words = [2, 0, (n : Int), 0, 0] → (p, n, w.stamp.toNat) ∈ u.time.reqs))
        ∧ (k.blocks > (w.headRun p).1 ∨ ¬ free ∨ (s.nat Obj.TILE_ADDRESS = 0 ∧ k.typ ≠ 0x38) →
          exec (.ownPacketInsert t p ahead false) s = .next w)
        ∧ (s.txState p = 3 → free → 4 ≤ (w.headRun p).1 → 64 ≤ (w.egress p).sinceGroup → (w.egress p).part.length % 4 = 0 →
          (w.egress p).part.length ≤ 24 → ∃ u, exec (.ownPacketInsert t p ahead true) s = .next u
            ∧ (max s.now t, Tx.training p (w.trainingSlot p 0 0)) ∈ u.out ∧ (u.egress p).sinceGroup = 0
            ∧ (u.egress p).queue = [k]))
      ∧ (s.isTile = true → s.nat Obj.TILE_ADDRESS = 0 → s.paths.unaddrAt = none →
        (∀ r rs, s.flt.reports = r :: rs → ∃ u, exec (.unaddrFaultReport t) s = .next u ∧ u.flt.reports = rs
          ∧ u.paths.unaddrAt = some (max s.now t) ∧ u.dict = s.dict
          ∧ ∀ q < 2, ∃ e ∈ (u.egress q).queue, e.typ = 0x38 ∧ e.words = [0xFE, (r.entry.word : Int)])
        ∧ (∀ e, s.flt.reports = [] → s.flt.ash.find? (fun e => e.source == 0x07) = some e →
          ∃ u, exec (.unaddrFaultReport t) s = .next u ∧ u.paths.unaddrAt = some (max s.now t) ∧ u.dict = s.dict
            ∧ ∀ q < 2, ∃ x ∈ (u.egress q).queue, x.typ = 0x38 ∧ x.words = [0xFE, (e.word : Int)]))
      ∧ (∀ f rest, s.paths.frames = f :: rest → (∀ g ∈ rest, g.k ≠ f.k) →
        (f.closeAt ≤ max s.now t → ∃ u, exec (.frameClose t) s = .next u
          ∧ u.paths.frames.map (·.k) = rest.map (·.k) ∧ u.paths.closed = f.k ∧ u.lamp.content = u.paths.lines
          ∧ u.sess = s.sess ∧ u.strands = s.strands ∧ u.nv = s.nv)
        ∧ (max s.now t < f.closeAt → exec (.frameClose t) s = .next { s with now := max s.now t })))

/-- R173, R175 and R44 for a tile: a segment that is for another tile changes nothing; a broken one is counted; a
message of one segment passes once, and its second copy within 10 ms is a duplicate; the next segment of a copy joins it, and
another ends it; a copy is dropped 1 ms after its first segment, the message lost where no other copy has come. A sender's forwarded messages leave in order, cut into segments of 56 bytes that wait on both its
ports, at most 32 in a frame. -/
def Obligations.ControlMessagesAreAssembled : Prop :=
  ∀ (s : State) (t : Cyc) (p c : Nat) (g : CtrlSeg), s.live = true → p < 16 →
    (s.isTile = true → (s.deadPort p = true ∨ g.dst ≠ s.nat Obj.TILE_ADDRESS ∧ g.dst ≠ 0xFF) →
      exec (.ctrl t p g) s = .next { s with now := max s.now t })
    ∧ (s.isTile = true → s.deadPort p = false → s.nat Obj.TILE_ADDRESS ≠ 0 → (g.dst = s.nat Obj.TILE_ADDRESS ∨ g.dst = 0xFF) →
      (g.complete = false → s.rdAt Obj.FRM_INCOMPLETE p 0 < 4294967295 → ∃ u, exec (.ctrl t p g) s = .next u
        ∧ u.rdAt Obj.FRM_INCOMPLETE p 0 = s.rdAt Obj.FRM_INCOMPLETE p 0 + 1 ∧ u.flue.received = s.flue.received
        ∧ u.flue.asm = s.flue.asm ∧ u.sess = s.sess)
      ∧ (g.complete = true → g.seg = 0 → g.last = true →
        (s.flue.asm.filter fun a => a.src == g.src && a.pathB == g.pathB).length < 8 →
        ((s.upTo t).wasPassed g.src g.msgId = false → ∃ u, exec (.ctrl t p g) s = .next u
          ∧ u.flue.received = (g.src, g.msgId, g.bytes) :: s.flue.received ∧ u.flue.asm = s.flue.asm ∧ u.dict = s.dict
          ∧ (u.wasPassed g.src g.msgId) = true ∧ u.sess = s.sess)
        ∧ ((s.upTo t).wasPassed g.src g.msgId = true → s.rd Obj.FRM_CTRL_DUPS < 4294967295 →
          ∃ u, exec (.ctrl t p g) s = .next u ∧ u.rd Obj.FRM_CTRL_DUPS = s.rd Obj.FRM_CTRL_DUPS + 1
            ∧ u.flue.received = s.flue.received ∧ u.sess = s.sess))
      ∧ (∀ a, g.complete = true → g.seg ≠ 0 → g.seg ≤ 19 → s.flue.asm = [a] → a.is g.src g.pathB g.msgId = true →
        (g.src, g.pathB, g.msgId) ∉ s.flue.refused →
        (a.next = g.seg → g.last = false → ∃ u, exec (.ctrl t p g) s = .next u
          ∧ u.flue.asm = [{ a with next := g.seg + 1, bytes := a.bytes ++ g.bytes }] ∧ u.flue.received = s.flue.received
          ∧ u.sess = s.sess)
        ∧ (a.next = g.seg → g.last = true → (s.upTo t).wasPassed g.src g.msgId = false → ∃ u, exec (.ctrl t p g) s = .next u
          ∧ u.flue.asm = [] ∧ u.flue.received = (g.src, g.msgId, a.bytes ++ g.bytes) :: s.flue.received ∧ u.sess = s.sess)
        ∧ (a.next ≠ g.seg → ∃ u, exec (.ctrl t p g) s = .next u ∧ u.flue.asm = [] ∧ u.flue.received = s.flue.received
          ∧ u.sess = s.sess)))
    ∧ (∀ a, s.flue.asm.find? (fun a => a.is g.src g.pathB g.msgId) = some a → a.start + ms 1 ≤ max s.now t →
      s.rd Obj.FRM_CTRL_TIMEOUTS < 4294967295 → ∃ u, exec (.ctrlReassemblyTimeout t g.src g.pathB g.msgId) s = .next u
        ∧ u.rd Obj.FRM_CTRL_TIMEOUTS = s.rd Obj.FRM_CTRL_TIMEOUTS + 1
        ∧ u.flue.asm = s.flue.asm.filter (fun b => !b.is g.src g.pathB g.msgId) ∧ u.sess = s.sess ∧ u.out = s.out
        ∧ (s.flt.running = true → (s.upTo t).wasPassed g.src g.msgId = false →
            (∀ b ∈ s.flue.asm, b.src = g.src → b.msgId = g.msgId → b.pathB = g.pathB) → ∃ e ∈ u.flt.queue, e.src = 0x08))
    ∧ (∀ op m n rest, s.isSender = true → chimneyOn s.rdAt c = true → (s.chim c).fwd = (op, m, n) :: rest →
      (s.chim c).segs + segments n ≤ 32 → ∃ u, exec (.ctrlForwardSend t c) s = .next u ∧ (u.chim c).fwd = rest
        ∧ (u.chim c).segs = (s.chim c).segs + segments n ∧ u.flue.msgId = (s.flue.msgId + 1) % 65536
        ∧ (∀ a, m.route = .chimney c a → s.natAt Obj.CHIM_PORT_A 0 c ≠ s.natAt Obj.CHIM_PORT_B 0 c →
            ∀ q ∈ s.chimPorts c, (u.egress q).queue = (s.egress q).queue
              ++ (List.range (segments n)).map fun i =>
                  { cls := 6, blocks := 1 + ceilDiv (min 56 (n - 56 * i)) 8, dst := a, at_ := max s.now t, typ := 0x20,
                    words := [(a : Int), (s.flue.msgId : Int), (i : Int), if i + 1 = segments n then 1 else 0] })
        ∧ u.out = (max s.now t, .forward op m) :: s.out ∧ u.sess = s.sess ∧ u.dict = s.dict)

/-! ### Wall time (R213 to R228, R232) -/

/-- R216 (with the choice of log 17 for the best master): Announce selects the best master, a change of it raising
ptp-master-change and leaving for state 1; Sync, Follow_Up and Delay_Resp give t2 - t1 and the mean delay; Delay_Req
leaves (each stamp within the 5 ps of R214 a free value, log 148); three intervals without Announce of the only master, or four without Sync, put a locked sender in holdover. -/
def Obligations.PtpFollowsItsMaster : Prop :=
  ∀ (s : State) (t : Cyc) (a : PtpAnnounce) (k : PtpSync), s.live = true →
    let w := s.upTo t
    let p := s.time.ptp
    (s.usesPtp a.domain = true →
      (p.masters = [] → p.selected = none → ∃ u, exec (.ptpAnnounce t a) s = .next u
        ∧ u.time.ptp.masters = [⟨a, max s.now t⟩] ∧ u.time.ptp.selected = some a.master
        ∧ u.rd Obj.PTP_MASTER = a.master ∧ u.rd Obj.TIME_STATE = s.rd Obj.TIME_STATE ∧ u.flt = s.flt ∧ u.clock = s.clock)
      ∧ (∀ f, p.masters = [f] → p.selected = some f.ann.master → a.master ≠ f.ann.master →
        lexLess (PtpRank a) (PtpRank f.ann) = true → ∃ u, exec (.ptpAnnounce t a) s = .next u
          ∧ u.time.ptp.selected = some a.master ∧ u.rd Obj.PTP_MASTER = a.master ∧ u.rd Obj.TIME_STATE = 1
          ∧ (s.flt.running = true → ∃ e ∈ u.flt.queue, e.src = 0x21) ∧ u.clock = s.clock))
    ∧ (s.usesPtp k.domain = true → p.selected = some k.master →
      (k.twoStep = false → p.meanDelay = none → exec (.ptpSync t k) s = .next { w with free := s.free + 1, time := { s.time with ptp :=
        { p with syncAt := some (max s.now t), syncLog := k.logInterval,
                 forth := some (w.ptpIn - k.stamp - 4 * k.corr) } } })
      ∧ (k.twoStep = true → exec (.ptpSync t k) s = .next { w with free := s.free + 1, time := { s.time with ptp :=
        { p with syncAt := some (max s.now t), syncLog := k.logInterval,
                 twoStep := some (k.seq, w.ptpIn.toNat, k.corr) } } })
      ∧ (∀ t2 corr, p.twoStep = some (k.seq, t2, corr) → p.meanDelay = none →
        exec (.ptpFollowUp t k) s = .next { w with time := { s.time with ptp :=
          { p with twoStep := none, forth := some ((t2 : Int) - k.stamp - 4 * (corr + k.corr)) } } })
      ∧ (∀ t3 d, p.req = some (k.seq, t3) → p.forth = some d → ∃ u, exec (.ptpDelayResp t k) s = .next u
        ∧ u.time.ptp.meanDelay = some ((d + ((k.stamp : Int) - t3 - 4 * k.corr)) / 2) ∧ u.time.ptp.req = none
        ∧ u.clock = s.clock ∧ u.rd Obj.TIME_STATE = s.rd Obj.TIME_STATE))
    ∧ (s.isSender = true → s.nat Obj.TIME_SOURCE = 1 → p.selected.isSome = true → p.reqAt = none →
      ∃ u, exec (.ptpDelayReqInterval t) s = .next u
        ∧ u.time.ptp.req = some ((p.seq + 1) % 65536, w.ptpOut.toNat) ∧ u.time.ptp.reqAt = some (max s.now t)
        ∧ (∃ ws, u.out = (max s.now t, .ptp 1 ws) :: s.out) ∧ u.dict = s.dict)
    ∧ (s.isSender = true → s.nat Obj.TIME_STATE = 2 →
      (∀ f, p.masters = [f] → p.selected = some f.ann.master →
        f.at_ + 3 * logSeconds f.ann.logInterval ≤ max s.now t → ∃ u, exec (.ptpAnnounceTimeout t) s = .next u
          ∧ u.time.ptp.masters = [] ∧ u.time.ptp.selected = none ∧ u.rd Obj.TIME_STATE = 3 ∧ 0x20 * 65536 ∈ u.flt.conds)
      ∧ (∀ t0, p.syncAt = some t0 → t0 + 4 * logSeconds p.syncLog ≤ max s.now t →
        ∃ u, exec (.ptpSyncTimeout t) s = .next u ∧ u.rd Obj.TIME_STATE = 3 ∧ 0x20 * 65536 ∈ u.flt.conds
          ∧ u.clock.rate = s.time.estimate ∧ u.time.ptp.masters = p.masters))

/-- R217, R218 and R227: FREF edges within 10 ns of the last are ignored, others are recorded and measured, one that is off by more than 1 us is raised, and four such in a row,
or four missing, put a locked sender in holdover; TIME_STEP waits for its boundary with its reply, and is BUSY under
PTP; TIME_PTP_RESTEP steps by the filtered offset, and outside states 2 and 3 of source 1 is refused (its status free, log 23); TIME_REALIGN is announced, BUSY while another change is; the first
anchor is set 1 ms after the configuration. -/
def Obligations.SenderTimeIsSteered : Prop :=
  ∀ (s : State) (t t0 : Cyc) (m : Msg) (d : Int) (c : Schedule) (falling : Bool), s.live = true →
    let w := s.upTo t
    (s.nat Obj.TIME_SOURCE ≠ 2 → exec (.frefEdge t falling) s = .next w)
    ∧ (s.isSender = true → s.nat Obj.TIME_SOURCE = 2 → (falling = true ↔ s.nat Obj.FREF_EDGE = 1) →
      (∀ e ∈ s.time.edgeAt, ns18 10 ≤ (w.wall18 : Int) - e) →
      (s.time.sched = none → exec (.frefEdge t falling) s =
        .next { w with time := { s.time with edgeAt := some (w.wall18 : Int), missed := 0 } })
      ∧ (s.time.sched = some c → s.nat Obj.TIME_STATE = 2 →
        ns18 1000 < (c.frefError (s.nat Obj.FREF_DIV) (w.wall18 + ns18 (s.rd Obj.FREF_DELAY))).natAbs →
        ∃ u, exec (.frefEdge t falling) s = .next u ∧ u.time.missed = s.time.missed + 1
          ∧ u.rd Obj.TIME_STATE = (if 3 ≤ s.time.missed then 3 else 2)
          ∧ (s.flt.running = true → ∃ e ∈ u.flt.queue, e.src = 0x22))
      ∧ (s.time.sched = some c → s.nat Obj.TIME_STATE = 2 →
        (c.frefError (s.nat Obj.FREF_DIV) (w.wall18 + ns18 (s.rd Obj.FREF_DELAY))).natAbs ≤ ns18 1000 →
        ∃ u, exec (.frefEdge t falling) s = .next u ∧ u.time.missed = 0 ∧ u.time.edgeAt = some (w.wall18 : Int)
          ∧ u.rd Obj.TIME_STATE = 2 ∧ u.flt = s.flt))
    ∧ (∀ e, s.time.edgeAt = some e → (w.wall18 : Int) - e < ns18 10 → exec (.frefEdge t falling) s = .next w)
    ∧ (∀ e, s.isSender = true → s.nat Obj.TIME_SOURCE = 2 → s.time.edgeAt = some e → s.time.sched = some c →
      e + ((period18 c.rate).1 * s.nat Obj.FREF_DIV * (s.time.missed + 1) / (period18 c.rate).2 : Nat) + ns18 1000
        ≤ w.wall18 → s.nat Obj.TIME_STATE = 2 → ∃ u, exec (.frefEdgeMissing t) s = .next u
          ∧ u.time.missed = s.time.missed + 1 ∧ u.rd Obj.TIME_STATE = (if 3 ≤ s.time.missed then 3 else 2))
    ∧ (s.Writes t m Obj.TIME_STEP 0 0 (.num d) →
      (s.nat Obj.TIME_SOURCE = 1 → ∃ u, exec (.timeStep t m d) s = .next u
        ∧ State.Answers u (s.taken t m) m 0x11 (writeReply st.BUSY))
      ∧ (s.nat Obj.TIME_SOURCE ≠ 1 → ∃ u, exec (.timeStep t m d) s = .next u
        ∧ u.time = { s.time with steps18 := s.time.steps18 ++ [(ns18 d, max s.now t + ms 1, some m.session)] }
        ∧ (u.session m.session).busy = some (0x11, writeReply st.OK) ∧ u.out = s.out ∧ u.clock = s.clock))
    ∧ (s.Writes t m Obj.TIME_PTP_RESTEP 0 0 (.num 1) → s.nat Obj.TIME_SOURCE = 1 →
      (s.nat Obj.TIME_STATE = 2 ∨ s.nat Obj.TIME_STATE = 3) → ∃ u, exec (.timePtpRestep t m) s = .next u
        ∧ State.Answers u { s.taken t m with time := { s.time with steps18 := s.time.steps18 ++ [(-s.time.filtered, max s.now t + ms 1, none)] } } m
          0x11 (writeReply st.OK))
    ∧ (s.Writes t m Obj.TIME_PTP_RESTEP 0 0 (.num 1) →
      ¬ (s.nat Obj.TIME_SOURCE = 1 ∧ (s.nat Obj.TIME_STATE = 2 ∨ s.nat Obj.TIME_STATE = 3)) → ∃ u code,
        exec (.timePtpRestep t m) s = .next u ∧ code ≠ st.OK ∧ State.Answers u (s.taken t m) m 0x11 (writeReply code))
    ∧ (s.Writes t m Obj.TIME_REALIGN 0 0 (.num 1) →
      (s.time.announced ≠ [] → ∃ u, exec (.timeRealign t m) s = .next u
        ∧ State.Answers u (s.taken t m) m 0x11 (writeReply st.BUSY))
      ∧ (s.time.announced = [] → s.time.sched = some c → ∃ u, exec (.timeRealign t m) s = .next u
        ∧ (u.session m.session).cached = some (0x11, writeReply st.OK)
        ∧ u.time.announced = [⟨s.nat Obj.WFC + s.nat Obj.COMMIT_LEAD, (gridAfter c.rate (ns18 (s.nat Obj.TIME_FRAME_PHASE))
            (c.instant (s.nat Obj.WFC + s.nat Obj.COMMIT_LEAD))), c.rate⟩]
        ∧ (s.nat Obj.WFC + s.nat Obj.COMMIT_LEAD, 3, max s.now t + us 100) ∈ u.time.repeats ∧ u.time.sched = s.time.sched ∧ u.clock = s.clock))
    ∧ (s.sys.configAt = some t0 → s.isSender = true → s.time.sched = none → t0 + ms 1 ≤ max s.now t →
      ∃ u, exec (.powerOnAnchor t) s = .next u
        ∧ u.time.sched = some ⟨0, (s.clock.read (t0 + ms 1) / 2 ^ 28 : Nat), s.rate⟩ ∧ u.time.first.isSome = true
        ∧ u.rd Obj.TIME_ANCHOR_WFC = 0 ∧ u.clock = s.clock)

/-- R219, R220 and R228 for the messages: the sender queues SYNC, both copies of an interval with one SEQ, and SYNC takes its
ORIGIN as it leaves; it answers DELAY_REQ with DELAY_RESP, queues ANCHOR once per frame on both ports, and repeats an announced
anchor; a tile with an address queues DELAY_REQ on both ports, adopts the first ANCHOR, keeps one for a later boundary, and one
for the present that differs from its schedule replaces that at the next boundary. -/
def Obligations.TimeMessagesAreExchanged : Prop :=
  ∀ (s : State) (t : Cyc) (p c : Nat) (k : TimePkt) (a : AnchorPkt), s.live = true →
    let w := s.upTo t
    (∀ (e : OutPkt) (n : Nat), e.typ = 0x30 → e.words = [1, 0, (n : Int), 0] →
      s.packetBlocks p e = (true, packetHeader 0x30 e.cls (e.blocks - 1) e.dst s.srcField (s.pathField p e)
          (2 ^ 29 + n % 65536 * 2 ^ 5 + s.nat Obj.TIME_STEPS % 16 * 2))
        :: [(false, time96 s.stamp.toNat / 2 ^ 32), (false, time96 s.stamp.toNat % 2 ^ 32 * 2 ^ 32), (false, 0)])
    ∧ (s.isSender = true → (s.chimneyOf p).isSome = true →
      (s.time.syncAt.find? (fun q => q.1 == p) = none →
        let n := if s.time.syncPorts.contains p then (s.time.syncSeq + 1) % 65536 else s.time.syncSeq
        ∃ u e, exec (.syncInterval t p) s = .next u
        ∧ (u.egress p).queue = (s.egress p).queue ++ [e] ∧ e.typ = 0x30 ∧ e.cls = 7 ∧ e.dst = 0xFF
        ∧ e.words = [1, 0, (n : Int), 0] ∧ u.time.syncSeq = n ∧ p ∈ u.time.syncPorts ∧ u.dict = s.dict)
      ∧ ∃ u e, exec (.delayReq t p k) s = .next u ∧ (u.egress p).queue = (s.egress p).queue ++ [e] ∧ e.dst = k.src
        ∧ e.typ = 0x30 ∧ e.path = some k.pathB
        ∧ e.words = [3, (k.hops : Int), (k.seq : Int), (s.nat Obj.TIME_STEPS : Int),
            (time96 w.stamp.toNat / 2 ^ 32 : Nat), (time96 w.stamp.toNat % 2 ^ 32 * 2 ^ 32 : Nat), k.corr + s.asymHalf p]
        ∧ u.dict = s.dict ∧ u.time = s.time)
    ∧ (∀ x, s.isSender = true → s.time.sched = some x → chimneyOn s.rdAt c = true →
      let v := s.setTime { s.time with anchorSeq := (s.time.anchorSeq + 1) % 65536 }
      (look 0 c s.time.anchorSent ≠ s.nat Obj.WFC + 1 → ∃ u, exec (.anchorInterval t c) s = .next u
        ∧ (∃ e ∈ (u.egress (s.natAt Obj.CHIM_PORT_A 0 c)).queue, e.typ = 0x30 ∧ e.dst = 0xFF ∧ e.words = v.anchorWords c x)
        ∧ (∃ e ∈ (u.egress (s.natAt Obj.CHIM_PORT_B 0 c)).queue, e.typ = 0x30 ∧ e.dst = 0xFF ∧ e.words = v.anchorWords c x)
        ∧ u.dict = s.dict ∧ u.time = { v.time with anchorSent := u.time.anchorSent }
        ∧ look 0 c u.time.anchorSent = s.nat Obj.WFC + 1)
      ∧ (look 0 c s.time.anchorSent = s.nat Obj.WFC + 1 → exec (.anchorInterval t c) s = .next w))
    ∧ (∀ x n t0, s.isSender = true → s.time.announced = [x] → s.time.repeats = [(x.k, n, t0)] →
      (t0 ≤ max s.now t → ∃ u, exec (.anchorAnnounceRepeat t) s = .next u
        ∧ u.time.repeats = (if n ≤ 1 then [] else [(x.k, n - 1, t0 + us 100)]) ∧ u.dict = s.dict
        ∧ (c < 8 → chimneyOn s.rdAt c = true → ∀ q ∈ s.chimPorts c,
            ∃ e ∈ (u.egress q).queue, e.typ = 0x30 ∧ e.dst = 0xFF ∧ e.words.drop 3 = (s.anchorWords c x).drop 3))
      ∧ (max s.now t < t0 → exec (.anchorAnnounceRepeat t) s = .next w))
    ∧ (s.isTile = true → s.nat Obj.TILE_ADDRESS ≠ 0 → s.time.reqAt = none → ∃ u, exec (.delayReqInterval t) s = .next u
        ∧ u.time.reqSeq = (s.time.reqSeq + 1) % 65536 ∧ u.time.reqAt = some (max s.now t)
        ∧ (∀ q < 2, ∃ e, (u.egress q).queue = (s.egress q).queue ++ [e] ∧ e.typ = 0x30 ∧ e.cls = 7
            ∧ e.words = [2, 0, (((s.time.reqSeq + 1) % 65536 : Nat) : Int), 0, 0]) ∧ u.dict = s.dict)
    ∧ (s.isTile = true → (s.pathOf p).isSome = true → s.nat Obj.TILE_ADDRESS ≠ 0 →
      let n : Schedule := ⟨a.k, (a.time : Int), a.rate⟩
      (s.time.sched = none → ∃ u, exec (.anchor t p a) s = .next u ∧ u.time.sched = some n
        ∧ u.time.byAnchor = true ∧ u.time.chimN = a.chimN ∧ u.rd Obj.TIME_ANCHOR_WFC = a.k ∧ u.clock = s.clock)
      ∧ (∀ x, s.time.sched = some x → s.nat Obj.WFC < a.k → ∃ u, exec (.anchor t p a) s = .next u
        ∧ n ∈ u.time.announced ∧ u.time.sched = some x ∧ u.time.replace = s.time.replace ∧ u.dict = s.dict)
      ∧ (∀ x f, s.time.sched = some x → a.k ≤ s.nat Obj.WFC → s.time.first = some f → ∃ u, exec (.anchor t p a) s = .next u
        ∧ u.time.sched = some x ∧ u.dict = s.dict ∧ u.time.announced = s.time.announced
        ∧ (x.rate = a.rate → x.instant f = n.instant f → u.time.byAnchor = true ∧ u.time.replace = s.time.replace)
        ∧ (x.rate ≠ a.rate ∨ x.instant f ≠ n.instant f → u.time.replace = some n)))

/-- R220, R223 to R225 and R232: at a tile a SYNC whose HOPS is not the path's count of relays leaves the path unfit,
counted and raised (the stamp within the 5 ps of R214 free, log 148); a DELAY_RESP that answers a request adds its sum; four SYNC intervals without one lead to
holdover, and too long a holdover back to state 1; a time pulse rises at its edge and ends after its width. -/
def Obligations.TilesKeepTime : Prop :=
  ∀ (s : State) (t : Cyc) (p n : Nat) (k : TimePkt) (pathB : Bool), s.live = true → n < 4 →
    let w := s.upTo t
    (s.isTile = true → s.pathOf p = some pathB → s.nat Obj.TILE_ADDRESS ≠ 0 →
      (k.hops ≠ s.relays pathB → s.rd Obj.TIME_PATH_UNFIT < 4294967295 → ∃ u, exec (.sync t p k) s = .next u
        ∧ (u.timePath pathB).a = some (w.stamp - k.stamp - 4 * (k.corr + s.asymHalf p))
        ∧ (u.timePath pathB).fit = false ∧ u.rd Obj.TIME_PATH_UNFIT = s.rd Obj.TIME_PATH_UNFIT + 1
        ∧ u.rd Obj.TIME_STATE = s.rd Obj.TIME_STATE ∧ u.clock = s.clock
        ∧ (s.flt.running = true → ∃ e ∈ u.flt.queue, e.src = 0x26))
      ∧ (∀ q a0, s.time.reqs.find? (fun q => q.1 == p && q.2.1 == k.seq) = some q → (s.timePath pathB).a = some a0 →
        ∃ u, exec (.delayResp t p k) s = .next u ∧ q ∉ u.time.reqs ∧ (u.timePath pathB).respHops = some k.hops
          ∧ (u.timePath pathB).sums =
              ((a0 + ((k.stamp : Int) - q.2.2 - 4 * k.corr)) :: (s.timePath pathB).sums).take 16
          ∧ u.rd Obj.TIME_STATE = s.rd Obj.TIME_STATE ∧ u.clock = s.clock))
    ∧ (∀ t0, s.isTile = true → s.time.fitSync = some t0 → 0 < s.time.gap → t0 + 4 * s.time.gap ≤ max s.now t →
      (s.nat Obj.TIME_STATE = 2 ∨ s.nat Obj.TIME_STATE = 3) → ∃ u, exec (.tileSyncTimeout t) s = .next u
        ∧ u.rd Obj.TIME_STATE = 4 ∧ u.time.left = s.nat Obj.TIME_STATE ∧ u.time.holdAt = max s.now t ∧ u.clock = s.clock
        ∧ u.flt = s.flt)
    ∧ (s.isTile = true → s.nat Obj.TIME_STATE = 4 →
      s.time.holdAt + seconds (s.nat Obj.TIME_HOLDOVER_MAX) ≤ max s.now t → ∃ u, exec (.holdoverMaxExpiry t) s = .next u
        ∧ u.rd Obj.TIME_STATE = 1 ∧ u.clock = s.clock
        ∧ (s.flt.running = true → (∃ e ∈ u.flt.queue, e.src = 0x24) ∧ (s.time.left = 3 → ∃ e ∈ u.flt.queue, e.src = 0x25)))
    ∧ (∀ e, w.nextEdge (s.tpo n) = some e → e ≤ w.wall18 → (s.tpo n).pulse = none → ∃ u, exec (.tpoEdge t n) s = .next u
        ∧ u.rdAt Obj.TPO_STATE n 0 = 2 ∧ (u.tpo n).pulse = some (max s.now t + ceilDiv ((s.tpo n).width * 3) 2)
        ∧ u.out = (max s.now t, .pin (.tpo n) (if (s.tpo n).falling then 0 else 1)) :: s.out)
    ∧ (∀ t0, (s.tpo n).pulse = some t0 → t0 ≤ max s.now t → (s.tpo n).waiting = false →
      ∃ u, exec (.tpoPulseEnd t n) s = .next u ∧ (u.tpo n).pulse = none
        ∧ ((s.tpo n).mode = 1 → u.rdAt Obj.TPO_STATE n 0 = 0)
        ∧ u.out = (max s.now t, .pin (.tpo n) (if (s.tpo n).falling then 1 else 0)) :: s.out)

/-! ### Lamps (R235 to R255, R229, R230) -/

/-- R235, R251 and R252: the first pass gives each zone's demand, and the scale of a zone over its grant; the codes
are complete when the second pass is; at the drive deadline the frame's buffer is written, every lamp of a frame that
is not ready late. -/
def Obligations.LampFramesAreProcessed : Prop :=
  ∀ (s : State) (t : Cyc) (j : LampJob) (l : Latch) (x c : Schedule), s.live = true →
    (s.lamp.job = some j → j.first = false → ∃ u k, exec (.lampFirstPassDone t) s = .next u ∧ u.lamp.job = some k
      ∧ k.first = true ∧ k.latch = j.latch ∧ k.fresh.items = j.fresh.items
      ∧ k.fresh.demand = zoneDemands j.ctx.v k.fresh.items k.fresh.outs
      ∧ (∀ z < 8, k.fresh.scale.getD z none = powerScale (j.latch.grants.getD z 0) (k.fresh.demand.getD z (0, 0)))
      ∧ (∀ z < 8, u.natAt Obj.LAMP_ZONE_SCALE 0 z =
          match k.fresh.scale.getD z none with | some q => q.2 | none => 32768)
      ∧ u.lamp.bufs = s.lamp.bufs ∧ u.strands = s.strands ∧ u.flue = s.flue ∧ u.mods = s.mods ∧ u.power = s.power)
    ∧ (s.lamp.job = some j → j.first = true → j.done = false → s.rd Obj.LAMP_FRAMES < 4294967295 →
      ∃ u k, exec (.lampProcessingDone t) s = .next u ∧ u.lamp.job = some k ∧ k.done = true ∧ k.latch = j.latch
        ∧ u.lamp.lastDemand = some (j.latch.frame, j.fresh.demand) ∧ u.rd Obj.LAMP_FRAMES = s.rd Obj.LAMP_FRAMES + 1
        ∧ u.lamp.bufs = s.lamp.bufs ∧ u.strands = s.strands ∧ u.flue = s.flue ∧ u.mods = s.mods)
    ∧ (s.isTile = true → s.dataRuns = true → s.activating = false → s.dueFrame = some l → s.time.sched = some c →
      s.scheduleFor (l.frame + 2) = some x → x.instant (l.frame + 2) ≤ ((s.upTo t).wall18 : Int) + ns18 20000 →
      ∃ u, exec (.driveDeadline t) s = .next u ∧ u.lamp.deadline = some l.frame ∧ u.lamp.job = none ∧ u.lamp.errors = []
        ∧ (look {} (l.frame % 3) u.lamp.bufs).frame = some l.frame
        ∧ (∀ i < 3, i ≠ l.frame % 3 → look {} i u.lamp.bufs = look {} i s.lamp.bufs)
        ∧ ((∀ j, s.lamp.job = some j → j.latch.frame = l.frame → j.first = false) → s.rd Obj.LAMP_FRAMES_LATE < 4294967295 →
            u.rd Obj.LAMP_FRAMES_LATE = s.rd Obj.LAMP_FRAMES_LATE + 1
            ∧ (s.flt.running = true → ∃ e ∈ u.flt.queue, e.src = 0x40))
        ∧ (s.lamp.job = none →
            let v := confView l.conf
            let n := vNat v Obj.TILE_HEIGHT 0 0 * vNat v Obj.TILE_WIDTH 0 0 * (lampCtx l.conf []).lamps
            s.rd Obj.LAMP_LATE_LAMPS + n ≤ 4294967295 → u.rd Obj.LAMP_LATE_LAMPS = s.rd Obj.LAMP_LATE_LAMPS + n)
        ∧ u.strands = s.strands ∧ u.flue = s.flue ∧ u.sess = s.sess ∧ u.nv = s.nv)

/-- R229, R230, R263, R266, R288 to R290 and R306: at its instant a scan starts for the frame three boundaries back, and every
enabled strand that is not halted sends the cells of the newest settled frame from the scan start on, width 0 where a module is in
service; a pass starts at its place in the scan with its visits, whose rows have no SCN edge while SCN is held inactive, its phase
error is shown and corrected by one phase step, beyond one tick by one tick in the frame tail, unless it would run past the next
scan start. R125: a tile that is not mapped starts no scan. -/
def Obligations.ScansStartAndPass : Prop :=
  ∀ (s : State) (t : Cyc) (c : Schedule) (err : Int) (j k n : Nat), s.live = true → s.isTile = true → s.dataRuns = true →
    let w := s.upTo t
    let idle : Prop := ∀ i, (s.strand i).enumWait = false ∧ (s.strand i).queue = []
    (s.time.sched = some c → s.mods.lit = true → s.seq.boundary ≠ some (s.nat Obj.WFC) →
      c.instant (s.nat Obj.WFC) + ns18 (s.nat Obj.TIME_SCAN_OFFSET) ≤ w.wall18 →
      (s.driving = true → ∃ u, exec (.scanStart t) s = .next u ∧ u.seq.boundary = some (s.nat Obj.WFC) ∧ u.seq.pass = 0
        ∧ u.seq.start = c.instant (s.nat Obj.WFC) + ns18 (s.nat Obj.TIME_SCAN_OFFSET)
        ∧ u.seq.frame = (if 3 ≤ s.nat Obj.WFC then some (s.nat Obj.WFC - 3) else none)
        ∧ u.rd Obj.SCAN_STATE = (if u.seq.off then 2 else 1)
        ∧ (s.lamp.deadline = none → idle → u.strands = s.strands ∧ u.out = s.out)
        ∧ (s.lamp.deadline = some k → n ∈ enabledStrands (confView (s.confOf k)) → strandOn s.rdAt n = true →
            (s.strand n).halted = false →
            let l := strandFrame (confView (s.confOf k)) s.darkAt (look {} (k % 3) s.lamp.bufs) k n
            (∃ d, (u.strand n).sent = some ⟨k, max s.now t, d, l.length⟩) ∧ (max s.now t, Tx.strand n u.seq.start l) ∈ u.out)
        ∧ u.flue = s.flue ∧ u.sess = s.sess ∧ u.nv = s.nv ∧ u.flt = s.flt)
      ∧ (s.driving = false → ∃ u, exec (.scanStart t) s = .next u ∧ u.seq.boundary = none ∧ u.rd Obj.SCAN_STATE = 0
        ∧ (idle → u.strands = s.strands ∧ u.out = s.out)))
    ∧ (s.seq.boundary = some j → s.driving = true → s.seq.pass < passes s.seq.rate s.seq.ratio →
      let len : Int := ns18 (scanRows s.seq.ratio * 1160 : Nat)
      let at_ : Int := s.seq.start + s.seq.pass * len
      let late (x : Schedule) : Prop :=
        x.instant (j + 1) + ns18 (vNat (s.confAt (j + 1)) Obj.TIME_SCAN_OFFSET 0 0) < at_ + len
      (at_ ≤ w.wall18 → (∀ x ∈ s.scheduleFor (j + 1), s.time.sched.isSome = true → ¬ late x) →
        ∃ u, exec (.passStart t err) s = .next u ∧ u.seq = { s.seq with pass := s.seq.pass + 1 }
          ∧ (-2147483648 ≤ err → err ≤ 2147483647 → u.rd Obj.TIME_SCAN_ERR = err)
          ∧ (let v := confView s.seq.conf
             let step : Int := if err = 0 then 0 else if 0 < err then -1 else 1
             u.out = (max s.now t, .scan s.seq.pass step
               (if s.seq.pass + 1 = passes s.seq.rate s.seq.ratio ∧ 2500 < err.natAbs then step else 0)
               (if vNat v Obj.SCAN_SCN_POLARITY 0 0 = 1 then 0 else 1)
               (passVisits v s.seq.rate s.seq.ratio s.seq.pass s.seq.off)) :: s.out)
          ∧ u.lamp = s.lamp ∧ u.strands = s.strands ∧ u.flue = s.flue ∧ u.sess = s.sess ∧ u.nv = s.nv)
      ∧ (∀ x, s.time.sched = some c → s.scheduleFor (j + 1) = some x → late x → exec (.passStart t err) s = .next w))

/-- R240 to R244, R378 and R379: a due build starts while builds are left for the frame and becomes active when it is
done; an active half 10 s old is due again; a failing working-set word or stored set is counted and marked; the sweep
sets the gains; full-scale seconds are folded into the table every 64 s and saved in the module's records. -/
def Obligations.WorkingSetsAndDoses : Prop :=
  ∀ (s : State) (t : Cyc) (m x y k : Nat) (th : Int) (b : TempSet), s.live = true → m < 16 →
    (s.isTile = true → s.buildDue m = true → (∀ i < m, s.buildDue i = false) → s.lamp.starts < s.refreshLimit →
      (s.module m).theta = some th → ∃ u, exec (.workingSetBuildStart t m) s = .next u
        ∧ (u.module m).building = some { workingSet (s.module m).setsInUse th with temp := th }
        ∧ (u.module m).due = false ∧ (u.module m).active = (s.module m).active ∧ u.lamp.starts = s.lamp.starts + 1
        ∧ u.rdAt Obj.LAMP_MOD_STATE 0 m = 3 ∧ (∀ i, i ≠ m → u.module i = s.module i) ∧ u.flt = s.flt ∧ u.out = s.out)
    ∧ ((s.module m).building = some b → s.rdAt Obj.LAMP_MOD_REFRESHES 0 m < 4294967295 →
      ∃ u, exec (.workingSetBuildDone t m) s = .next u ∧ (u.module m).active = some b ∧ (u.module m).building = none
        ∧ (u.module m).builtAt = max s.now t ∧ u.rdAt Obj.LAMP_MOD_STATE 0 m = 2
        ∧ u.rdAt Obj.LAMP_MOD_REFRESHES 0 m = s.rdAt Obj.LAMP_MOD_REFRESHES 0 m + 1
        ∧ (∀ i, i ≠ m → u.module i = s.module i) ∧ u.lamp = s.lamp ∧ u.flt = s.flt)
    ∧ ((s.module m).bound = true → (s.module m).active.isSome = true → (s.module m).builtAt + seconds 10 ≤ max s.now t →
      ∃ u, exec (.workingSetAgeTimeout t m) s = .next u ∧ (u.module m).due = true ∧ u.dict = s.dict ∧ u.lamp = s.lamp)
    ∧ (s.isTile = true → s.rd Obj.LAMP_COEF_ERRORS < 4294967295 → ∃ u, exec (.coefWordError t x y) s = .next u
        ∧ (x, y) ∈ u.lamp.errors ∧ u.rd Obj.LAMP_COEF_ERRORS = s.rd Obj.LAMP_COEF_ERRORS + 1
        ∧ (∀ i, s.moduleAt s.rdAt x y = some i → (u.module i).due = true)
        ∧ (s.flt.running = true → ∃ e ∈ u.flt.queue, e.src = 0x41) ∧ u.lamp.lamps = s.lamp.lamps)
    ∧ (s.isTile = true → (s.module m).bound = true → ∃ u, exec (.storedSetError t m k) s = .next u
        ∧ k ∈ (u.module m).badSets ∧ (u.module m).active = none ∧ (u.module m).building = none
        ∧ u.buildDue m = false ∧ u.rdAt Obj.LAMP_MOD_STATE 0 m = 4 ∧ u.lamp = s.lamp)
    ∧ (s.isTile = true → s.configured = true → s.boundModules = [m] → ∃ u, exec (.agingSweep t) s = .next u
        ∧ u.lamp.sweepAt = max s.now t
        ∧ u.nat Obj.LAMP_AGE_CAPPED = ((s.moduleLamps m).filter fun q => (s.ageLamp (some m) q).2).length
        ∧ (∀ q ∈ s.moduleLamps m,
            (u.lampOf q).gain = if s.flag Obj.LAMP_AGE_ENABLE then (s.ageLamp (some m) q).1 else 16384)
        ∧ (∀ q, (u.lampOf q).dose = (s.lampOf q).dose ∧ (u.lampOf q).table = (s.lampOf q).table))
    ∧ (s.isTile = true → s.configured = true → s.lamp.foldAt + seconds 64 ≤ max s.now t →
      ∃ u, exec (.doseFold t) s = .next u ∧ u.lamp.foldAt = max s.now t ∧ u.dict = s.dict
        ∧ ∀ q, (u.lampOf q).table = (s.lampOf q).table + (s.lampOf q).dose / 2 ^ 24
          ∧ (u.lampOf q).dose = (s.lampOf q).dose % 2 ^ 24 ∧ (u.lampOf q).gain = (s.lampOf q).gain)
    ∧ (s.isTile = true → s.boundModules = [m] → (s.module m).savedAt + seconds (s.nat Obj.MOD_DOSE_SAVE) ≤ max s.now t →
      ∃ u, exec (.doseSave t) s = .next u ∧ (u.module m).savedAt = max s.now t ∧ u.lamp = s.lamp
        ∧ ∃ q ∈ u.nv.busy ++ u.nv.waiting, q.1 = m + 1 ∧ q.2.region = 16 + 8 * m + 3
          ∧ q.2.payload = .dose (s.module m).serial ((s.moduleLamps m).map fun i => (s.lampOf i).table))

/-! ### Strands (R275 to R285, R304) -/

/-- R259, R277, R282 and R285: a strand frame that is back, or lost, is out no more, and a status slot that passes its check is
shown; a BREAK, or a frame 1 us late, leaves the strand broken with the place that was seen, strand-broken held; a frame that came
back without a BREAK mends it. R261: a BREAK, ENUM or CMD that fails its check is discarded and counted.
R262, R278 to R280 and R304: an enumeration goes out on the enabled strands that have drivers, once per second and on
STR_ENUM; its return gives the drivers found and the strand's state; STR_DRV_GO sends one CMD at its place on the strand; a CMD ends
acknowledged, not acknowledged or timed out, the last two counted; entries of the open-lamp table are freed. -/
def Obligations.StrandsAndDriversAnswer : Prop :=
  (∀ (s : State) (t : Cyc) (n addr : Nat) (f : SentFrame) (y : List CellSample) (r : StrandReturn), s.live = true →
      s.isTile = true → n < 256 → (s.strand n).sent = some f → f.drivers ≤ 62 → s.natAt Obj.DAMP_STRAND_ZONE 0 n < 8 →
      (∃ u, exec (.strandFrameReturn t n r) s = .next u ∧ (u.strand n).sent = none
        ∧ ((s.strand n).broke = false → (u.strand n).broken = false ∧ 0x46 * 65536 + n ∉ u.flt.conds)
        ∧ (r.loop ≤ 65535 → u.natAt Obj.STR_LOOP 0 n = r.loop) ∧ (∀ i, i ≠ n → u.strand i = s.strand i)
        ∧ (∀ i w, (returnedSlots r f)[i]? = some (some w) → slotOk w = true → u.natAt Obj.STR_DRV_STATUS i n = w)
        ∧ u.lamp = s.lamp ∧ u.flue = s.flue ∧ u.sess = s.sess ∧ u.nv = s.nv)
      ∧ (strandOn s.rdAt n = true → (readSymbol 7 12 y).bind checkComplement = some addr →
        ∃ u, exec (.breakSym t n y) s = .next u ∧ (u.strand n).broken = true
        ∧ (u.strand n).broke = true ∧ u.natAt Obj.STR_BREAK_AT 0 n = addr ∧ 0x46 * 65536 + n ∈ u.flt.conds
        ∧ ((s.strand n).halted = false → u.natAt Obj.STR_STATE 0 n = 3) ∧ (∀ i, i ≠ n → u.strand i = s.strand i)
        ∧ u.lamp = s.lamp ∧ u.mods = s.mods)
      ∧ (strandOn s.rdAt n = true → (readSymbol 7 12 y).bind checkComplement = none →
        exec (.breakSym t n y) s = .next ((s.upTo t).bump Obj.STR_CHECK_ERRORS))
      ∧ (f.at_ + s.frameDue n f.cells + us 1 ≤ max s.now t → ∃ u, exec (.strandReturnTimeout t n) s = .next u
        ∧ (u.strand n).sent = none ∧ (u.strand n).broken = true ∧ 0x46 * 65536 + n ∈ u.flt.conds
        ∧ ((s.strand n).broke = false → u.natAt Obj.STR_BREAK_AT 0 n = 0xFE) ∧ u.lamp = s.lamp ∧ u.sess = s.sess))
  ∧ (∀ (s : State) (t t0 : Cyc) (m : Msg) (n k p payload : Nat) (go : Bool) (y : List CellSample) (at_ : Int), n < 256 →
      let hasDrivers (i : Nat) : Prop := i ∈ enabledStrands s.rdAt
        ∧ profileChannels s.rdAt (strandProfile s.rdAt i) ≠ []
      let d := (profileChannels s.rdAt (strandProfile s.rdAt n)).length
      let tgt := s.nat Obj.STR_DRV_TARGET
      (s.Writes t m Obj.STR_ENUM 0 0 (.num 1) → ∃ u, exec (.strEnum t m) s = .next u
        ∧ (u.session m.session).cached = some (0x11, writeReply st.OK) ∧ u.seq.enumAt = some (max s.now t)
        ∧ (∀ i, hasDrivers i → (u.strand i).enumAt = some (max s.now t) ∧ (u.strand i).known = false) ∧ u.lamp = s.lamp)
      ∧ (s.live = true → s.isTile = true →
        (s.seq.enumAt = some t0 → s.dataRuns = true → t0 + seconds 1 ≤ max s.now t → ∃ u, exec (.enumPeriodic t) s = .next u
          ∧ u.seq.enumAt = some (max s.now t) ∧ (∀ i, hasDrivers i → (u.strand i).enumAt = some (max s.now t))
          ∧ u.dict = s.dict ∧ u.lamp = s.lamp)
        ∧ ((s.strand n).enumAt.isSome = true → (readSymbol 4 12 y).bind checkComplement = none →
          exec (.enumReturn t n y) s = .next ((s.upTo t).bump Obj.STR_CHECK_ERRORS))
        ∧ ((s.strand n).enumAt.isSome = true → (readSymbol 4 12 y).bind checkComplement = some k → k ≠ 0 →
          ∃ u, exec (.enumReturn t n y) s = .next u
          ∧ u.natAt Obj.STR_FOUND 0 n = k - 1 ∧ (u.strand n).enumAt = none ∧ (u.strand n).known = true
          ∧ (0x49 * 65536 + n ∈ u.flt.conds ↔ k - 1 ≠ d)
          ∧ (strandOn s.rdAt n = true → (s.strand n).halted = false → (s.strand n).broken = false →
              u.natAt Obj.STR_STATE 0 n = if k - 1 = d then 2 else 5) ∧ u.lamp = s.lamp)
        ∧ ((s.strand n).cmd = some (p, go, t0) → (readSymbol 3 36 y).filter (crc4Ok 36) = none →
          exec (.cmdReturn t n y) s = .next ((s.upTo t).bump Obj.STR_CHECK_ERRORS))
        ∧ ((s.strand n).cmd = some (p, go, t0) → (s.strand n).queue = [] → s.rd Obj.STR_CMD_FAILS < 4294967295 →
          (readSymbol 3 36 y = some payload → crc4Ok 36 payload = true → bit payload 28 = true →
            ∃ u, exec (.cmdReturn t n y) s = .next u
            ∧ (u.strand n).cmd = none ∧ (go = true → u.rd Obj.STR_DRV_RESULT = 1)
            ∧ (go = true → bit p 29 = true → u.nat Obj.STR_DRV_VALUE = bits payload 19 4) ∧ u.flt = s.flt ∧ u.out = s.out)
          ∧ (readSymbol 3 36 y = some payload → crc4Ok 36 payload = true → bit payload 28 = false →
            ∃ u, exec (.cmdReturn t n y) s = .next u ∧ (u.strand n).cmd = none
            ∧ (go = true → u.rd Obj.STR_DRV_RESULT = 2) ∧ u.rd Obj.STR_CMD_FAILS = s.rd Obj.STR_CMD_FAILS + 1
            ∧ (s.flt.running = true → ∃ e ∈ u.flt.queue, e.src = 0x4B ∧ e.unit = n ∧ e.value = 2))
          ∧ (t0 + us 10 ≤ max s.now t → ∃ u, exec (.driverCmdTimeout t n) s = .next u ∧ (u.strand n).cmd = none
            ∧ (go = true → u.rd Obj.STR_DRV_RESULT = 3) ∧ u.rd Obj.STR_CMD_FAILS = s.rd Obj.STR_CMD_FAILS + 1)))
      ∧ ((s.strand (bits tgt 15 8)).cmd = none → (s.strand (bits tgt 15 8)).queue = [] →
        (s.upTo t).strandPlace (bits tgt 15 8) 40 = some at_ →
        (s.Writes t m Obj.STR_DRV_GO 0 0 (.num 1) → ∃ u, exec (.strDrvRead t m) s = .next u
          ∧ (u.session m.session).cached = some (0x11, writeReply st.OK) ∧ u.rd Obj.STR_DRV_RESULT = 0
          ∧ (max s.now t, Tx.strand (bits tgt 15 8) at_ (cmdSymbol (cmdPayload (bits tgt 5 0) true (s.nat Obj.STR_DRV_REG) 0)))
              ∈ u.out)
        ∧ (s.Writes t m Obj.STR_DRV_GO 0 0 (.num 2) → ∃ u, exec (.strDrvWrite t m) s = .next u
          ∧ (u.session m.session).cached = some (0x11, writeReply st.OK) ∧ u.rd Obj.STR_DRV_RESULT = 0
          ∧ (max s.now t, Tx.strand (bits tgt 15 8) at_
              (cmdSymbol (cmdPayload (bits tgt 5 0) false (s.nat Obj.STR_DRV_REG) (s.nat Obj.STR_DRV_VALUE)))) ∈ u.out))
      ∧ (s.Writes t m Obj.SCAN_OPEN_CLEAR 0 0 (.num k) → k < 256 → bit (openTable s k) 8 = true →
        ∃ u, exec (.scanOpenClearEntry t m k) s = .next u ∧ State.Answers u
          (((s.taken t m).wrAt Obj.SCAN_OPEN_TABLE 0 k 0).wr Obj.SCAN_OPEN_COUNT (s.nat Obj.SCAN_OPEN_COUNT - 1 : Nat)) m 0x11
          (writeReply st.OK))
      ∧ (s.Writes t m Obj.SCAN_OPEN_CLEAR 0 0 (.num 0xFFFF) → ∃ u, exec (.scanOpenClearAll t m) s = .next u
        ∧ (u.session m.session).cached = some (0x11, writeReply st.OK) ∧ (∀ i < 256, bit (openTable u i) 8 = false)
        ∧ u.lamp = s.lamp ∧ u.flt = s.flt))

/-! ### Loops, MON, TRIM and the Damper (R311 to R325, R389) -/

/-- R311, R312 and R323 for a slot with nothing pending, whose rate limit is off: at a new sample instant the input
and the set-point are taken, and the integrator stays within its limits, or where it is while it is frozen or held; a
second command at one instant changes nothing. R315: lower slots with the same instant are sampled with it. R325: a swap
waits for the next sample, and is BUSY while one waits. R316, R317, R319, R322, R389 and R462: MON converts the next enabled channel; a TRIM period carries its code's high
time and remainder; every 125 us the operator paths move by their rate; a ceiling is staged; the zones' temperatures
reach the loops. -/
def Obligations.LoopsRun : Prop :=
  (∀ (s : State) (t : Cyc) (m : Msg) (k mask : Nat) (w : Nat), k < 32 →
      let x := s.loop k
      let held := s.inputHeld k
      let frozen := s.loopFrozen k
      (s.live = true → s.configured = true → s.pairCUp = true → s.natAt Obj.LOOP_IN k 0 ≠ 0xFF →
        (s.upTo t).sampleInstant k = some w →
        (x.last ≠ some w → x.restart = none → x.resume = false → x.swap = false → s.rdAt Obj.LOOP_SET_RATE k 0 = 0 →
          (∀ i < k, (s.upTo t).loopDue i ≠ some w) →
          ∃ u, exec (.loopSample t k) s = .next u ∧ (u.loop k).last = some w
            ∧ (u.loop k).y = s.loopInput (s.natAt Obj.LOOP_IN k 0)
            ∧ (u.loop k).sp = s.rdAt Obj.LOOP_SETPOINT k 0 * 2 ^ 16
            ∧ u.rdAt Obj.LOOP_STATE k 0 = (if held then 3 else if frozen then 2 else 1)
            ∧ ((held || frozen) = true → (u.loop k).acc = x.acc)
            ∧ ((held || frozen) = false → s.rdAt Obj.LOOP_INT_MIN k 0 ≤ s.rdAt Obj.LOOP_INT_MAX k 0 →
                s.rdAt Obj.LOOP_INT_MIN k 0 * 2 ^ 16 ≤ (u.loop k).acc
                  ∧ (u.loop k).acc ≤ s.rdAt Obj.LOOP_INT_MAX k 0 * 2 ^ 16)
            ∧ (∀ i, i ≠ k → u.loop i = s.loop i) ∧ u.lamp = s.lamp ∧ u.strands = s.strands ∧ u.flue = s.flue
            ∧ u.sess = s.sess ∧ u.nv = s.nv)
        ∧ (x.last ≠ some w → ∀ i < k, (s.upTo t).loopDue i = some w → ∃ u, exec (.loopSample t k) s = .next u
          ∧ (u.loop i).last = some w ∧ (u.loop k).last = some w ∧ u.lamp = s.lamp ∧ u.strands = s.strands)
        ∧ (x.last = some w → exec (.loopSample t k) s = .next { s with now := max s.now t }))
      ∧ (s.Writes t m Obj.LOOP_SWAP 0 0 (.num mask) →
        ((∃ i < 32, bit mask i = true ∧ (s.loop i).swap = true) → ∃ u, exec (.loopSwap t m mask) s = .next u
          ∧ State.Answers u (s.taken t m) m 0x11 (writeReply st.BUSY))
        ∧ ((∀ i < 32, bit mask i = true → (s.loop i).swap = false) → ∃ u, exec (.loopSwap t m mask) s = .next u
          ∧ (u.session m.session).cached = some (0x11, writeReply st.OK) ∧ u.dict = s.dict
          ∧ ∀ i, u.loop i = (if i < 32 ∧ bit mask i = true then { s.loop i with swap := true } else s.loop i))))
  ∧ (∀ (s : State) (t : Cyc) (n k z : Nat) (v p r : Int), s.live = true → n < 8 → k < 16 → z < 8 →
      (let chans := (List.range 16).filter fun i => bit (s.nat Obj.LOOP_MON_ENABLE) i
       (chans.find? fun i => decide (s.power.monNext ≤ i)).or chans.head? = some k → s.configured = true →
        s.power.monAt + us 1 ≤ max s.now t → r < p → ∃ u, exec (.monConversion t v p r) s = .next u
          ∧ u.rdAt Obj.LOOP_MON_VALUE 0 k = clampI 0 4095 ((2 * 4096 * (v - r) + (p - r)) / (2 * (p - r)))
          ∧ u.power.monNext = k + 1 ∧ u.power.monAt = max s.now t ∧ u.lamp = s.lamp ∧ u.flt = s.flt ∧ u.out = s.out)
      ∧ (let c := if s.mods.thermal.shutdown then s.natAt Obj.THERM_SD_TRIM 0 n
          else if s.configured then s.trimCode n else 0
         let a := c * 4000 + (look (0, 0) n s.power.pwm).2
         ((s.upTo t).trimDue n = true →
          ∃ u, exec (.trimPwmPeriod t n) s = .next u ∧ u.out = (max s.now t, .pin (.trim n) (a / 65536 : Nat)) :: s.out
          ∧ (look (0, 0) n u.power.pwm).2 = a % 65536 ∧ u.trimCode n = s.trimCode n
          ∧ (∀ i, i ≠ n → look (0, 0) i u.power.pwm = look (0, 0) i s.power.pwm) ∧ u.dict = s.dict)
         ∧ ((s.upTo t).trimDue n = false → exec (.trimPwmPeriod t n) s = .next { s with now := max s.now t }))
      ∧ (s.isTile = true → s.configured = true → s.pairCUp = true → s.power.opAt + us 125 ≤ max s.now t →
        ∃ u, exec (.opRampEval t) s = .next u ∧ u.power.opAt = max s.now t
          ∧ (u.zone z).op = rampStep (s.natAt Obj.DAMP_OP_RATE z 0) (1, 8000) (s.natAt Obj.DAMP_OP_LEVEL z 0 * 2 ^ 29) (s.zone z).op
          ∧ (u.zone z).staged = (s.zone z).staged ∧ u.power.slots = s.power.slots ∧ u.lamp = s.lamp)
      ∧ (s.isTile = true → s.pairCUp = true → exec (.damperStagingWrite t z) s =
          .next ((s.upTo t).setZone z { s.zone z with staged := s.natAt Obj.DAMP_CEILING z 0 }))
      ∧ (s.isTile = true → s.configured = true → s.power.zoneTempAt + us 125 ≤ max s.now t →
        ∃ u, exec (.zoneTempSupply t) s = .next u ∧ u.power.zoneTempAt = max s.now t
          ∧ (u.zone z).temp = s.zoneTemp z * 2 ^ 25 ∧ u.mods = s.mods ∧ u.lamp = s.lamp ∧ u.flt = s.flt))

/-! ### Power grants (R326 to R336) -/

/-- R330, R331 and R333: a genuine POWER_GRANT in order waits at its tile for its TARGET, counted and raised where the
frame is already computed, and 64 frames without one are held; a POWER_REPORT in order sets what the sender knows of
the tile and the first one its grant, an untagged one and one of a tile that is not mapped are counted as forged, and 64 frames without one are held. -/
def Obligations.GrantsAndReports : Prop :=
  ∀ (s : State) (t : Cyc) (m : Msg) (g target c a mw : Nat) (grants : List Nat) (r : PowerReport), s.live = true →
    (s.isTile = true → s.hears m.transport = true → s.pairMUp = true → m.session = 0 → s.genuine m = true →
      (s.session 0).closing = false →
      max (s.session 0).seq (s.session 0).oneWay < m.seq → s.nat Obj.TILE_ADDRESS = a → a ≠ 0 → grants[a - 1]? = some mw →
      (∀ n, s.power.newest = some n → newerSeq g n = true) → ∃ u, exec (.powerGrant t m g target grants) s = .next u
        ∧ u.power.pendingGrant = some (g, target, mw) ∧ u.power.newest = some g ∧ u.power.sinceMsg = 0
        ∧ 0x64 * 65536 ∉ u.flt.conds ∧ (u.session 0).oneWay = m.seq ∧ u.power.adopted = s.power.adopted
        ∧ (∀ j, s.power.computed = some j → target ≤ j → s.rd Obj.PWR_GRANTS_LATE < 4294967295 →
            u.rd Obj.PWR_GRANTS_LATE = s.rd Obj.PWR_GRANTS_LATE + 1
            ∧ (s.flt.running = true → ∃ e ∈ u.flt.queue, e.src = 0x63))
        ∧ u.out = s.out ∧ u.lamp = s.lamp)
    ∧ (s.isSender = true → s.pairMUp = true → a ∈ s.mapped c →
      (m.version = 1 → m.tagOk = true → (s.tile c a).s0open = true → m.epoch = (s.tile c a).s0epoch →
        (s.tile c a).s0seq < m.seq → ∃ u, exec (.powerReport t m c a r) s = .next u ∧ (u.tile c a).report = some r
          ∧ (u.tile c a).s0seq = m.seq ∧ (u.tile c a).reportWfc = s.nat Obj.WFC ∧ (u.tile c a).reportMissing = false
          ∧ ((s.tile c a).report = none → (u.tile c a).ct = r.grant) ∧ 0x65 * 65536 + (c * 256 + a) ∉ u.flt.conds
          ∧ u.sess = s.sess ∧ u.out = s.out)
      ∧ ((s.tile c a).reportMissing = false → (s.tile c a).reportWfc + 64 ≤ s.nat Obj.WFC →
        ∃ u, exec (.powerReportMissing t c a) s = .next u ∧ (u.tile c a).reportMissing = true
          ∧ 0x65 * 65536 + (c * 256 + a) ∈ u.flt.conds ∧ (s.flt.running = true → ∃ e ∈ u.flt.queue, e.src = 0x65)
          ∧ u.dict = s.dict))
    ∧ (s.isSender = true → s.pairMUp = true → (m.tagOk = false ∨ a ∉ s.mapped c) → s.rd Obj.DICT_AUTH_FAILS < 4294967295 →
      ∃ u, exec (.powerReport t m c a r) s = .next u
        ∧ u.rd Obj.DICT_AUTH_FAILS = s.rd Obj.DICT_AUTH_FAILS + 1 ∧ u.flue = s.flue ∧ u.power = s.power)
    ∧ (s.isTile = true → 64 ≤ s.power.sinceMsg → s.flt.held 0x64 = false → ∃ u, exec (.grantMissingTimeout t) s = .next u
        ∧ 0x64 * 65536 ∈ u.flt.conds ∧ (s.flt.running = true → ∃ e ∈ u.flt.queue, e.src = 0x64)
        ∧ u = { s with now := max s.now t, flt := u.flt })

/-! ### Calibration (R339 to R354) -/

/-- R339 and R340: CAL_OPEN takes the run to state 1 with its module, its kind and empty buffers, and is BUSY in
states 2 to 4; CAL_RUN begins the solve from state 1; CAL_ABORT ends states 1 and 5 at once and stops the others at
their next step, or at once where the run's store only waits; a pattern is shown in state 1 and ends with 0xFF; CAL_RUN and a pattern are refused in the other states
(with a free status, log 23). R341: CAL_MEAS_CLEAR empties the buffers; a window
written to one is placed in it and its state is shown; in state 1 a BULK transfer to a tile is placed likewise, in
another state it changes none, and its queue entry is freed (R185); a sender passes a window on in BULK packets of at most 56 bytes on both paths, and
the reply waits for the last of them. -/
def Obligations.CalibrationOpensAndMeasures : Prop :=
  (∀ (s : State) (t : Cyc) (m : Msg) (p : Nat),
      let a := s.taken t m
      let q := s.nat Obj.CAL_STATE
      let answered (u : State) (op : Nat) (status : Nat) : Prop := (u.session m.session).cached = some (op, writeReply status)
      let rest (u : State) : Prop := u.lamp = s.lamp ∧ u.strands = s.strands ∧ Flue.Queued u.flue s.flue ∧ u.nv = s.nv ∧ u.flt = s.flt
        ∧ u.shadow = s.shadow ∧ u.mods.mods = s.mods.mods ∧ u.mods.thermal = s.mods.thermal
      let waits : Prop := ∃ x ∈ s.nv.waiting, s.runStores x.2.region x.2.payload = true
      (s.Writes t m Obj.CAL_OPEN 0 0 (.num 1) →
        (2 ≤ q ∧ q ≤ 4 → ∃ u, exec (.calOpen t m) s = .next u ∧ State.Answers u a m 0x11 (writeReply st.BUSY))
        ∧ ((q ≤ 1 ∨ q = 5) → ∃ u, exec (.calOpen t m) s = .next u ∧ answered u 0x11 st.OK ∧ u.rd Obj.CAL_STATE = 1
          ∧ u.rd Obj.CAL_PROGRESS = 0 ∧ u.mods.cal.module = s.nat Obj.CAL_MODULE ∧ u.mods.cal.kind = s.nat Obj.CAL_KIND
          ∧ u.mods.cal.opener = some (m.session, (s.session m.session).epoch) ∧ u.mods.cal.pattern = none
          ∧ u.mods.cal.bufs = [] ∧ (∀ b < 33, u.rdAt Obj.CAL_MEAS_STATE 0 b = 0) ∧ rest u))
      ∧ (s.Writes t m Obj.CAL_RUN 0 0 (.num 1) → q = 1 →
        ∃ u, exec (.calRun t m) s = .next u ∧ answered u 0x11 st.OK ∧ u.rd Obj.CAL_STATE = 2 ∧ u.rd Obj.CAL_PROGRESS = 0
          ∧ u.mods.cal = { s.mods.cal with pattern := none, solved := 0 } ∧ rest u)
      ∧ (q ≠ 1 → (s.Writes t m Obj.CAL_RUN 0 0 (.num 1) →
          ∃ u code, exec (.calRun t m) s = .next u ∧ code ≠ st.OK ∧ State.Answers u a m 0x11 (writeReply code))
        ∧ (s.Writes t m Obj.CAL_PATTERN_SHOW 0 0 (.num p) → p ≠ 0xFF →
          ∃ u code, exec (.calPatternShow t m p) s = .next u ∧ code ≠ st.OK ∧ State.Answers u a m 0x11 (writeReply code)))
      ∧ (s.Writes t m Obj.CAL_ABORT 0 0 (.num 1) → waits →
        ∃ u, exec (.calAbort t m) s = .next u ∧ answered u 0x11 st.OK ∧ u.rd Obj.CAL_STATE = 5 ∧ u.rd Obj.CAL_REASON = 0x0D
          ∧ (∀ x ∈ u.nv.waiting, s.runStores x.2.region x.2.payload = false) ∧ u.nv.busy = s.nv.busy ∧ u.lamp = s.lamp)
      ∧ (s.Writes t m Obj.CAL_ABORT 0 0 (.num 1) → ¬ waits →
        ∃ u, exec (.calAbort t m) s = .next u ∧ answered u 0x11 st.OK ∧ rest u
          ∧ (q = 0 → u.dict = s.dict ∧ u.mods = s.mods)
          ∧ ((q = 1 ∨ q = 5) → u.rd Obj.CAL_STATE = 0 ∧ u.mods.cal = { s.mods.cal with pattern := none, opener := none })
          ∧ (2 ≤ q ∧ q ≤ 4 → u.dict = s.dict ∧ u.mods.cal = { s.mods.cal with stop := some 0x0D }))
      ∧ (s.Writes t m Obj.CAL_PATTERN_SHOW 0 0 (.num p) → p ≠ 0xFF → q = 1 →
        ∃ u, exec (.calPatternShow t m p) s = .next u ∧ answered u 0x11 st.OK ∧ u.dict = s.dict ∧ rest u
          ∧ u.mods.cal = { s.mods.cal with pattern := some p })
      ∧ (s.Writes t m Obj.CAL_PATTERN_SHOW 0 0 (.num 0xFF) →
        ∃ u, exec (.calPatternEnd t m) s = .next u ∧ answered u 0x11 st.OK ∧ u.dict = s.dict ∧ rest u
          ∧ u.mods.cal = { s.mods.cal with pattern := none }))
  ∧ (∀ (s : State) (t : Cyc) (m : Msg) (h : BulkHdr) (b off i : Nat) (bytes : List Byte),
      let d := s.nat Obj.CAL_BULK_DEST
      let pA := s.natAt Obj.CHIM_PORT_A 0 (bits d 26 24)
      let pB := s.natAt Obj.CHIM_PORT_B 0 (bits d 26 24)
      let n := ceilDiv bytes.length 56
      (s.Writes t m Obj.CAL_MEAS_CLEAR 0 0 (.num 1) →
        ∃ u, exec (.calMeasClear t m) s = .next u ∧ (u.session m.session).cached = some (0x11, writeReply st.OK)
          ∧ u.mods.cal = { s.mods.cal with bufs := [] } ∧ (∀ k < 33, u.rdAt Obj.CAL_MEAS_STATE 0 k = 0)
          ∧ u.rd Obj.CAL_STATE = s.rd Obj.CAL_STATE ∧ u.lamp = s.lamp ∧ u.nv = s.nv ∧ Flue.Queued u.flue s.flue)
      ∧ (s.Writes t m Obj.CAL_MEAS_DATA 0 b (.window off bytes) →
        ∃ u, exec (.calMeasData t m b off bytes) s = .next u
          ∧ (u.session m.session).cached = some (0x11, writeReply st.OK)
          ∧ u.mods.cal = { s.mods.cal with bufs := memWrite s.mods.cal.bufs (b * 2 ^ 20 + off) bytes }
          ∧ u.natAt Obj.CAL_MEAS_STATE 0 b = u.bufState b
          ∧ u.rd Obj.CAL_STATE = s.rd Obj.CAL_STATE ∧ u.lamp = s.lamp ∧ u.nv = s.nv ∧ Flue.Queued u.flue s.flue)
      ∧ (s.live = true →
        let freed (u : State) : Prop := s.paths.freed.length = 6 → u.paths.freed.getD (counterOf h.pathB 0) 0
          = (s.paths.freed.getD (counterOf h.pathB 0) 0 + 1) % 2 ^ 16
        (s.isTile = true → s.nat Obj.TILE_ADDRESS ≠ 0 →
          (s.pairMUp = true → s.rd Obj.CAL_STATE = 1 → h.transfer ≤ 32 → off * 8 + bytes.length ≤ s.calSize →
            ∃ u, exec (.bulk t h off bytes) s = .next u ∧ freed u
              ∧ u.mods.cal = { s.mods.cal with bufs := memWrite s.mods.cal.bufs (h.transfer * 2 ^ 20 + off * 8) bytes }
              ∧ u.natAt Obj.CAL_MEAS_STATE 0 h.transfer = u.bufState h.transfer
              ∧ u = { s with now := max s.now t, dict := u.dict, flue := u.flue, mods := { s.mods with cal := u.mods.cal } })
          ∧ (s.rd Obj.CAL_STATE ≠ 1 → ∃ u, exec (.bulk t h off bytes) s = .next u ∧ freed u
              ∧ u = { s with now := max s.now t, flue := u.flue }))
        ∧ (s.isSender = true ∨ s.nat Obj.TILE_ADDRESS = 0 →
          exec (.bulk t h off bytes) s = .next { s with now := max s.now t }))
      ∧ (s.Writes t m Obj.CAL_BULK_DATA 0 0 (.window off bytes) → chimneyOn s.rdAt (bits d 26 24) = true → pA ≠ pB →
        bytes ≠ [] →
        ∃ u, exec (.calBulkData t m off bytes) s = .next u
          ∧ (u.session m.session).busy = some (0x11, writeReply st.OK)
          ∧ (∀ p, p = pA ∨ p = pB → (u.egress p).queue.length = (s.egress p).queue.length + n
            ∧ (i < n → (u.egress p).queue[(s.egress p).queue.length + i]? = some
                { cls := 0, blocks := 1 + ceilDiv ((bytes.drop (56 * i)).take 56).length 8, dst := bits d 23 16,
                  at_ := max s.now t, typ := 0x50,
                  words := [((bits d 7 0 : Nat) : Int), (((off + 56 * i) / 8 : Nat) : Int)]
                    ++ ((bytes.drop (56 * i)).take 56).map fun x => (x.toNat : Int),
                  last := if i + 1 = n then some m.session else none }))
          ∧ u.dict = s.dict ∧ u.mods = s.mods ∧ u.nv = s.nv ∧ u.out = s.out))

/-- R342 to R344, R347 and R349: a unit solves at most 64 pixels after the frame's lamps, ends 10 us before the next
close, and counts its pixels; when every pixel is solved the checks begin; an end that an abort or a change asked for
comes at the next step; a run whose checks pass, with few enough failing pixels, stores the new set in the module. -/
def Obligations.CalibrationSolvesInUnits : Prop :=
  ∀ (s : State) (t : Cyc) (r : Nat), s.live = true → s.isTile = true →
    let x := s.module s.mods.cal.module
    let n := min 64 (x.width * x.height - s.mods.cal.solved)
    let ended (u : State) : Prop := u.rd Obj.CAL_STATE = 5 ∧ u.nat Obj.CAL_REASON = r ∧ u.mods.cal.pattern = none
      ∧ u.mods.cal.opener = none ∧ u.nv = s.nv ∧ u.lamp = s.lamp ∧ u.mods.mods = s.mods.mods
    (s.rd Obj.CAL_STATE = 2 → s.mods.cal.stop = none → (∀ j, s.lamp.job = some j → j.done = true) →
      s.mods.thermal.pausedAt = none → 0 < n →
      (∀ f ∈ s.paths.frames,
        max s.now t + n * (if s.mods.cal.kind = 1 then 3000 else 12000) + us 10 ≤ f.closeAt) →
      ∃ u, exec (.calUnitStart t) s = .next u ∧ u.mods.cal.solved = s.mods.cal.solved + n
        ∧ u.nat Obj.CAL_PROGRESS = s.mods.cal.solved + n
        ∧ u = { s with now := max s.now t, dict := u.dict, mods := { s.mods with cal := u.mods.cal } })
    ∧ (s.rd Obj.CAL_STATE = 2 → s.mods.cal.stop = none → x.width * x.height ≤ s.mods.cal.solved →
      exec (.calSolveDone t) s = .next ((s.upTo t).wr Obj.CAL_STATE 3))
    ∧ (s.mods.cal.stop = some r →
      (s.rd Obj.CAL_STATE = 2 → (∃ u, exec (.calUnitStart t) s = .next u ∧ ended u)
        ∧ (∃ u, exec (.calSolveDone t) s = .next u ∧ ended u))
      ∧ (s.rd Obj.CAL_STATE = 3 → ∃ u, exec (.calCheckDone t) s = .next u ∧ ended u))
    ∧ (let o := (s.upTo t).solveRun
       let solved := o.pixels.filterMap id
       let failing := solved.filter Solved.fails
       s.rd Obj.CAL_STATE = 3 → s.mods.cal.stop = none →
       ∃ u, exec (.calCheckDone t) s = .next u ∧ u.lamp = s.lamp ∧ u.mods.mods = s.mods.mods
        ∧ (∀ y, o.reason = some y → u.rd Obj.CAL_STATE = 5 ∧ u.nat Obj.CAL_REASON = y ∧ u.nv = s.nv
            ∧ (s.flt.running = true → ∃ e ∈ u.flt.queue, e.src = 0x4D ∧ e.unit = s.mods.cal.module ∧ e.value = y))
        ∧ (o.reason = none → s.nat Obj.CAL_FAIL_LIMIT < failing.length →
            u.rd Obj.CAL_STATE = 5 ∧ u.nat Obj.CAL_REASON = worstReason (failing.map Solved.reason) ∧ u.nv = s.nv)
        ∧ (o.reason = none → failing.length ≤ s.nat Obj.CAL_FAIL_LIMIT →
            u.rd Obj.CAL_STATE = 4 ∧ u.rd Obj.CAL_REASON = (if failing.length = 0 then 0 else 1)
            ∧ u.nat Obj.CAL_SET_INDEX = o.index ∧ u.flt = s.flt
            ∧ ∃ y g, (deviceOf (16 + 8 * s.mods.cal.module + o.index), y) ∈ u.nv.busy ++ u.nv.waiting
              ∧ y.region = 16 + 8 * s.mods.cal.module + o.index ∧ y.payload = .field o.index g ∧ g.serial = x.serial
              ∧ g.revert = false))

/-- R352, R353 and R357: a link run of a port begins at once; with four fresh eyes on every lane, or after 10 s, it
ends with its reason: where it passes, the port's entries of its band are stored; an automatic run starts after 60 s
in forwarded clocking within a band without an entry; CAL_LINK_CLEAR stores the record without the port's entries,
CAL_FIELD_REVERT a record that names the module's own set. R354: a trim run takes 10 s at the soak temperature
declared at its start. It then fails with the reason of its first failing check, and raises the fault, or stores one
offset for each site: soak temperature less mean reading. -/
def Obligations.LinksAndSensorsAreCalibrated : Prop :=
  (∀ (s : State) (t : Cyc) (m : Msg) (p v : Nat), p < 16 →
      let r := s.linkRun p
      let reason := s.linkReason p
      let fresh := (List.range 4).map fun l => look 0 l r.eyes
      let x := s.module (bits v 11 8)
      let stores (u : State) (region : Nat) (f : Payload → Prop) : Prop :=
        ∃ y, (deviceOf region, y) ∈ u.nv.busy ++ u.nv.waiting ∧ y.region = region ∧ f y.payload
      (s.Writes t m Obj.CAL_LINK_RUN 0 0 (.num p) → r.active = false →
        ∃ u, exec (.calLinkRun t m p) s = .next u ∧ (u.session m.session).cached = some (0x11, writeReply st.OK)
          ∧ (u.linkRun p).active = true ∧ (u.linkRun p).auto = false ∧ (u.linkRun p).start = max s.now t
          ∧ (u.linkRun p).band = s.band p ∧ (u.linkRun p).eyes = [] ∧ u.dict = s.dict ∧ u.nv = s.nv ∧ u.mods = s.mods
          ∧ (∀ i, i ≠ p → u.linkRun i = s.linkRun i) ∧ Flue.Queued u.flue { s.flue with runs := u.flue.runs })
      ∧ (s.live = true → r.active = true → s.mods.thermal.pausedAt = none →
        (fresh.all (4 ≤ ·) = true ∨ r.start + seconds 10 ≤ max s.now t) →
        ∃ u, exec (.linkRunEnd t p) s = .next u ∧ (u.linkRun p).active = false ∧ u.nat Obj.CAL_LINK_REASON = reason
          ∧ (reason ≠ 0 → u.nv = s.nv ∧ (s.flt.running = true → ∃ e ∈ u.flt.queue, e.src = 0x12 ∧ e.unit = p ∧ e.value = reason))
          ∧ (reason = 0 → u.flt = s.flt ∧ stores u 2 fun y => ∃ l, y = .link l
              ∧ (s.linkRecord.length = 512 → r.band < 8 → ∀ k < 4, l.getD ((p * 8 + r.band) * 4 + k) 0 =
                  2 ^ 63 + look 0 k r.least * 2 ^ 56 + s.natAt Obj.PHY_RX_EQ p k % 2 ^ 44)
              ∧ (∀ k, (k < (p * 8 + r.band) * 4 ∨ (p * 8 + r.band) * 4 + 4 ≤ k) → l.getD k 0 = s.linkRecord.getD k 0))
          ∧ u.mods = s.mods ∧ u.lamp = s.lamp ∧ u.sess = s.sess)
      ∧ (s.live = true → s.flag Obj.CAL_LINK_AUTO = true → s.mods.thermal.pausedAt = none → s.rxUp p = true →
        s.forwarded p = true → s.rdAt Obj.PHY_RX_CLK_SRC p 0 = 0 → r.steady + seconds 60 ≤ max s.now t → r.next ≤ max s.now t →
        (∀ k < 4, bit (s.linkRecord.getD ((p * 8 + s.band p) * 4 + k) 0) 63 = false) → r.active = false →
        ∃ u, exec (.linkRunAutoStart t p) s = .next u ∧ (u.linkRun p).active = true ∧ (u.linkRun p).auto = true
          ∧ (u.linkRun p).start = max s.now t ∧ (∀ i, i ≠ p → u.linkRun i = s.linkRun i)
          ∧ u = { s with now := max s.now t, flue := { s.flue with runs := u.flue.runs } })
      ∧ (s.Writes t m Obj.CAL_LINK_CLEAR 0 0 (.num p) →
        ∃ u, exec (.calLinkClear t m p) s = .next u ∧ (u.session m.session).cached = some (0x11, writeReply st.OK)
          ∧ stores u 2 (fun y => ∃ l, y = .link l ∧ ∀ k, l.getD k 0 = if k / 32 = p then 0 else s.linkRecord.getD k 0)
          ∧ u.dict = s.dict ∧ Flue.Queued u.flue s.flue ∧ u.mods = s.mods)
      ∧ (s.Writes t m Obj.CAL_FIELD_REVERT 0 0 (.num v) →
        (bits v 1 0 = 3 → ∃ u, exec (.calFieldRevert t m v) s = .next u
          ∧ State.Answers u (s.taken t m) m 0x11 (writeReply st.RANGE))
        ∧ (bits v 1 0 ≠ 3 → ∃ u, exec (.calFieldRevert t m v) s = .next u
          ∧ (u.session m.session).cached = some (0x11, writeReply st.OK)
          ∧ stores u (16 + 8 * bits v 11 8 + bits v 1 0) (fun y => ∃ g, y = .field (bits v 1 0) g ∧ g.revert = true
              ∧ g.serial = x.serial ∧ g.digest = x.digest / 2 ^ 256)
          ∧ u.dict = s.dict ∧ u.mods = s.mods)))
  ∧ (∀ (s : State) (t t0 : Cyc) (m : Msg) (sites : List SiteReadings),
      let soak := s.mods.cal.soak
      let sums := sites.map (·.sum)
      (s.Writes t m Obj.CAL_TRIM_RUN 0 0 (.num 1) → s.mods.cal.trimAt = none →
        ∃ u, exec (.calTrimRun t m) s = .next u ∧ (u.session m.session).cached = some (0x11, writeReply st.OK)
          ∧ u.mods = { s.mods with cal := { s.mods.cal with trimAt := some (max s.now t), soak := s.rd Obj.CAL_TRIM_SOAK } }
          ∧ u.dict = s.dict ∧ u.nv = s.nv ∧ u.lamp = s.lamp)
      ∧ (s.live = true → s.mods.cal.trimAt = some t0 → t0 + seconds 10 ≤ max s.now t →
        let rough := (sites.any fun q => decide (4 < q.most - q.least))
          || decide (24 * 400 < (sortInt sums).getLastD 0 - (sortInt sums).headD 0)
        let wide := sums.any fun q => decide (s.nat Obj.CAL_TRIM_MAX * 8 * 400 < (400 * soak - q).natAbs)
        let reason : Nat := if s.trimActive then 0x13 else if s.nat Obj.THERM_BROKEN ≠ 0 then 0x14 else if rough then 0x11
          else if wide then 0x12 else 0
        ∃ u, exec (.trimRunEnd t sites) s = .next u ∧ u.nat Obj.CAL_TRIM_REASON = reason
          ∧ u.mods = { s.mods with cal := { s.mods.cal with trimAt := none } }
          ∧ (reason ≠ 0 → u.nv = s.nv ∧ (s.flt.running = true → ∃ e ∈ u.flt.queue, e.src = 0x77 ∧ e.value = reason))
          ∧ (reason = 0 → u.flt = s.flt ∧ ∃ y, (0, y) ∈ u.nv.busy ++ u.nv.waiting ∧ y.region = 3
              ∧ y.payload = .trim (sums.map fun q => roundAway (400 * soak - q) 400))
          ∧ u.lamp = s.lamp ∧ u.sess = s.sess)
      ∧ (s.live = true → s.mods.cal.trimAt = some t0 → max s.now t < t0 + seconds 10 →
        exec (.trimRunEnd t sites) s = .next { s with now := max s.now t }))

/-! ### Identity, modules and thermal protection (R362 to R391) -/

/-- R364 to R367 at the device itself: a genuine OPEN whose role an anchor grants takes the lowest free slot at its
reset epoch, and the reply carries the payload of R364; one for the chimney's session takes slot 0 of a tile; a claim installs its key first; one that fails
a check is DENIED, counted and logged; with no slot free it is SESSIONS_FULL; the ninth within a second is dropped, and one of another VERSION is dropped and
counted (Table 2-7). R44: a sender forwards one that names a chimney, to a reachable tile or to all, and answers
UNREACHABLE for a tile that is not reachable. -/
def Obligations.SessionsAreOpened : Prop :=
  (∀ (s : State) (t : Cyc) (o : OpenMsg) (c a : Nat), s.live = true → s.isSender = true → s.pairMUp = true →
    o.version = 1 → o.route = .chimney c a →
    (a ≠ 0xFF → s.unreachable c a = true → o.transport = .mgmt → ∃ u, exec (.openMsg t o) s = .next u ∧ u.sess = s.sess
      ∧ u.flue = s.flue ∧ u.out.head? = some (max s.now t, .untagged 0x01 st.UNREACHABLE (openHeader o)))
    ∧ ((a = 0xFF ∨ s.unreachable c a = false) → (o.transport = .mgmt ∨ o.transport = .svc) →
      ∃ u n, exec (.openMsg t o) s = .next u ∧ 24 + 228 ≤ n ∧ n < 24 + 228 + 720
        ∧ u.chim c = { s.chim c with fwd := (s.chim c).fwd ++ [(0x01, (openHeader o), n)] }
        ∧ u.sess = { s.sess with fwdOpen := s.sess.fwdOpen ++ [(c, a, o.cert.digest)] } ∧ u.out = s.out))
  ∧ ∀ (s : State) (t : Cyc) (o : OpenMsg) (k : Nat) (role : SessRole) (row : ObjRow), s.live = true →
    s.hears o.transport = true → (o.route = .device ∨ s.isTile = true ∨ s.pairMUp = false) →
    let recent := s.mods.opens.filter fun x => decide (max s.now t < x + seconds 1)
    let opened (u : State) (j : Nat) (r : SessRole) : Prop :=
      (u.session j).st = 2 ∧ (u.session j).role = r ∧ (u.session j).transport = o.transport
        ∧ (u.session j).cert = o.cert.digest ∧ (u.session j).seq = 0 ∧ (u.session j).cached = none
        ∧ (∀ i, i ≠ j → u.session i = s.session i) ∧ u.flt = s.flt ∧ u.nv = s.nv ∧ u.shadow = s.shadow ∧ u.lamp = s.lamp
    let refused (u : State) : Prop := u.sess = s.sess ∧ u.blob = s.blob ∧ u.nv = s.nv ∧ u.lamp = s.lamp
    let denied : Prop := ∃ u, exec (.openMsg t o) s = .next u ∧ refused u
      ∧ (s.rd Obj.SEC_OPEN_FAILS < 4294967295 → u.rd Obj.SEC_OPEN_FAILS = s.rd Obj.SEC_OPEN_FAILS + 1)
      ∧ (s.flt.running = true → ∃ e ∈ u.flt.queue, e.src = 0x78)
      ∧ (o.transport ≠ .svc → u.out.head? = some (max s.now t, .untagged 0x01 st.DENIED (openHeader o)))
    (o.version ≠ 1 → exec (.openMsg t o) s = .next ((s.upTo t).bump Obj.DICT_AUTH_FAILS))
    ∧ (o.version = 1 → 8 ≤ recent.length →
      exec (.openMsg t o) s = .next { s with now := max s.now t, mods := { s.mods with opens := recent } })
    ∧ (o.version = 1 → recent.length < 8 →
      (o.layoutOk = false → denied)
      ∧ (o.layoutOk = true → o.forSlot0 = true →
        (s.opens0 o = true → o.sigOk = true → ∃ u, exec (.openMsg t o) s = .next u ∧ (u.session 0).st = 2
          ∧ (u.session 0).role = .integrator ∧ (u.session 0).cert = o.cert.digest
          ∧ ∀ i, i ≠ 0 → u.session i = s.session i)
        ∧ ((s.opens0 o = false ∨ o.sigOk = false) → denied))
      ∧ (o.layoutOk = true → o.forSlot0 = false →
        ((s.openRole o = none ∨ o.sigOk = false) → denied)
        ∧ (s.openRole o = some role → o.sigOk = true →
          (s.anchorGrants o.cert.issuer role = true → s.freeSlot = some k →
            ∃ u, exec (.openMsg t o) s = .next u ∧ opened u k role ∧ (u.session k).epoch = (s.session k).epoch
              ∧ u.blob = s.blob
              ∧ (o.transport ≠ .svc → ∃ ePub nonce sig, u.out.head? = some (max s.now t, .reply o.transport k 0 0x01
                  { status := st.OK, info := (openReply k (s.session k).epoch ePub nonce sig).map fun b => (b.toNat : Int) })))
          ∧ (s.anchorGrants o.cert.issuer role = false → s.claims o = some (row, role) → s.freeSlot = some k →
            ∃ u, exec (.openMsg t o) s = .next u ∧ opened u k role
              ∧ u.blob = (s.setAnchor row 0 (toBytes 97 o.cert.key)).blob
              ∧ (role = .integrator → u.rdAt Obj.SEC_CLIENT_ROLES 0 0 = 0x0E))
          ∧ (s.anchorGrants o.cert.issuer role = true → s.freeSlot = none → ∃ u, exec (.openMsg t o) s = .next u ∧ refused u
            ∧ u.flt = s.flt
            ∧ (o.transport ≠ .svc → u.out.head? = some (max s.now t, .untagged 0x01 st.SESSIONS_FULL (openHeader o)))))))

/-- R362 and R369: an anchor written ends, abnormally, each other session whose certificate no anchor verifies with its
role any more, and no other; a firmware key is revoked for good, but not one that a running component rests on, nor the last. -/
def Obligations.AnchorsAndKeysAreChanged : Prop :=
  ∀ (s : State) (t : Cyc) (m : Msg) (kind : AnchorKind) (j k : Nat) (key : List Byte),
    (let row := match kind with | .client => Obj.SEC_CLIENT_ANCHOR | .safety => Obj.SEC_SAFETY_ANCHOR
     s.Writes t m row 0 j (.window 0 key) →
     ∃ u, exec (.anchorWrite t m kind j key) s = .next u ∧ u.blob = (s.setAnchor row j key).blob ∧ u.nv = s.nv
      ∧ u.shadow = s.shadow ∧ u.shadowBlob = s.shadowBlob ∧ u.lamp = s.lamp
      ∧ ∀ i < 64, i ≠ m.session →
        let x := s.session i
        let rests : Prop := x.role = .vendor ∨ (s.isTile = true ∧ i = 0)
          ∨ (x.role = .safety ∧ s.isSender = true ∧ x.anchor ≠ 0 ∧ ∃ a < 2, u.anchorAt Obj.SEC_SAFETY_ANCHOR a = x.anchor)
          ∨ (x.role ≠ .safety ∧ x.anchor ≠ 0 ∧ ∃ a < 2, u.anchorAt Obj.SEC_CLIENT_ANCHOR a = x.anchor
            ∧ (roleBit x.role).any (fun b => bit (u.natAt Obj.SEC_CLIENT_ROLES 0 a) b) = true)
        ((x.st ≠ 2 ∨ rests) → u.session i = x)
        ∧ (x.st = 2 → ¬ rests → (u.session i).st = 0 ∧ (u.session i).epoch = (x.epoch + 1) % 65536))
    ∧ (s.Writes t m Obj.SEC_FW_REVOKE 0 0 (.num k) →
      let runs : Prop := ∃ c < 3, ∃ h, s.validImage (s.natAt Obj.BOOT_ACTIVE_SLOT 0 c) c = some h ∧ h.key = k
      let after := setBit s.nv.revoked k true
      ((runs ∨ (after = 15 ∧ s.nv.revoked ≠ 15)) → ∃ u, exec (.secFwRevoke t m k) s = .next u
        ∧ State.Answers u (s.taken t m) m 0x11 (writeReply st.BUSY))
      ∧ (¬ runs → (after = 15 → s.nv.revoked = 15) → ∃ u, exec (.secFwRevoke t m k) s = .next u
        ∧ (u.session m.session).cached = some (0x11, writeReply st.OK) ∧ u.nv = { s.nv with revoked := after }
        ∧ u.nat Obj.SEC_FW_REVOKED = after ∧ u.blob = s.blob ∧ u.lamp = s.lamp ∧ u.mods = s.mods))

/-- R374 and R375: a poll comes at most once a second, and one that finds no module, or cannot read one, leaves the position absent and unbound; what an
earlier poll found changes nothing; a new package that passes every check is bound, its residuals cleared and the
change counted; one that fails a check, or whose serial a lower position has bound, is not bound and is logged. R381:
MOD_SERVICE with bit 15 puts the position into service: a bound module's dose and burn records are stored, and
MOD_STATE reads 6 only once both stores are done; without it the position leaves service. -/
def Obligations.ModulesAreBoundAndServiced : Prop :=
  (∀ (s : State) (t : Cyc) (m : Nat) (f : ModuleFound), s.live = true → s.isTile = true → s.configured = true →
      bit (s.nat Obj.MOD_ENABLE) m = true → m < 16 →
      let x := s.module m
      let same : Prop := ∃ g, x.found = some g ∧ x.polled = true ∧ sameModule g f = true
      let twice : Prop := ∃ k < m, (s.module k).bound = true ∧ (s.module k).serial = pkgSerial f
      let others (u : State) : Prop := (∀ k, k ≠ m → u.module k = s.module k) ∧ u.sess = s.sess ∧ u.flue = s.flue ∧ u.time = s.time
      let absent (found : Option ModuleFound) : Prop := ∃ u, exec (.modulePoll t m found) s = .next u
        ∧ u.rdAt Obj.MOD_STATE m 0 = 1 ∧ u.rdAt Obj.MOD_SERIAL m 0 = 0 ∧ (u.module m).bound = false
        ∧ (u.module m).found = none ∧ u.flt.held 0x4F = true ∧ others u
      let unbound (code src : Nat) : Prop := ∃ u, exec (.modulePoll t m (some f)) s = .next u
        ∧ u.natAt Obj.MOD_STATE m 0 = code ∧ (u.module m).bound = false ∧ (u.module m).found = some f
        ∧ u.flt.held src = true ∧ others u
      ((s.upTo t).pollDue m = false → exec (.modulePoll t m (some f)) s = .next { s with now := max s.now t })
      ∧ ((s.upTo t).pollDue m = true → s.natAt Obj.MOD_STATE m 0 ≠ 1 → absent none ∧ (f.readOk = false → absent (some f)))
      ∧ ((s.upTo t).pollDue m = true → f.readOk = true → same → (x.bound = false ∨ x.firstPoll = false) →
        exec (.modulePoll t m (some f)) s = .next ((s.upTo t).setModule m { x with pollAt := some (max s.now t) }))
      ∧ ((s.upTo t).pollDue m = true → f.readOk = true → ¬ same →
        (s.packageOk m f = false → unbound 4 0x50)
        ∧ (s.packageOk m f = true → twice → unbound 5 0x51)
        ∧ (s.packageOk m f = true → ¬ twice → (x.bound = false ∨ x.serial ≠ pkgSerial f ∨ x.digest ≠ f.digest) →
          ∃ u, exec (.modulePoll t m (some f)) s = .next u ∧ (u.module m).bound = true ∧ (u.module m).serial = pkgSerial f
            ∧ (u.module m).digest = f.digest ∧ (u.module m).sets = (pkgSets f).map loadSet ∧ (u.module m).due = true
            ∧ u.rdAt Obj.MOD_STATE m 0 = 3 ∧ u.natAt Obj.MOD_SERIAL m 0 = pkgSerial f
            ∧ u.natAt Obj.MOD_SIZE m 0 = pkgWidth f * 65536 + pkgHeight f ∧ u.natAt Obj.MOD_RATED m 0 = pkgRated f
            ∧ (∀ k ∈ u.moduleLamps m, (u.lampOf k).res = 0)
            ∧ (s.rdAt Obj.MOD_BINDS m 0 < 4294967295 → u.rdAt Obj.MOD_BINDS m 0 = s.rdAt Obj.MOD_BINDS m 0 + 1) ∧ others u)))
  ∧ (∀ (s : State) (t : Cyc) (m : Msg) (n : Nat),
      let k := n % 16
      let x := s.module k
      (s.Writes t m Obj.MOD_SERVICE 0 0 (.num (0x8000 + k : Nat)) →
        ∃ u, exec (.modServiceEnter t m n) s = .next u ∧ (u.session m.session).cached = some (0x11, writeReply st.OK)
          ∧ (u.module k).service = true ∧ (u.module k).bound = x.bound ∧ u.dict = s.dict
          ∧ (u.module k).stores = (if x.bound then s.historyStores k + 2 else 0)
          ∧ (x.bound = true → (∃ d, (k + 1, d) ∈ u.nv.busy ++ u.nv.waiting ∧ d.region = 16 + 8 * k + 3
                ∧ d.payload = .dose x.serial ((s.moduleLamps k).map fun j => (s.lampOf j).table))
              ∧ ∃ d h, (k + 1, d) ∈ u.nv.busy ++ u.nv.waiting ∧ d.region = 16 + 8 * k + 4
                ∧ d.payload = .burn x.serial (s.burn k) h)
          ∧ (x.bound = false → u.nv = s.nv) ∧ (∀ i, i ≠ k → u.module i = s.module i) ∧ u.lamp = s.lamp)
      ∧ (s.Writes t m Obj.MOD_SERVICE 0 0 (.num (k : Nat)) →
        ∃ u, exec (.modServiceLeave t m n) s = .next u ∧ (u.session m.session).cached = some (0x11, writeReply st.OK)
          ∧ u.module k = { x with service := false, stores := 0 }
          ∧ u.natAt Obj.MOD_STATE k 0 = (if s.natAt Obj.MOD_STATE k 0 = 6 then 3 else s.natAt Obj.MOD_STATE k 0)
          ∧ u.nv = s.nv ∧ (∀ i, i ≠ k → u.module i = s.module i) ∧ u.lamp = s.lamp))

/-- R384 to R386, R390 and R391: a conversion, at most one in 25 us, shows every site; a site outside the curve, or more than 8 degrees from
its last reading, is broken for good; a rise enters the highest stage reached, and a fall below the entry less the
hysteresis leaves it; a healthy site with three votes shuts the device down: sessions end, both pairs are held and
strands halt, with SCN inactive (R306). R386 and R387: pair C applies a new stage at its next loop period: runs pause from stage 1 on, and from
stage 2 on unused ports are off; a module whose last valid temperature is older than THERM_MOD_STALE is marked, held
and logged. -/
def Obligations.SitesAreConvertedAndStagesApplied : Prop :=
  (∀ (s : State) (t : Cyc) (raw : List Int), s.live = true →
      let c := (s.upTo t).convertSites raw
      let hot := c.siteEffective c.hottestSite
      let cur := s.nat Obj.THERM_STAGE
      let reached := maxNat ((List.range 4).filter fun k => k = 0 || decide (c.stageEntry k ≤ hot))
      let voted : Prop := ∃ n ∈ c.healthySites, 3 ≤ look 0 n c.mods.thermal.votes
      ((s.upTo t).conversionDue = false → exec (.sensorConversion t raw) s = .next { s with now := max s.now t })
      ∧ ((s.upTo t).conversionDue = true → ∃ u, exec (.sensorConversion t raw) s = .next u
        ∧ (∀ n < 24, (-32768 ≤ s.siteReading raw n → s.siteReading raw n ≤ 32767 →
              u.rdAt Obj.THERM_SITE_TEMP 0 n = s.siteReading raw n)
            ∧ look 0 n u.mods.thermal.last = s.siteReading raw n
            ∧ ((s.siteBroken n = true ∨ s.siteImplausible raw n = true) → u.siteBroken n = true))
        ∧ u.nat Obj.THERM_HOTTEST = c.hottestSite ∧ u.mods.thermal.convAt = some (max s.now t)
        ∧ u.nat Obj.THERM_STAGE = (if cur < reached then reached
            else if reached < cur ∧ hot < c.stageEntry cur - c.nat Obj.THERM_HYST then reached else cur)
        ∧ u.mods.mods = s.mods.mods ∧ u.shadow = s.shadow ∧ u.nv = s.nv
        ∧ ((¬ voted ∨ s.mods.thermal.shutdown = true) → u.mods.thermal.shutdown = s.mods.thermal.shutdown
            ∧ u.sess = s.sess ∧ u.strands = s.strands ∧ u.sys = s.sys)
        ∧ (voted → s.mods.thermal.shutdown = false → u.mods.thermal.shutdown = true ∧ u.rd Obj.DEV_PAIR_M_STATE = 2
            ∧ u.rd Obj.DEV_PAIR_C_STATE = 2 ∧ u.sys.phase = .responder ∧ u.sys.dataPlane = false
            ∧ (∀ k < 64, (u.session k).st = 0) ∧ u.flt.held 0x74 = true
            ∧ (∀ n < 8, (max s.now t, Tx.pin (.trim n) (s.rdAt Obj.THERM_SD_TRIM 0 n)) ∈ u.out)
            ∧ (s.isTile = true → u.seq.off = true ∧ ∀ n ∈ enabledStrands s.rdAt, (u.strand n).halted = true
                ∧ ∃ a, (max s.now t, Tx.strand n a haltSymbol) ∈ u.out))))
  ∧ (∀ (s : State) (t : Cyc) (m : Nat), s.live = true → m < 16 →
      let stage := s.nat Obj.THERM_STAGE
      let x := s.module m
      (s.pairCUp = true → s.mods.thermal.applied ≠ stage → ∃ u, exec (.thermalStageApply t) s = .next u
        ∧ u.mods.thermal.applied = stage ∧ u.mods.thermal.pausedAt.isSome = decide (0 < stage)
        ∧ u.mods.thermal.shutdown = s.mods.thermal.shutdown
        ∧ (2 ≤ stage → s.configured = true → ∀ p < 16, s.named p = false → u.txState p = 0)
        ∧ u.lamp = s.lamp ∧ u.strands = s.strands ∧ u.sess = s.sess ∧ u.nv = s.nv)
      ∧ ((s.pairCUp = false ∨ s.mods.thermal.applied = stage) →
        exec (.thermalStageApply t) s = .next { s with now := max s.now t })
      ∧ (s.isTile = true → x.bound = true → x.lost = false →
        x.tempAt.getD x.boundAt + ms (s.nat Obj.THERM_MOD_STALE) ≤ max s.now t →
        ∃ u, exec (.moduleTempStale t m) s = .next u ∧ u.module m = { x with lost := true }
          ∧ u.rdAt Obj.THERM_MOD_STATE m 0 = 2 ∧ u.flt.held 0x75 = true
          ∧ (s.flt.running = true → ∃ e ∈ u.flt.queue, e.src = 0x75 ∧ e.unit = m)
          ∧ u = { s with now := max s.now t, dict := u.dict, flt := u.flt, mods := u.mods }
          ∧ ∀ k, k ≠ m → u.module k = s.module k))

/-! ### The fault collector (R395 to R407) -/

/-- R395 to R399, R403 and R405: the collector takes its first event by the order of R395 and counts it; the source
becomes active, and severe when its ring is full within the window or its kind is severe at once; an entry of the Ash
log is written when the state rises or the log gap has run. An injected event does so on the shadow side. -/
def Obligations.EventsAreTaken : Prop :=
  ∀ (s : State) (t : Cyc) (e : FEvent), s.live = true →
    let inj := e.injected
    let x := s.side inj e.src
    let cfg := s.fltCfg e.src
    let ring := (e.wall :: x.ring).take (cfgN cfg)
    let atOnce := e.src == 0x74 || (!inj && (e.src == 0x67 || e.src == 0x7B) && s.flt.held e.src)
    let full := ring.length == cfgN cfg && decide ((e.wall : Int) - ring.getLastD 0 ≤ cfgWindow18 cfg)
    let severe := x.state != 2 && (atOnce || full)
    let due := match x.logged with
      | some t0 => decide (t0 + ms (s.nat Obj.FLT_LOG_GAP) ≤ max s.now t)
      | none => true
    let counter := if inj then Obj.FLT_SHADOW_COUNT else Obj.FLT_EVENTS
    (s.flt.queue = [] → exec (.faultEvent t) s = .next { s with now := max s.now t })
    ∧ (firstEvent s.flt.queue = some e → e.src < 128 → ∃ u, exec (.faultEvent t) s = .next u
      ∧ (∃ l, u.flt.queue = s.flt.queue.erase e ++ l)
      ∧ (s.rdAt counter 0 e.src < 4294967295 → u.rdAt counter 0 e.src = s.rdAt counter 0 e.src + 1)
      ∧ u.nv = s.nv ∧ u.lamp = s.lamp ∧ u.shadow = s.shadow ∧ u.blob = s.blob
      ∧ (∀ k b, (k ≠ e.src ∨ b ≠ inj) → u.side b k = s.side b k)
      ∧ (e.src ≠ 0x7C → (u.side inj e.src).state = (if severe then 2 else max x.state 1) ∧ (u.side inj e.src).ring = ring
          ∧ (u.side inj e.src).last = e.at_
          ∧ (severe = true → (u.side inj e.src).unit = e.unit ∧ (u.side inj e.src).since = e.at_
            ∧ (u.side inj e.src).acts = (!inj || bit cfg 1)))
      ∧ ((e.src = 0x7C ∨ x.state = 0 ∨ severe = true ∨ due = true) →
          (∃ a, u.flt.ash = (a :: s.flt.ash).take 64 ∧ a.source = e.src ∧ a.injected = inj ∧ a.unit = e.unit % 256
            ∧ a.value = e.value % 65536 ∧ a.count = min (x.count + 1) 255 ∧ a.clear = false
            ∧ a.severe = (e.src != 0x7C && severe) ∧ a.coincident = (!inj && (s.side true e.src).state != 0))
          ∧ (s.rd Obj.FLT_ASH_SEQ < 4294967295 → u.rd Obj.FLT_ASH_SEQ = s.rd Obj.FLT_ASH_SEQ + 1))
      ∧ (e.src ≠ 0x7C → x.state ≠ 0 → severe = false → due = false →
          u.flt.ash = s.flt.ash ∧ u.rd Obj.FLT_ASH_SEQ = s.rd Obj.FLT_ASH_SEQ))

/-- R400 and R403: a source whose condition has ended clears after its quiet time, its shadow side too; FLT_CLEAR
clears a real side, is BUSY while the condition lasts and for therm-shutdown, and RANGE for no source; an injection
queues an event of a defined source, and FLT_INJECT_CLEAR clears every shadow side. R404 to R407: the Ash log is saved
for a severe entry, at most once a minute; a tile repeats its oldest alarm every second; the sender enters a tile's
FAULT in the wall log once for its two paths, keeps the tile's alarm bit by it, and clears the bit after 3 s without
an alarm. -/
def Obligations.SourcesAreClearedAndLogged : Prop :=
  (∀ (s : State) (t : Cyc) (m : Msg) (src v : Nat),
      let quiet := s.natAt Obj.FLT_QUIET 0 src
      let past (x : Side) : Prop := quiet ≠ 0 ∧ x.last + seconds quiet ≤ max s.now t
      let cleared (u : State) (b : Bool) (k : Nat) : Prop := (u.side b k).state = 0
      (s.live = true → src < 128 →
        (past (s.side false src) → s.clearable src = true → ∃ u, exec (.faultQuietExpiry t src) s = .next u
          ∧ cleared u false src ∧ u.nv = s.nv ∧ u.lamp = s.lamp ∧ u.sess = s.sess)
        ∧ (past (s.side true src) → ∃ u, exec (.faultQuietExpiry t src) s = .next u
          ∧ cleared u true src ∧ u.nv = s.nv ∧ u.lamp = s.lamp ∧ u.sess = s.sess)
        ∧ ((¬ past (s.side false src) ∨ s.clearable src = false) → ¬ past (s.side true src) →
          exec (.faultQuietExpiry t src) s = .next { s with now := max s.now t }))
      ∧ (s.Writes t m Obj.FLT_CLEAR 0 0 (.num src) → src ≠ 0xFFFF →
        (128 ≤ src → ∃ u, exec (.fltClearSource t m src) s = .next u
          ∧ State.Answers u (s.taken t m) m 0x11 (writeReply st.RANGE))
        ∧ (src < 128 → s.clearable src = false → ∃ u, exec (.fltClearSource t m src) s = .next u
          ∧ State.Answers u (s.taken t m) m 0x11 (writeReply st.BUSY))
        ∧ (src < 128 → s.clearable src = true → ∃ u, exec (.fltClearSource t m src) s = .next u
          ∧ (u.session m.session).cached = some (0x11, writeReply st.OK) ∧ cleared u false src
          ∧ (∀ k b, (k ≠ src ∨ b = true) → u.side b k = s.side b k) ∧ u.nv = s.nv ∧ u.lamp = s.lamp ∧ u.mods = s.mods))
      ∧ (s.Writes t m Obj.FLT_CLEAR 0 0 (.num 0xFFFF) → ∃ u, exec (.fltClearAll t m) s = .next u
          ∧ (u.session m.session).cached = some (0x11, writeReply st.OK)
          ∧ (∀ k < 128, (s.clearable k = true → cleared u false k) ∧ (s.clearable k = false → u.side false k = s.side false k)
              ∧ u.side true k = s.side true k) ∧ u.nv = s.nv ∧ u.lamp = s.lamp ∧ u.mods = s.mods)
      ∧ (s.Writes t m Obj.FLT_INJECT 0 0 (.num v) →
        (definedSource (bits v 30 24) = false → ∃ u, exec (.fltInject t m v) s = .next u
          ∧ State.Answers u (s.taken t m) m 0x11 (writeReply st.RANGE))
        ∧ (definedSource (bits v 30 24) = true → ∃ u, exec (.fltInject t m v) s = .next u
          ∧ (u.session m.session).cached = some (0x11, writeReply st.OK) ∧ u.dict = s.dict
          ∧ u.flt = { s.flt with queue := s.flt.queue ++ [FEvent.mk (bits v 30 24) (bits v 23 16) (bits v 15 0) (max s.now t)
              (s.upTo t).wall18 true] }))
      ∧ (s.Writes t m Obj.FLT_INJECT_CLEAR 0 0 (.num 1) → ∃ u, exec (.fltInjectClear t m) s = .next u
          ∧ (u.session m.session).cached = some (0x11, writeReply st.OK)
          ∧ (∀ k < 128, cleared u true k ∧ u.side false k = s.side false k) ∧ u.nv = s.nv ∧ u.lamp = s.lamp ∧ u.mods = s.mods))
  ∧ (∀ (s : State) (t : Cyc) (c src w : Nat), s.live = true → c < 8 →
      let due : Prop := if s.mods.thermal.shutdown then s.flt.shutLogged = false
        else s.flt.ashDue = true ∧ ∀ t0, s.flt.ashSaved = some t0 → t0 + seconds 60 ≤ max s.now t
      let key := c * 256 + src
      let again := s.flt.recent.any fun q => decide (max s.now t ≤ q.2.2 + ms 10) && q.1 == key && q.2.1 == w
      let e : AshEntry := { ashEntryOf w with chimney := c, origin := src }
      (due → ∃ u, exec (.ashLogSave t) s = .next u ∧ u.flt.ashDue = false ∧ u.flt.ashSaved = some (max s.now t)
        ∧ (∃ y, (0, y) ∈ u.nv.busy ++ u.nv.waiting ∧ y.region = 4 ∧ y.payload = .ash (s.nat Obj.FLT_ASH_SEQ) s.flt.ash)
        ∧ (∃ l, u.out = l ++ s.out ∧ ∀ q ∈ l, (∃ a n, q.2 = .flashErase 0 a n) ∨ ∃ a b, q.2 = .flashWrite 0 a b)
        ∧ u = { s with now := max s.now t, flt := u.flt, nv := u.nv, out := u.out })
      ∧ (¬ due → exec (.ashLogSave t) s = .next { s with now := max s.now t })
      ∧ (∀ k q, s.isTile = true → s.ownAlarm = true → s.flt.alarmAt + seconds 1 ≤ max s.now t → s.oldestAlarm = some k →
        (s.flt.lastAlarm.find? fun z => z.1 == k) = some q →
        ∃ u, exec (.alarmRepeat t) s = .next u ∧ u.flt.alarmAt = max s.now t
          ∧ u.flt.reports = (if 16 ≤ s.flt.reports.length then s.flt.reports.drop 1 else s.flt.reports)
              ++ [Report.mk q.2 (max s.now t) false false]
          ∧ u = { s with now := max s.now t, dict := u.dict, flt := u.flt, free := u.free })
      ∧ (s.isSender = true → again = true → src ≠ 0xFE →
        exec (.fault t c src w) s = .next { s with now := max s.now t })
      ∧ (s.isSender = true → again = false → ∃ u, exec (.fault t c src w) s = .next u
        ∧ u.flt.wallLog = (e :: s.flt.wallLog).take 64
        ∧ (s.rd Obj.FLT_WALL_SEQ < 4294967295 → u.rd Obj.FLT_WALL_SEQ = s.rd Obj.FLT_WALL_SEQ + 1)
        ∧ (1 ≤ src → src ≤ 128 → u.tileBit Obj.FLT_WALL_ALARM c src =
            (if e.alarm && e.severe then true else if e.clear && !e.alarm then false
              else s.tileBit Obj.FLT_WALL_ALARM c src))
        ∧ u.lamp = s.lamp ∧ u.flue = s.flue ∧ u.sess = s.sess ∧ u.nv = s.nv)
      ∧ (s.isSender = true → 1 ≤ src → src ≤ 128 → s.tileBit Obj.FLT_WALL_ALARM c src = true →
        look 0 key s.flt.wallSeen + seconds 3 ≤ max s.now t →
        ∃ u, exec (.wallAlarmTimeout t c src) s = .next u ∧ u.tileBit Obj.FLT_WALL_ALARM c src = false
          ∧ u.flt.wallLog = s.flt.wallLog ∧ u.lamp = s.lamp ∧ u.flue = s.flue ∧ u.sess = s.sess ∧ u.nv = s.nv))

/-! ### Saves, stores, boot and update (R64 to R67, R356, R357, R411 to R425) -/

/-- R64 and R66: a save writes the persistent values in force to the other area, and a second one waits for the first;
an automatic save comes PERSIST_INTERVAL after the last one. R67: PERSIST_DEFAULTS returns the shadows of its areas to
their defaults, and an automatic save falls due where it changed a persistent value; one that names the Safety area is
refused, and so is one of a locked area. R356 and R357: where no other store waits for its device, a store that passes
at its first attempt or at its repeat, for which its record is sent anew, gets its flag, and the slot it chose holds
SEQ + 1 and the record; the slots stand where it fails; what the record is for takes it into use, and the
ends of a save and of a photometric run follow. (The regions of the 16 modules end at 143.) -/
def Obligations.SavesAndStoresEnd : Prop :=
  (∀ (s : State) (t : Cyc) (m : Msg) (mask : Nat),
      let a := s.taken t m
      let saving (u : State) : Prop := u.rd Obj.PERSIST_STATE = 1 ∧ u.sess.lastSave = max s.now t ∧ u.sess.autoDue = false
        ∧ u.shadow = s.shadow ∧ u.lamp = s.lamp ∧ u.flt = s.flt
        ∧ ∃ y, (0, y) ∈ u.nv.busy ++ u.nv.waiting ∧ y.region = 5 ∧ y.payload = s.configPayload
          ∧ ((∀ q ∈ s.nv.busy, q.1 ≠ 0) → y.slot = some (s.saveSlot.getD (storeSlot (s.slotPair 5))))
      let refuses (status : Nat) : Prop := ∃ u, exec (.persistDefaults t m mask) s = .next u
        ∧ State.Answers u a m 0x11 (writeReply status)
      (s.Writes t m Obj.PERSIST_SAVE 0 0 (.num 1) →
        (s.nat Obj.PERSIST_STATE ≠ 1 → ∃ u, exec (.persistSave t m) s = .next u
          ∧ (u.session m.session).cached = some (0x11, writeReply st.OK) ∧ saving u)
        ∧ (s.nat Obj.PERSIST_STATE = 1 → ∃ u, exec (.persistSave t m) s = .next u
          ∧ (u.session m.session).cached = some (0x11, writeReply st.OK) ∧ u.sess.saveAgain = true ∧ u.nv = s.nv
          ∧ u.dict = s.dict))
      ∧ (s.live = true → s.pairMUp = true → s.sess.autoDue = true → s.flag Obj.PERSIST_AUTO = true →
        s.sess.lastSave + seconds (s.nat Obj.PERSIST_INTERVAL) ≤ max s.now t → s.nat Obj.PERSIST_STATE ≠ 1 →
        ∃ u, exec (.persistAutoSave t) s = .next u ∧ saving u)
      ∧ (s.live = true → s.sess.autoDue = false → exec (.persistAutoSave t) s = .next { s with now := max s.now t })
      ∧ (s.Writes t m Obj.PERSIST_DEFAULTS 0 0 (.num mask) →
        (bit mask 21 = true → refuses st.DENIED)
        ∧ (mask < 2 ^ 21 → s.scopeLocked m.session mask = true → refuses st.LOCKED)
        ∧ (mask < 2 ^ 21 → s.scopeLocked m.session mask = false → ∃ u, exec (.persistDefaults t m mask) s = .next u
          ∧ (max s.now t, Tx.reply m.transport m.session m.seq 0x11 (writeReply st.OK)) ∈ u.out
          ∧ u.shadow = s.shadow.filter (fun q => !inScope mask q.1)
          ∧ u.shadowBlob = s.shadowBlob.filter (fun q => !inScope mask (q.1 / 2 ^ 32))
          ∧ (u.flag Obj.PERSIST_AUTO = true → u.dict.filter (fun q => keptKey q.1) ≠ s.dict.filter (fun q => keptKey q.1) →
              u.sess.autoDue = true))))
  ∧ (∀ (s : State) (t : Cyc) (dev : FlashDev) (first second : Bool) (x : Store) (i r : Nat) (g : FieldSet), s.live = true → x.region < 144 →
      let d := match dev with | .boot => 0 | .module k => k + 1
      let mine := s.runStores x.region x.payload
      let k := (x.region - 16) / 8
      let done := setSlotIn (s.slotPair x.region) (x.slot.getD 0) (some (newestSeq (s.slotPair x.region) + 1, x.payload))
      ((∀ q ∈ s.nv.busy, q.1 ≠ d) → s.sess.saveAgain = false →
        exec (.flashStoreDone t dev first second) s = .next { s with now := max s.now t })
      ∧ ((s.nv.busy.find? fun q => q.1 == d) = some (d, x) → (∀ q ∈ s.nv.waiting, q.1 ≠ d) → s.sess.saveAgain = false →
        ∃ u, exec (.flashStoreDone t dev first second) s = .next u ∧ u.nv.busy = s.nv.busy.filter (fun q => q.1 != d)
          ∧ u.nv.waiting = s.nv.waiting ∧ u.lamp = s.lamp ∧ u.shadow = s.shadow
          ∧ (first = false → ∀ y ∈ bodyOps x.region (x.slot.getD 0) (newestSeq (s.slotPair x.region) + 1) (s.upTo t).wall18
              x.payload, (max s.now t, y) ∈ u.out)
          ∧ (mine = true → s.mods.cal.stop = some r → u.rd Obj.CAL_STATE = 5 ∧ u.nat Obj.CAL_REASON = r
              ∧ u.slotPair x.region = s.slotPair x.region)
          ∧ ((mine = false ∨ s.mods.cal.stop = none) →
            ((first || second) = true → u.slotPair x.region = done ∧ u.flt = s.flt
              ∧ (max s.now t, flagOp x.region (x.slot.getD 0) (newestSeq (s.slotPair x.region) + 1)) ∈ u.out
              ∧ (mine = true → u.rd Obj.CAL_STATE = 5 ∧ u.nat Obj.CAL_REASON = s.nat Obj.CAL_REASON)
              ∧ (x.region = 5 → u.rd Obj.PERSIST_STATE = 0
                  ∧ (s.rd Obj.PERSIST_SAVES < 4294967295 → u.rd Obj.PERSIST_SAVES = s.rd Obj.PERSIST_SAVES + 1))
              ∧ (x.payload = .field i g → (u.module k).fields = setAt (s.module k).fields i (some g)))
            ∧ ((first || second) = false → u.slotPair x.region = s.slotPair x.region
              ∧ (mine = true → u.rd Obj.CAL_STATE = 5 ∧ u.rd Obj.CAL_REASON = 0x0C)
              ∧ (x.region = 5 → u.rd Obj.PERSIST_STATE = 2)
              ∧ (s.flt.running = true → ∃ e ∈ u.flt.queue, e.src = (match x.payload with
                  | .dose .. => 0x55 | .burn .. => 0x55 | _ => 0x4E))))))

/-- R419 and R420: a service frame with a bad check is counted and dropped, one at hop 0 is taken, and another goes on
with one hop less, or is dropped and counted where four wait; BOOT_RELEASE_M starts a pair M that is held, by the strap or
by R14, and is refused, with a status that the manual does not give (log 48), in a latched shutdown or without an image. R442: a JTAG instruction other than the four acts as BYPASS,
and IDCODE answers the code of the device. -/
def Obligations.ServiceAndBoundaryScan : Prop :=
  ∀ (s : State) (t : Cyc) (m : Msg) (f : SvcFrame) (code : Nat),
    let hop := if f.hop = 0xFFFF then f.hop else f.hop - 1
    let j := if 1 ≤ code ∧ code ≤ 3 then code else 0xFF
    (s.live = true →
      (svcOk f = false → s.rd Obj.SVC_CRC_ERRORS < 4294967295 → exec (.svcFrame t f) s =
        .next ((s.upTo t).wr Obj.SVC_CRC_ERRORS (s.rd Obj.SVC_CRC_ERRORS + 1)))
      ∧ (svcOk f = true → f.hop = 0 → s.rd Obj.SVC_FRAMES < 4294967295 → exec (.svcFrame t f) s =
        .next ((s.upTo t).wr Obj.SVC_FRAMES (s.rd Obj.SVC_FRAMES + 1)))
      ∧ (svcOk f = true → f.hop ≠ 0 → (s.upd.svc.filter fun y => decide (max s.now t < y)).length < 4 →
        ∃ u, exec (.svcFrame t f) s = .next u ∧ u.out = (max s.now t, Tx.svcFwd (SvcFrame.mk hop f.len f.message
            (crc32 (toBytes 2 hop ++ toBytes 2 f.len ++ f.message)))) :: s.out
          ∧ u = { s with now := max s.now t, out := u.out, upd := { s.upd with svc := u.upd.svc } })
      ∧ (svcOk f = true → f.hop ≠ 0 → 4 ≤ (s.upd.svc.filter fun y => decide (max s.now t < y)).length →
        s.rd Obj.SVC_DROPS < 4294967295 → ∃ u, exec (.svcFrame t f) s = .next u
          ∧ u.rd Obj.SVC_DROPS = s.rd Obj.SVC_DROPS + 1 ∧ u.out = s.out
          ∧ u = { s with now := max s.now t, dict := u.dict, upd := { s.upd with svc := u.upd.svc } }))
    ∧ (s.Writes t m Obj.BOOT_RELEASE_M 0 0 (.num 1) → s.mods.thermal.shutdown = false →
      s.natAt Obj.BOOT_ACTIVE_SLOT 0 2 ≠ 0xFF →
      ((s.pairMUp = true ∨ (s.sys.loading = true ∧ s.nat Obj.DEV_PAIR_M_STATE = 1)) → ∃ u, exec (.bootReleaseM t m) s = .next u
        ∧ State.Answers u (s.taken t m) m 0x11 (writeReply st.OK))
      ∧ (s.pairMUp = false → (s.sys.loading = false ∨ s.nat Obj.DEV_PAIR_M_STATE ≠ 1) → ∃ u, exec (.bootReleaseM t m) s = .next u
        ∧ (u.session m.session).cached = some (0x11, writeReply st.OK) ∧ u.rd Obj.DEV_PAIR_M_STATE = 1
        ∧ u.sys = { s.sys with phase := .running, loading := true, serviceHold := false } ∧ u.nv = s.nv ∧ u.lamp = s.lamp
        ∧ u.mods = s.mods))
    ∧ (s.Writes t m Obj.BOOT_RELEASE_M 0 0 (.num 1) →
      (s.mods.thermal.shutdown = true ∨ s.natAt Obj.BOOT_ACTIVE_SLOT 0 2 = 0xFF) →
      ∃ u r, exec (.bootReleaseM t m) s = .next u ∧ r ≠ st.OK ∧ State.Answers u (s.taken t m) m 0x11 (writeReply r))
    ∧ ∃ u, exec (.jtagInstruction t code) s = .next u ∧ u = { s with now := max s.now t, sys := u.sys, out := u.out }
      ∧ u.sys = { s.sys with jtag := j } ∧ u.out = (max s.now t, .jtag j (if j = 3 then idcode else 0)) :: s.out

/-- R421: UPD_BEGIN erases the inactive slot, UPD_IMAGE writes a window of it over SVC alone, and both forget what was
verified there; while an activation runs they are BUSY. UPD_VERIFY judges every non-empty component of the slot: the
lowest failing one is reported with its check, and where none fails the images are verified. Where the boot record names both
slots, each is refused with a status that the manual does not give (logs 48 and 54). -/
def Obligations.ImagesAreLoaded : Prop :=
  ∀ (s : State) (t : Cyc) (m : Msg) (off k c : Nat) (bytes : List Byte) (verdicts : List ImageVerdict),
    let a := s.taken t m
    let ok (u : State) : Prop := (u.session m.session).cached = some (0x11, writeReply st.OK) ∧ u.lamp = s.lamp
      ∧ u.mods = s.mods ∧ u.flt = s.flt ∧ u.nv.slots = s.nv.slots ∧ u.nv.fuses = s.nv.fuses
    let code (i : Nat) : Nat := s.verifyCode k i (verdicts.getD i { keyDigestOk := false, sigOk := false, digestOk := false })
    let empty (i : Nat) : Bool := s.imageEmpty k i
    (s.Writes t m Obj.UPD_BEGIN 0 0 (.num 1) →
      (s.activating = true → ∃ u, exec (.updBegin t m) s = .next u ∧ State.Answers u a m 0x11 (writeReply st.BUSY))
      ∧ (s.activating = false → s.inactiveSlot = some k → ∃ u, exec (.updBegin t m) s = .next u ∧ ok u
        ∧ u.rd Obj.UPD_STATE = 1 ∧ u.nv.images = clearRange (k * slotSize) ((k + 1) * slotSize) s.nv.images
        ∧ ∀ i < 3, u.validImage k i = none))
    ∧ (s.Writes t m Obj.UPD_IMAGE 0 0 (.window off bytes) →
      (m.transport ≠ .svc → ∃ u, exec (.updImage t m off bytes) s = .next u
        ∧ State.Answers u a m 0x11 (writeReply st.DENIED))
      ∧ (m.transport = .svc → s.activating = true → ∃ u, exec (.updImage t m off bytes) s = .next u
        ∧ State.Answers u a m 0x11 (writeReply st.BUSY))
      ∧ (m.transport = .svc → s.activating = false → s.inactiveSlot = some k →
        ∃ u, exec (.updImage t m off bytes) s = .next u ∧ ok u ∧ u.rd Obj.UPD_STATE = 1
          ∧ u.nv.images = writeBytes (fun _ => 0xFF) s.nv.images (k * slotSize + off) bytes
          ∧ ∀ i < 3, u.validImage k i = none))
    ∧ (s.activating = false → s.inactiveSlot = none →
      (s.Writes t m Obj.UPD_BEGIN 0 0 (.num 1) → ∃ u r, exec (.updBegin t m) s = .next u ∧ r ≠ st.OK
        ∧ State.Answers u a m 0x11 (writeReply r))
      ∧ (s.Writes t m Obj.UPD_IMAGE 0 0 (.window off bytes) → m.transport = .svc → ∃ u r,
        exec (.updImage t m off bytes) s = .next u ∧ r ≠ st.OK ∧ State.Answers u a m 0x11 (writeReply r))
      ∧ (s.Writes t m Obj.UPD_VERIFY 0 0 (.num 1) → ∃ u r, exec (.updVerify t m verdicts) s = .next u ∧ r ≠ st.OK
        ∧ State.Answers u a m 0x11 (writeReply r)))
    ∧ (s.Writes t m Obj.UPD_VERIFY 0 0 (.num 1) → s.activating = false → s.inactiveSlot = some k →
      ((∀ i < 3, empty i = false → code i = 0) → ∃ u, exec (.updVerify t m verdicts) s = .next u ∧ ok u
        ∧ u.rd Obj.UPD_STATE = 2 ∧ u.rd Obj.UPD_VERIFY_RESULT = 0 ∧ u.nv.images = s.nv.images
        ∧ ∀ i < 3, empty i = false → u.validImage k i = s.imageHeader k i)
      ∧ (c < 3 → empty c = false → code c ≠ 0 → (∀ i < c, empty i = false → code i = 0) →
        ∃ u, exec (.updVerify t m verdicts) s = .next u ∧ ok u ∧ u.rd Obj.UPD_STATE = 7
          ∧ u.nat Obj.UPD_VERIFY_RESULT = c * 64 + code c ∧ u.nv.images = s.nv.images ∧ u.validImage k c = none))

/-- R422 to R425: UPD_ACTIVATE is BUSY during an activation, a photometric run or while a pair is held; else the boot
record names the new slot on trial and the window opens. A kernel set that is loaded says so. A healthy activation is
confirmed: the record says so and the fused counts rise. One that falls back, or whose window runs out, returns the
record to PREVIOUS and is logged. UPD_ACTIVATE without verified images, and UPD_FALLBACK without an activation, are
refused with a status that the manual does not give (log 48). -/
def Obligations.UpdatesAreActivated : Prop :=
  ∀ (s : State) (t : Cyc) (m : Msg) (mask target k : Nat),
    let a := s.taken t m
    let q := s.nat Obj.CAL_STATE
    let busy : Prop := (s.isTile = true ∧ 2 ≤ q ∧ q ≤ 4) ∨ s.activating = true ∨ s.nat Obj.DEV_PAIR_M_STATE = 2
      ∨ s.nat Obj.DEV_PAIR_C_STATE = 2
    let boots (u : State) (l : List (Nat × Nat × Nat)) : Prop := ∃ y, (0, y) ∈ u.nv.busy ++ u.nv.waiting ∧ y.region = 1
      ∧ y.payload = .boot l
    let mine (c : Nat) : Bool := bit mask c && (s.validImage k c).isSome
    let trial := (List.range 3).map fun c =>
      let e := s.bootRecord.getD c (0, 0, 0)
      if mine c then (k, e.1, 1) else e
    let back := s.lastBoot.zipIdx.map fun e => if bit s.upd.mask e.2 then (e.1.2.1, e.1.2.1, 0) else e.1
    let kept := s.lastBoot.zipIdx.map fun e => if bit s.upd.mask e.2 then (e.1.1, e.1.2.1, 0) else e.1
    let fell (u : State) : Prop := u.rd Obj.UPD_STATE = 6 ∧ u.upd.window = false ∧ u.upd.mask = 0 ∧ boots u back
      ∧ (s.flt.running = true → ∃ e ∈ u.flt.queue, e.src = 0x7E) ∧ u.lamp = s.lamp ∧ u.video = s.video
      ∧ u.nv.images = s.nv.images ∧ u.nv.fuses = s.nv.fuses
    (s.Writes t m Obj.UPD_ACTIVATE 0 0 (.num (mask * 2 ^ 48 + target % 2 ^ 48 : Nat)) →
      (busy → ∃ u, exec (.updActivate t m mask target) s = .next u ∧ State.Answers u a m 0x11 (writeReply st.BUSY))
      ∧ (¬ busy → s.nat Obj.UPD_STATE = 2 → s.inactiveSlot = some k → ∃ u, exec (.updActivate t m mask target) s = .next u
        ∧ boots u trial ∧ (u.rd Obj.UPD_STATE = 3 ∨ u.rd Obj.UPD_STATE = 4) ∧ u.upd.window = true
        ∧ u.upd.started = max s.now t ∧ u.upd.target = target % 2 ^ 48 ∧ (∀ c < 3, bit u.upd.mask c = mine c)
        ∧ u.lamp = s.lamp ∧ u.video = s.video ∧ u.nv.images = s.nv.images ∧ u.nv.fuses = s.nv.fuses)
      ∧ (¬ busy → (s.nat Obj.UPD_STATE ≠ 2 ∨ s.inactiveSlot = none) → ∃ u r, exec (.updActivate t m mask target) s = .next u
        ∧ r ≠ st.OK ∧ State.Answers u a m 0x11 (writeReply r)))
    ∧ (s.live = true →
      (s.nat Obj.UPD_STATE = 3 → bit s.upd.mask 0 = true → exec (.kernelLoadDone t) s =
        .next { s with now := max s.now t, upd := { s.upd with loaded := true } })
      ∧ (s.nat Obj.UPD_STATE ≠ 3 → exec (.kernelLoadDone t) s = .next { s with now := max s.now t })
      ∧ (s.nat Obj.UPD_STATE = 4 → (s.upTo t).healthy = true →
        max s.now t < s.upd.started + seconds (s.nat Obj.UPD_CONFIRM_WINDOW) →
        ∃ u, exec (.updConfirm t) s = .next u ∧ u.rd Obj.UPD_STATE = 5 ∧ boots u kept ∧ u.upd.window = false
          ∧ (∀ c < 3, c < s.nv.fuses.length → u.nv.fuses.getD c 0 = if bit s.upd.mask c then max (s.nv.fuses.getD c 0)
              (((s.validImage (kept.getD c (0, 0, 0)).1 c).map (·.svn)).getD 0) else s.nv.fuses.getD c 0)
          ∧ (∀ c < 3, u.natAt Obj.BOOT_SVN_FUSED 0 c = u.nv.fuses.getD c 0)
          ∧ (∃ l, u.out = l ++ s.out ∧ ∀ y ∈ l, (∃ i n, y.2 = .flashErase 0 i n) ∨ ∃ i b, y.2 = .flashWrite 0 i b)
          ∧ u = { s with now := max s.now t, dict := u.dict, nv := u.nv, upd := u.upd, out := u.out })
      ∧ (s.activating = true → s.upd.started + seconds (s.nat Obj.UPD_CONFIRM_WINDOW) ≤ max s.now t →
        ∃ u, exec (.updWindowExpiry t) s = .next u ∧ fell u)
      ∧ (s.activating = false → exec (.updWindowExpiry t) s = .next { s with now := max s.now t }))
    ∧ (s.Writes t m Obj.UPD_FALLBACK 0 0 (.num 1) →
      (s.activating = true → ∃ u, exec (.updFallback t m) s = .next u ∧ fell u)
      ∧ (s.activating = false → ∃ u r, exec (.updFallback t m) s = .next u ∧ r ≠ st.OK
        ∧ State.Answers u a m 0x11 (writeReply r)))

/-! ### Configuration, light-up and boundaries (R9, R48, R131, R417, R418) -/

/-- R417: with a configuration loaded pair M runs at generation 0, and BOOT_CFG_AREA names the area, or 0xFF with the
fault logged where there is none. R418: a tile lights its lamps once it has an address, the time, its strands and
modules and a line. R131: a rate change without lock for three frames ends its hold with the fault logged. R9, R48 and
R50: when its instant has come the next boundary takes place and WFC becomes its number; the sets due by then are
armed no longer, and one that comes into force brings its generation and its values. Before its instant nothing
happens. R25: while the core or the time PLL is out of lock the boundary takes place, and a tile's lamps and reception stay
in their last frame (log 132). -/
def Obligations.ConfigurationAndBoundaries : Prop :=
  (∀ (s : State) (t : Cyc) (k : Nat) (pay : Payload) (held : Nat × List (Nat × HeldLine)), s.live = true →
      (s.sys.phase = .running → s.sys.loading = true → s.nat Obj.DEV_PAIR_M_STATE = 1 → s.activating = false →
        ∃ u, exec (.configLoadDone t) s = .next u ∧ u.rd Obj.DEV_PAIR_M_STATE = 0 ∧ u.rd Obj.COMMIT_GENERATION = 0
          ∧ u.sys.loading = false ∧ u.sys.configAt.isSome = true ∧ u.configured = true
          ∧ (s.configArea = some (k, pay) → (∃ f nums blobs hearth, pay = .config f nums blobs hearth) →
              u.nat Obj.BOOT_CFG_AREA = k)
          ∧ (s.configArea = none → u.rd Obj.BOOT_CFG_AREA = 0xFF
              ∧ (s.flt.running = true → ∃ e ∈ u.flt.queue, e.src = 0x7F)))
      ∧ ((s.sys.phase ≠ .running ∨ s.sys.loading = false) → s.activating = false →
        exec (.configLoadDone t) s = .next { s with now := max s.now t })
      ∧ (s.isTile = true → s.configured = true → s.mods.lit = false → s.paths.address.2 = true → s.time.sched.isSome = true →
        2 ≤ s.nat Obj.TIME_STATE → s.strandsReady = true → s.modulesPolled = true → s.mods.lineSeen = true →
        ∃ u, exec (.tileLightUp t) s = .next u ∧ u.mods = { s.mods with lit := true }
          ∧ (s.power.granted = false → u.rd Obj.PWR_TILE_GRANT = s.rd Obj.PWR_BOOT_GRANT)
          ∧ u = { s with now := max s.now t, dict := u.dict, mods := u.mods })
      ∧ (s.mods.lit = true → exec (.tileLightUp t) s = .next { s with now := max s.now t })
      ∧ (s.lamp.hold = some held → s.isTile = true → held.1 + 6 ≤ s.nat Obj.WFC → s.frameLocked = false →
        ∃ u, exec (.modeHoldTimeout t) s = .next u ∧ u.lamp = { s.lamp with hold := none } ∧ u.rd Obj.TILE_STATE = 2
          ∧ (s.flt.running = true → ∃ e ∈ u.flt.queue, e.src = 0x3B)
          ∧ u = { s with now := max s.now t, dict := u.dict, flt := u.flt, lamp := u.lamp })
      ∧ ((s.lamp.hold = none ∨ s.frameLocked = true) → exec (.modeHoldTimeout t) s = .next { s with now := max s.now t }))
  ∧ (∀ (s : State) (t : Cyc) (k : Nat) (b : Int) (a : ArmedSet), s.live = true →
      (s.nextBoundary = none → exec (.frameBoundary t) s = .next { s with now := max s.now t })
      ∧ (s.nextBoundary = some (k, b) →
        (((s.upTo t).wall18 : Int) < b → exec (.frameBoundary t) s = .next { s with now := max s.now t })
        ∧ (b ≤ ((s.upTo t).wall18 : Int) → ∃ u, exec (.frameBoundary t) s = .next u
          ∧ u.nat Obj.WFC = k ∧ (∀ x ∈ u.sess.armed, x ∈ s.sess.armed ∧ k < x.target)
          ∧ (s.held = true → s.isTile = true → s.sess.armed = [] → u.lamp = s.lamp ∧ u.paths.frames = s.paths.frames)
          ∧ (s.sess.armed = [a] → a.target ≤ k → s.sess.walls = [] → (s.isTile = true → s.lostBoth = false) →
              u.rd Obj.COMMIT_GENERATION = a.gen ∧ u.sess.armed = []
              ∧ (risingFrom 0 a.nums = true → ∀ r ∈ objTable, r.acc = .rws → ∀ i < r.ni, ∀ j < r.ns,
                  inScope a.scope (r.key i j) = true → u.rdAt r i j = look (r.default j) (r.key i j) a.nums)))))
end

