-- ==== Sys2Proof/Laws/State.lean ====
section
/-! SUPPORT. One lemma per field per update of the state, so that no proof unfolds a record update. -/

namespace Sys2Proof.Machine

variable (s : State)

/-! ### State.setSys -/
@[simp] theorem State.setSys_now (x : Sys) : (s.setSys x).now = s.now := rfl
@[simp] theorem State.setSys_role (x : Sys) : (s.setSys x).role = s.role := rfl
@[simp] theorem State.setSys_sys (x : Sys) : (s.setSys x).sys = x := rfl
@[simp] theorem State.setSys_clock (x : Sys) : (s.setSys x).clock = s.clock := rfl
@[simp] theorem State.setSys_time (x : Sys) : (s.setSys x).time = s.time := rfl
@[simp] theorem State.setSys_dict (x : Sys) : (s.setSys x).dict = s.dict := rfl
@[simp] theorem State.setSys_shadow (x : Sys) : (s.setSys x).shadow = s.shadow := rfl
@[simp] theorem State.setSys_blob (x : Sys) : (s.setSys x).blob = s.blob := rfl
@[simp] theorem State.setSys_shadowBlob (x : Sys) : (s.setSys x).shadowBlob = s.shadowBlob := rfl
@[simp] theorem State.setSys_sess (x : Sys) : (s.setSys x).sess = s.sess := rfl
@[simp] theorem State.setSys_flt (x : Sys) : (s.setSys x).flt = s.flt := rfl
@[simp] theorem State.setSys_nv (x : Sys) : (s.setSys x).nv = s.nv := rfl
@[simp] theorem State.setSys_upd (x : Sys) : (s.setSys x).upd = s.upd := rfl
@[simp] theorem State.setSys_video (x : Sys) : (s.setSys x).video = s.video := rfl
@[simp] theorem State.setSys_flue (x : Sys) : (s.setSys x).flue = s.flue := rfl
@[simp] theorem State.setSys_lamp (x : Sys) : (s.setSys x).lamp = s.lamp := rfl
@[simp] theorem State.setSys_strands (x : Sys) : (s.setSys x).strands = s.strands := rfl
@[simp] theorem State.setSys_seq (x : Sys) : (s.setSys x).seq = s.seq := rfl
@[simp] theorem State.setSys_power (x : Sys) : (s.setSys x).power = s.power := rfl
@[simp] theorem State.setSys_mods (x : Sys) : (s.setSys x).mods = s.mods := rfl
@[simp] theorem State.setSys_out (x : Sys) : (s.setSys x).out = s.out := rfl
@[simp] theorem State.setSys_free (x : Sys) : (s.setSys x).free = s.free := rfl
@[simp] theorem State.setSys_pending (x : Sys) : (s.setSys x).pending = s.pending := rfl

/-! ### State.setTime -/
@[simp] theorem State.setTime_now (x : Time) : (s.setTime x).now = s.now := rfl
@[simp] theorem State.setTime_role (x : Time) : (s.setTime x).role = s.role := rfl
@[simp] theorem State.setTime_sys (x : Time) : (s.setTime x).sys = s.sys := rfl
@[simp] theorem State.setTime_clock (x : Time) : (s.setTime x).clock = s.clock := rfl
@[simp] theorem State.setTime_time (x : Time) : (s.setTime x).time = x := rfl
@[simp] theorem State.setTime_dict (x : Time) : (s.setTime x).dict = s.dict := rfl
@[simp] theorem State.setTime_shadow (x : Time) : (s.setTime x).shadow = s.shadow := rfl
@[simp] theorem State.setTime_blob (x : Time) : (s.setTime x).blob = s.blob := rfl
@[simp] theorem State.setTime_shadowBlob (x : Time) : (s.setTime x).shadowBlob = s.shadowBlob := rfl
@[simp] theorem State.setTime_sess (x : Time) : (s.setTime x).sess = s.sess := rfl
@[simp] theorem State.setTime_flt (x : Time) : (s.setTime x).flt = s.flt := rfl
@[simp] theorem State.setTime_nv (x : Time) : (s.setTime x).nv = s.nv := rfl
@[simp] theorem State.setTime_upd (x : Time) : (s.setTime x).upd = s.upd := rfl
@[simp] theorem State.setTime_video (x : Time) : (s.setTime x).video = s.video := rfl
@[simp] theorem State.setTime_flue (x : Time) : (s.setTime x).flue = s.flue := rfl
@[simp] theorem State.setTime_lamp (x : Time) : (s.setTime x).lamp = s.lamp := rfl
@[simp] theorem State.setTime_strands (x : Time) : (s.setTime x).strands = s.strands := rfl
@[simp] theorem State.setTime_seq (x : Time) : (s.setTime x).seq = s.seq := rfl
@[simp] theorem State.setTime_power (x : Time) : (s.setTime x).power = s.power := rfl
@[simp] theorem State.setTime_mods (x : Time) : (s.setTime x).mods = s.mods := rfl
@[simp] theorem State.setTime_out (x : Time) : (s.setTime x).out = s.out := rfl
@[simp] theorem State.setTime_free (x : Time) : (s.setTime x).free = s.free := rfl
@[simp] theorem State.setTime_pending (x : Time) : (s.setTime x).pending = s.pending := rfl

/-! ### State.setSess -/
@[simp] theorem State.setSess_now (x : Sess) : (s.setSess x).now = s.now := rfl
@[simp] theorem State.setSess_role (x : Sess) : (s.setSess x).role = s.role := rfl
@[simp] theorem State.setSess_sys (x : Sess) : (s.setSess x).sys = s.sys := rfl
@[simp] theorem State.setSess_clock (x : Sess) : (s.setSess x).clock = s.clock := rfl
@[simp] theorem State.setSess_time (x : Sess) : (s.setSess x).time = s.time := rfl
@[simp] theorem State.setSess_dict (x : Sess) : (s.setSess x).dict = s.dict := rfl
@[simp] theorem State.setSess_shadow (x : Sess) : (s.setSess x).shadow = s.shadow := rfl
@[simp] theorem State.setSess_blob (x : Sess) : (s.setSess x).blob = s.blob := rfl
@[simp] theorem State.setSess_shadowBlob (x : Sess) : (s.setSess x).shadowBlob = s.shadowBlob := rfl
@[simp] theorem State.setSess_sess (x : Sess) : (s.setSess x).sess = x := rfl
@[simp] theorem State.setSess_flt (x : Sess) : (s.setSess x).flt = s.flt := rfl
@[simp] theorem State.setSess_nv (x : Sess) : (s.setSess x).nv = s.nv := rfl
@[simp] theorem State.setSess_upd (x : Sess) : (s.setSess x).upd = s.upd := rfl
@[simp] theorem State.setSess_video (x : Sess) : (s.setSess x).video = s.video := rfl
@[simp] theorem State.setSess_flue (x : Sess) : (s.setSess x).flue = s.flue := rfl
@[simp] theorem State.setSess_lamp (x : Sess) : (s.setSess x).lamp = s.lamp := rfl
@[simp] theorem State.setSess_strands (x : Sess) : (s.setSess x).strands = s.strands := rfl
@[simp] theorem State.setSess_seq (x : Sess) : (s.setSess x).seq = s.seq := rfl
@[simp] theorem State.setSess_power (x : Sess) : (s.setSess x).power = s.power := rfl
@[simp] theorem State.setSess_mods (x : Sess) : (s.setSess x).mods = s.mods := rfl
@[simp] theorem State.setSess_out (x : Sess) : (s.setSess x).out = s.out := rfl
@[simp] theorem State.setSess_free (x : Sess) : (s.setSess x).free = s.free := rfl
@[simp] theorem State.setSess_pending (x : Sess) : (s.setSess x).pending = s.pending := rfl

/-! ### State.setFlt -/
@[simp] theorem State.setFlt_now (x : Flt) : (s.setFlt x).now = s.now := rfl
@[simp] theorem State.setFlt_role (x : Flt) : (s.setFlt x).role = s.role := rfl
@[simp] theorem State.setFlt_sys (x : Flt) : (s.setFlt x).sys = s.sys := rfl
@[simp] theorem State.setFlt_clock (x : Flt) : (s.setFlt x).clock = s.clock := rfl
@[simp] theorem State.setFlt_time (x : Flt) : (s.setFlt x).time = s.time := rfl
@[simp] theorem State.setFlt_dict (x : Flt) : (s.setFlt x).dict = s.dict := rfl
@[simp] theorem State.setFlt_shadow (x : Flt) : (s.setFlt x).shadow = s.shadow := rfl
@[simp] theorem State.setFlt_blob (x : Flt) : (s.setFlt x).blob = s.blob := rfl
@[simp] theorem State.setFlt_shadowBlob (x : Flt) : (s.setFlt x).shadowBlob = s.shadowBlob := rfl
@[simp] theorem State.setFlt_sess (x : Flt) : (s.setFlt x).sess = s.sess := rfl
@[simp] theorem State.setFlt_flt (x : Flt) : (s.setFlt x).flt = x := rfl
@[simp] theorem State.setFlt_nv (x : Flt) : (s.setFlt x).nv = s.nv := rfl
@[simp] theorem State.setFlt_upd (x : Flt) : (s.setFlt x).upd = s.upd := rfl
@[simp] theorem State.setFlt_video (x : Flt) : (s.setFlt x).video = s.video := rfl
@[simp] theorem State.setFlt_flue (x : Flt) : (s.setFlt x).flue = s.flue := rfl
@[simp] theorem State.setFlt_lamp (x : Flt) : (s.setFlt x).lamp = s.lamp := rfl
@[simp] theorem State.setFlt_strands (x : Flt) : (s.setFlt x).strands = s.strands := rfl
@[simp] theorem State.setFlt_seq (x : Flt) : (s.setFlt x).seq = s.seq := rfl
@[simp] theorem State.setFlt_power (x : Flt) : (s.setFlt x).power = s.power := rfl
@[simp] theorem State.setFlt_mods (x : Flt) : (s.setFlt x).mods = s.mods := rfl
@[simp] theorem State.setFlt_out (x : Flt) : (s.setFlt x).out = s.out := rfl
@[simp] theorem State.setFlt_free (x : Flt) : (s.setFlt x).free = s.free := rfl
@[simp] theorem State.setFlt_pending (x : Flt) : (s.setFlt x).pending = s.pending := rfl

/-! ### State.setNv -/
@[simp] theorem State.setNv_now (x : Nv) : (s.setNv x).now = s.now := rfl
@[simp] theorem State.setNv_role (x : Nv) : (s.setNv x).role = s.role := rfl
@[simp] theorem State.setNv_sys (x : Nv) : (s.setNv x).sys = s.sys := rfl
@[simp] theorem State.setNv_clock (x : Nv) : (s.setNv x).clock = s.clock := rfl
@[simp] theorem State.setNv_time (x : Nv) : (s.setNv x).time = s.time := rfl
@[simp] theorem State.setNv_dict (x : Nv) : (s.setNv x).dict = s.dict := rfl
@[simp] theorem State.setNv_shadow (x : Nv) : (s.setNv x).shadow = s.shadow := rfl
@[simp] theorem State.setNv_blob (x : Nv) : (s.setNv x).blob = s.blob := rfl
@[simp] theorem State.setNv_shadowBlob (x : Nv) : (s.setNv x).shadowBlob = s.shadowBlob := rfl
@[simp] theorem State.setNv_sess (x : Nv) : (s.setNv x).sess = s.sess := rfl
@[simp] theorem State.setNv_flt (x : Nv) : (s.setNv x).flt = s.flt := rfl
@[simp] theorem State.setNv_nv (x : Nv) : (s.setNv x).nv = x := rfl
@[simp] theorem State.setNv_upd (x : Nv) : (s.setNv x).upd = s.upd := rfl
@[simp] theorem State.setNv_video (x : Nv) : (s.setNv x).video = s.video := rfl
@[simp] theorem State.setNv_flue (x : Nv) : (s.setNv x).flue = s.flue := rfl
@[simp] theorem State.setNv_lamp (x : Nv) : (s.setNv x).lamp = s.lamp := rfl
@[simp] theorem State.setNv_strands (x : Nv) : (s.setNv x).strands = s.strands := rfl
@[simp] theorem State.setNv_seq (x : Nv) : (s.setNv x).seq = s.seq := rfl
@[simp] theorem State.setNv_power (x : Nv) : (s.setNv x).power = s.power := rfl
@[simp] theorem State.setNv_mods (x : Nv) : (s.setNv x).mods = s.mods := rfl
@[simp] theorem State.setNv_out (x : Nv) : (s.setNv x).out = s.out := rfl
@[simp] theorem State.setNv_free (x : Nv) : (s.setNv x).free = s.free := rfl
@[simp] theorem State.setNv_pending (x : Nv) : (s.setNv x).pending = s.pending := rfl

/-! ### State.setUpd -/
@[simp] theorem State.setUpd_now (x : Upd) : (s.setUpd x).now = s.now := rfl
@[simp] theorem State.setUpd_role (x : Upd) : (s.setUpd x).role = s.role := rfl
@[simp] theorem State.setUpd_sys (x : Upd) : (s.setUpd x).sys = s.sys := rfl
@[simp] theorem State.setUpd_clock (x : Upd) : (s.setUpd x).clock = s.clock := rfl
@[simp] theorem State.setUpd_time (x : Upd) : (s.setUpd x).time = s.time := rfl
@[simp] theorem State.setUpd_dict (x : Upd) : (s.setUpd x).dict = s.dict := rfl
@[simp] theorem State.setUpd_shadow (x : Upd) : (s.setUpd x).shadow = s.shadow := rfl
@[simp] theorem State.setUpd_blob (x : Upd) : (s.setUpd x).blob = s.blob := rfl
@[simp] theorem State.setUpd_shadowBlob (x : Upd) : (s.setUpd x).shadowBlob = s.shadowBlob := rfl
@[simp] theorem State.setUpd_sess (x : Upd) : (s.setUpd x).sess = s.sess := rfl
@[simp] theorem State.setUpd_flt (x : Upd) : (s.setUpd x).flt = s.flt := rfl
@[simp] theorem State.setUpd_nv (x : Upd) : (s.setUpd x).nv = s.nv := rfl
@[simp] theorem State.setUpd_upd (x : Upd) : (s.setUpd x).upd = x := rfl
@[simp] theorem State.setUpd_video (x : Upd) : (s.setUpd x).video = s.video := rfl
@[simp] theorem State.setUpd_flue (x : Upd) : (s.setUpd x).flue = s.flue := rfl
@[simp] theorem State.setUpd_lamp (x : Upd) : (s.setUpd x).lamp = s.lamp := rfl
@[simp] theorem State.setUpd_strands (x : Upd) : (s.setUpd x).strands = s.strands := rfl
@[simp] theorem State.setUpd_seq (x : Upd) : (s.setUpd x).seq = s.seq := rfl
@[simp] theorem State.setUpd_power (x : Upd) : (s.setUpd x).power = s.power := rfl
@[simp] theorem State.setUpd_mods (x : Upd) : (s.setUpd x).mods = s.mods := rfl
@[simp] theorem State.setUpd_out (x : Upd) : (s.setUpd x).out = s.out := rfl
@[simp] theorem State.setUpd_free (x : Upd) : (s.setUpd x).free = s.free := rfl
@[simp] theorem State.setUpd_pending (x : Upd) : (s.setUpd x).pending = s.pending := rfl

/-! ### State.setFlue -/
@[simp] theorem State.setFlue_now (x : Flue) : (s.setFlue x).now = s.now := rfl
@[simp] theorem State.setFlue_role (x : Flue) : (s.setFlue x).role = s.role := rfl
@[simp] theorem State.setFlue_sys (x : Flue) : (s.setFlue x).sys = s.sys := rfl
@[simp] theorem State.setFlue_clock (x : Flue) : (s.setFlue x).clock = s.clock := rfl
@[simp] theorem State.setFlue_time (x : Flue) : (s.setFlue x).time = s.time := rfl
@[simp] theorem State.setFlue_dict (x : Flue) : (s.setFlue x).dict = s.dict := rfl
@[simp] theorem State.setFlue_shadow (x : Flue) : (s.setFlue x).shadow = s.shadow := rfl
@[simp] theorem State.setFlue_blob (x : Flue) : (s.setFlue x).blob = s.blob := rfl
@[simp] theorem State.setFlue_shadowBlob (x : Flue) : (s.setFlue x).shadowBlob = s.shadowBlob := rfl
@[simp] theorem State.setFlue_sess (x : Flue) : (s.setFlue x).sess = s.sess := rfl
@[simp] theorem State.setFlue_flt (x : Flue) : (s.setFlue x).flt = s.flt := rfl
@[simp] theorem State.setFlue_nv (x : Flue) : (s.setFlue x).nv = s.nv := rfl
@[simp] theorem State.setFlue_upd (x : Flue) : (s.setFlue x).upd = s.upd := rfl
@[simp] theorem State.setFlue_video (x : Flue) : (s.setFlue x).video = s.video := rfl
@[simp] theorem State.setFlue_flue (x : Flue) : (s.setFlue x).flue = x := rfl
@[simp] theorem State.setFlue_lamp (x : Flue) : (s.setFlue x).lamp = s.lamp := rfl
@[simp] theorem State.setFlue_strands (x : Flue) : (s.setFlue x).strands = s.strands := rfl
@[simp] theorem State.setFlue_seq (x : Flue) : (s.setFlue x).seq = s.seq := rfl
@[simp] theorem State.setFlue_power (x : Flue) : (s.setFlue x).power = s.power := rfl
@[simp] theorem State.setFlue_mods (x : Flue) : (s.setFlue x).mods = s.mods := rfl
@[simp] theorem State.setFlue_out (x : Flue) : (s.setFlue x).out = s.out := rfl
@[simp] theorem State.setFlue_free (x : Flue) : (s.setFlue x).free = s.free := rfl
@[simp] theorem State.setFlue_pending (x : Flue) : (s.setFlue x).pending = s.pending := rfl

/-! ### State.setLampSt -/
@[simp] theorem State.setLampSt_now (x : LampSt) : (s.setLampSt x).now = s.now := rfl
@[simp] theorem State.setLampSt_role (x : LampSt) : (s.setLampSt x).role = s.role := rfl
@[simp] theorem State.setLampSt_sys (x : LampSt) : (s.setLampSt x).sys = s.sys := rfl
@[simp] theorem State.setLampSt_clock (x : LampSt) : (s.setLampSt x).clock = s.clock := rfl
@[simp] theorem State.setLampSt_time (x : LampSt) : (s.setLampSt x).time = s.time := rfl
@[simp] theorem State.setLampSt_dict (x : LampSt) : (s.setLampSt x).dict = s.dict := rfl
@[simp] theorem State.setLampSt_shadow (x : LampSt) : (s.setLampSt x).shadow = s.shadow := rfl
@[simp] theorem State.setLampSt_blob (x : LampSt) : (s.setLampSt x).blob = s.blob := rfl
@[simp] theorem State.setLampSt_shadowBlob (x : LampSt) : (s.setLampSt x).shadowBlob = s.shadowBlob := rfl
@[simp] theorem State.setLampSt_sess (x : LampSt) : (s.setLampSt x).sess = s.sess := rfl
@[simp] theorem State.setLampSt_flt (x : LampSt) : (s.setLampSt x).flt = s.flt := rfl
@[simp] theorem State.setLampSt_nv (x : LampSt) : (s.setLampSt x).nv = s.nv := rfl
@[simp] theorem State.setLampSt_upd (x : LampSt) : (s.setLampSt x).upd = s.upd := rfl
@[simp] theorem State.setLampSt_video (x : LampSt) : (s.setLampSt x).video = s.video := rfl
@[simp] theorem State.setLampSt_flue (x : LampSt) : (s.setLampSt x).flue = s.flue := rfl
@[simp] theorem State.setLampSt_lamp (x : LampSt) : (s.setLampSt x).lamp = x := rfl
@[simp] theorem State.setLampSt_strands (x : LampSt) : (s.setLampSt x).strands = s.strands := rfl
@[simp] theorem State.setLampSt_seq (x : LampSt) : (s.setLampSt x).seq = s.seq := rfl
@[simp] theorem State.setLampSt_power (x : LampSt) : (s.setLampSt x).power = s.power := rfl
@[simp] theorem State.setLampSt_mods (x : LampSt) : (s.setLampSt x).mods = s.mods := rfl
@[simp] theorem State.setLampSt_out (x : LampSt) : (s.setLampSt x).out = s.out := rfl
@[simp] theorem State.setLampSt_free (x : LampSt) : (s.setLampSt x).free = s.free := rfl
@[simp] theorem State.setLampSt_pending (x : LampSt) : (s.setLampSt x).pending = s.pending := rfl

/-! ### State.setSeq -/
@[simp] theorem State.setSeq_now (x : Scan) : (s.setSeq x).now = s.now := rfl
@[simp] theorem State.setSeq_role (x : Scan) : (s.setSeq x).role = s.role := rfl
@[simp] theorem State.setSeq_sys (x : Scan) : (s.setSeq x).sys = s.sys := rfl
@[simp] theorem State.setSeq_clock (x : Scan) : (s.setSeq x).clock = s.clock := rfl
@[simp] theorem State.setSeq_time (x : Scan) : (s.setSeq x).time = s.time := rfl
@[simp] theorem State.setSeq_dict (x : Scan) : (s.setSeq x).dict = s.dict := rfl
@[simp] theorem State.setSeq_shadow (x : Scan) : (s.setSeq x).shadow = s.shadow := rfl
@[simp] theorem State.setSeq_blob (x : Scan) : (s.setSeq x).blob = s.blob := rfl
@[simp] theorem State.setSeq_shadowBlob (x : Scan) : (s.setSeq x).shadowBlob = s.shadowBlob := rfl
@[simp] theorem State.setSeq_sess (x : Scan) : (s.setSeq x).sess = s.sess := rfl
@[simp] theorem State.setSeq_flt (x : Scan) : (s.setSeq x).flt = s.flt := rfl
@[simp] theorem State.setSeq_nv (x : Scan) : (s.setSeq x).nv = s.nv := rfl
@[simp] theorem State.setSeq_upd (x : Scan) : (s.setSeq x).upd = s.upd := rfl
@[simp] theorem State.setSeq_video (x : Scan) : (s.setSeq x).video = s.video := rfl
@[simp] theorem State.setSeq_flue (x : Scan) : (s.setSeq x).flue = s.flue := rfl
@[simp] theorem State.setSeq_lamp (x : Scan) : (s.setSeq x).lamp = s.lamp := rfl
@[simp] theorem State.setSeq_strands (x : Scan) : (s.setSeq x).strands = s.strands := rfl
@[simp] theorem State.setSeq_seq (x : Scan) : (s.setSeq x).seq = x := rfl
@[simp] theorem State.setSeq_power (x : Scan) : (s.setSeq x).power = s.power := rfl
@[simp] theorem State.setSeq_mods (x : Scan) : (s.setSeq x).mods = s.mods := rfl
@[simp] theorem State.setSeq_out (x : Scan) : (s.setSeq x).out = s.out := rfl
@[simp] theorem State.setSeq_free (x : Scan) : (s.setSeq x).free = s.free := rfl
@[simp] theorem State.setSeq_pending (x : Scan) : (s.setSeq x).pending = s.pending := rfl

/-! ### State.setPower -/
@[simp] theorem State.setPower_now (x : Power) : (s.setPower x).now = s.now := rfl
@[simp] theorem State.setPower_role (x : Power) : (s.setPower x).role = s.role := rfl
@[simp] theorem State.setPower_sys (x : Power) : (s.setPower x).sys = s.sys := rfl
@[simp] theorem State.setPower_clock (x : Power) : (s.setPower x).clock = s.clock := rfl
@[simp] theorem State.setPower_time (x : Power) : (s.setPower x).time = s.time := rfl
@[simp] theorem State.setPower_dict (x : Power) : (s.setPower x).dict = s.dict := rfl
@[simp] theorem State.setPower_shadow (x : Power) : (s.setPower x).shadow = s.shadow := rfl
@[simp] theorem State.setPower_blob (x : Power) : (s.setPower x).blob = s.blob := rfl
@[simp] theorem State.setPower_shadowBlob (x : Power) : (s.setPower x).shadowBlob = s.shadowBlob := rfl
@[simp] theorem State.setPower_sess (x : Power) : (s.setPower x).sess = s.sess := rfl
@[simp] theorem State.setPower_flt (x : Power) : (s.setPower x).flt = s.flt := rfl
@[simp] theorem State.setPower_nv (x : Power) : (s.setPower x).nv = s.nv := rfl
@[simp] theorem State.setPower_upd (x : Power) : (s.setPower x).upd = s.upd := rfl
@[simp] theorem State.setPower_video (x : Power) : (s.setPower x).video = s.video := rfl
@[simp] theorem State.setPower_flue (x : Power) : (s.setPower x).flue = s.flue := rfl
@[simp] theorem State.setPower_lamp (x : Power) : (s.setPower x).lamp = s.lamp := rfl
@[simp] theorem State.setPower_strands (x : Power) : (s.setPower x).strands = s.strands := rfl
@[simp] theorem State.setPower_seq (x : Power) : (s.setPower x).seq = s.seq := rfl
@[simp] theorem State.setPower_power (x : Power) : (s.setPower x).power = x := rfl
@[simp] theorem State.setPower_mods (x : Power) : (s.setPower x).mods = s.mods := rfl
@[simp] theorem State.setPower_out (x : Power) : (s.setPower x).out = s.out := rfl
@[simp] theorem State.setPower_free (x : Power) : (s.setPower x).free = s.free := rfl
@[simp] theorem State.setPower_pending (x : Power) : (s.setPower x).pending = s.pending := rfl

/-! ### State.setMods -/
@[simp] theorem State.setMods_now (x : Mods) : (s.setMods x).now = s.now := rfl
@[simp] theorem State.setMods_role (x : Mods) : (s.setMods x).role = s.role := rfl
@[simp] theorem State.setMods_sys (x : Mods) : (s.setMods x).sys = s.sys := rfl
@[simp] theorem State.setMods_clock (x : Mods) : (s.setMods x).clock = s.clock := rfl
@[simp] theorem State.setMods_time (x : Mods) : (s.setMods x).time = s.time := rfl
@[simp] theorem State.setMods_dict (x : Mods) : (s.setMods x).dict = s.dict := rfl
@[simp] theorem State.setMods_shadow (x : Mods) : (s.setMods x).shadow = s.shadow := rfl
@[simp] theorem State.setMods_blob (x : Mods) : (s.setMods x).blob = s.blob := rfl
@[simp] theorem State.setMods_shadowBlob (x : Mods) : (s.setMods x).shadowBlob = s.shadowBlob := rfl
@[simp] theorem State.setMods_sess (x : Mods) : (s.setMods x).sess = s.sess := rfl
@[simp] theorem State.setMods_flt (x : Mods) : (s.setMods x).flt = s.flt := rfl
@[simp] theorem State.setMods_nv (x : Mods) : (s.setMods x).nv = s.nv := rfl
@[simp] theorem State.setMods_upd (x : Mods) : (s.setMods x).upd = s.upd := rfl
@[simp] theorem State.setMods_video (x : Mods) : (s.setMods x).video = s.video := rfl
@[simp] theorem State.setMods_flue (x : Mods) : (s.setMods x).flue = s.flue := rfl
@[simp] theorem State.setMods_lamp (x : Mods) : (s.setMods x).lamp = s.lamp := rfl
@[simp] theorem State.setMods_strands (x : Mods) : (s.setMods x).strands = s.strands := rfl
@[simp] theorem State.setMods_seq (x : Mods) : (s.setMods x).seq = s.seq := rfl
@[simp] theorem State.setMods_power (x : Mods) : (s.setMods x).power = s.power := rfl
@[simp] theorem State.setMods_mods (x : Mods) : (s.setMods x).mods = x := rfl
@[simp] theorem State.setMods_out (x : Mods) : (s.setMods x).out = s.out := rfl
@[simp] theorem State.setMods_free (x : Mods) : (s.setMods x).free = s.free := rfl
@[simp] theorem State.setMods_pending (x : Mods) : (s.setMods x).pending = s.pending := rfl

/-! ### State.setHearth -/
@[simp] theorem State.setHearth_now (x : Hearth) : (s.setHearth x).now = s.now := rfl
@[simp] theorem State.setHearth_role (x : Hearth) : (s.setHearth x).role = s.role := rfl
@[simp] theorem State.setHearth_sys (x : Hearth) : (s.setHearth x).sys = s.sys := rfl
@[simp] theorem State.setHearth_clock (x : Hearth) : (s.setHearth x).clock = s.clock := rfl
@[simp] theorem State.setHearth_time (x : Hearth) : (s.setHearth x).time = s.time := rfl
@[simp] theorem State.setHearth_dict (x : Hearth) : (s.setHearth x).dict = s.dict := rfl
@[simp] theorem State.setHearth_shadow (x : Hearth) : (s.setHearth x).shadow = s.shadow := rfl
@[simp] theorem State.setHearth_blob (x : Hearth) : (s.setHearth x).blob = s.blob := rfl
@[simp] theorem State.setHearth_shadowBlob (x : Hearth) : (s.setHearth x).shadowBlob = s.shadowBlob := rfl
@[simp] theorem State.setHearth_sess (x : Hearth) : (s.setHearth x).sess = s.sess := rfl
@[simp] theorem State.setHearth_flt (x : Hearth) : (s.setHearth x).flt = s.flt := rfl
@[simp] theorem State.setHearth_nv (x : Hearth) : (s.setHearth x).nv = s.nv := rfl
@[simp] theorem State.setHearth_upd (x : Hearth) : (s.setHearth x).upd = s.upd := rfl
@[simp] theorem State.setHearth_video (x : Hearth) : (s.setHearth x).video = { s.video with hearth := x } := rfl
@[simp] theorem State.setHearth_flue (x : Hearth) : (s.setHearth x).flue = s.flue := rfl
@[simp] theorem State.setHearth_lamp (x : Hearth) : (s.setHearth x).lamp = s.lamp := rfl
@[simp] theorem State.setHearth_strands (x : Hearth) : (s.setHearth x).strands = s.strands := rfl
@[simp] theorem State.setHearth_seq (x : Hearth) : (s.setHearth x).seq = s.seq := rfl
@[simp] theorem State.setHearth_power (x : Hearth) : (s.setHearth x).power = s.power := rfl
@[simp] theorem State.setHearth_mods (x : Hearth) : (s.setHearth x).mods = s.mods := rfl
@[simp] theorem State.setHearth_out (x : Hearth) : (s.setHearth x).out = s.out := rfl
@[simp] theorem State.setHearth_free (x : Hearth) : (s.setHearth x).free = s.free := rfl
@[simp] theorem State.setHearth_pending (x : Hearth) : (s.setHearth x).pending = s.pending := rfl

/-! ### State.setMem -/
@[simp] theorem State.setMem_now (x : List Host.Cell) : (s.setMem x).now = s.now := rfl
@[simp] theorem State.setMem_role (x : List Host.Cell) : (s.setMem x).role = s.role := rfl
@[simp] theorem State.setMem_sys (x : List Host.Cell) : (s.setMem x).sys = s.sys := rfl
@[simp] theorem State.setMem_clock (x : List Host.Cell) : (s.setMem x).clock = s.clock := rfl
@[simp] theorem State.setMem_time (x : List Host.Cell) : (s.setMem x).time = s.time := rfl
@[simp] theorem State.setMem_dict (x : List Host.Cell) : (s.setMem x).dict = s.dict := rfl
@[simp] theorem State.setMem_shadow (x : List Host.Cell) : (s.setMem x).shadow = s.shadow := rfl
@[simp] theorem State.setMem_blob (x : List Host.Cell) : (s.setMem x).blob = s.blob := rfl
@[simp] theorem State.setMem_shadowBlob (x : List Host.Cell) : (s.setMem x).shadowBlob = s.shadowBlob := rfl
@[simp] theorem State.setMem_sess (x : List Host.Cell) : (s.setMem x).sess = s.sess := rfl
@[simp] theorem State.setMem_flt (x : List Host.Cell) : (s.setMem x).flt = s.flt := rfl
@[simp] theorem State.setMem_nv (x : List Host.Cell) : (s.setMem x).nv = s.nv := rfl
@[simp] theorem State.setMem_upd (x : List Host.Cell) : (s.setMem x).upd = s.upd := rfl
@[simp] theorem State.setMem_video (x : List Host.Cell) : (s.setMem x).video = { s.video with mem := x } := rfl
@[simp] theorem State.setMem_flue (x : List Host.Cell) : (s.setMem x).flue = s.flue := rfl
@[simp] theorem State.setMem_lamp (x : List Host.Cell) : (s.setMem x).lamp = s.lamp := rfl
@[simp] theorem State.setMem_strands (x : List Host.Cell) : (s.setMem x).strands = s.strands := rfl
@[simp] theorem State.setMem_seq (x : List Host.Cell) : (s.setMem x).seq = s.seq := rfl
@[simp] theorem State.setMem_power (x : List Host.Cell) : (s.setMem x).power = s.power := rfl
@[simp] theorem State.setMem_mods (x : List Host.Cell) : (s.setMem x).mods = s.mods := rfl
@[simp] theorem State.setMem_out (x : List Host.Cell) : (s.setMem x).out = s.out := rfl
@[simp] theorem State.setMem_free (x : List Host.Cell) : (s.setMem x).free = s.free := rfl
@[simp] theorem State.setMem_pending (x : List Host.Cell) : (s.setMem x).pending = s.pending := rfl

/-! ### State.setPaths -/
@[simp] theorem State.setPaths_now (x : Paths) : (s.setPaths x).now = s.now := rfl
@[simp] theorem State.setPaths_role (x : Paths) : (s.setPaths x).role = s.role := rfl
@[simp] theorem State.setPaths_sys (x : Paths) : (s.setPaths x).sys = s.sys := rfl
@[simp] theorem State.setPaths_clock (x : Paths) : (s.setPaths x).clock = s.clock := rfl
@[simp] theorem State.setPaths_time (x : Paths) : (s.setPaths x).time = s.time := rfl
@[simp] theorem State.setPaths_dict (x : Paths) : (s.setPaths x).dict = s.dict := rfl
@[simp] theorem State.setPaths_shadow (x : Paths) : (s.setPaths x).shadow = s.shadow := rfl
@[simp] theorem State.setPaths_blob (x : Paths) : (s.setPaths x).blob = s.blob := rfl
@[simp] theorem State.setPaths_shadowBlob (x : Paths) : (s.setPaths x).shadowBlob = s.shadowBlob := rfl
@[simp] theorem State.setPaths_sess (x : Paths) : (s.setPaths x).sess = s.sess := rfl
@[simp] theorem State.setPaths_flt (x : Paths) : (s.setPaths x).flt = s.flt := rfl
@[simp] theorem State.setPaths_nv (x : Paths) : (s.setPaths x).nv = s.nv := rfl
@[simp] theorem State.setPaths_upd (x : Paths) : (s.setPaths x).upd = s.upd := rfl
@[simp] theorem State.setPaths_video (x : Paths) : (s.setPaths x).video = s.video := rfl
@[simp] theorem State.setPaths_flue (x : Paths) : (s.setPaths x).flue = { s.flue with paths := x } := rfl
@[simp] theorem State.setPaths_lamp (x : Paths) : (s.setPaths x).lamp = s.lamp := rfl
@[simp] theorem State.setPaths_strands (x : Paths) : (s.setPaths x).strands = s.strands := rfl
@[simp] theorem State.setPaths_seq (x : Paths) : (s.setPaths x).seq = s.seq := rfl
@[simp] theorem State.setPaths_power (x : Paths) : (s.setPaths x).power = s.power := rfl
@[simp] theorem State.setPaths_mods (x : Paths) : (s.setPaths x).mods = s.mods := rfl
@[simp] theorem State.setPaths_out (x : Paths) : (s.setPaths x).out = s.out := rfl
@[simp] theorem State.setPaths_free (x : Paths) : (s.setPaths x).free = s.free := rfl
@[simp] theorem State.setPaths_pending (x : Paths) : (s.setPaths x).pending = s.pending := rfl

/-! ### State.setSession -/
@[simp] theorem State.setSession_now (k : Nat) (x : Session) : (s.setSession k x).now = s.now := rfl
@[simp] theorem State.setSession_role (k : Nat) (x : Session) : (s.setSession k x).role = s.role := rfl
@[simp] theorem State.setSession_sys (k : Nat) (x : Session) : (s.setSession k x).sys = s.sys := rfl
@[simp] theorem State.setSession_clock (k : Nat) (x : Session) : (s.setSession k x).clock = s.clock := rfl
@[simp] theorem State.setSession_time (k : Nat) (x : Session) : (s.setSession k x).time = s.time := rfl
@[simp] theorem State.setSession_dict (k : Nat) (x : Session) : (s.setSession k x).dict = s.dict := rfl
@[simp] theorem State.setSession_shadow (k : Nat) (x : Session) : (s.setSession k x).shadow = s.shadow := rfl
@[simp] theorem State.setSession_blob (k : Nat) (x : Session) : (s.setSession k x).blob = s.blob := rfl
@[simp] theorem State.setSession_shadowBlob (k : Nat) (x : Session) :
    (s.setSession k x).shadowBlob = s.shadowBlob := rfl
@[simp] theorem State.setSession_sess (k : Nat) (x : Session) :
    (s.setSession k x).sess = { s.sess with slots := put {} k x s.sess.slots } := rfl
@[simp] theorem State.setSession_flt (k : Nat) (x : Session) : (s.setSession k x).flt = s.flt := rfl
@[simp] theorem State.setSession_nv (k : Nat) (x : Session) : (s.setSession k x).nv = s.nv := rfl
@[simp] theorem State.setSession_upd (k : Nat) (x : Session) : (s.setSession k x).upd = s.upd := rfl
@[simp] theorem State.setSession_video (k : Nat) (x : Session) : (s.setSession k x).video = s.video := rfl
@[simp] theorem State.setSession_flue (k : Nat) (x : Session) : (s.setSession k x).flue = s.flue := rfl
@[simp] theorem State.setSession_lamp (k : Nat) (x : Session) : (s.setSession k x).lamp = s.lamp := rfl
@[simp] theorem State.setSession_strands (k : Nat) (x : Session) : (s.setSession k x).strands = s.strands := rfl
@[simp] theorem State.setSession_seq (k : Nat) (x : Session) : (s.setSession k x).seq = s.seq := rfl
@[simp] theorem State.setSession_power (k : Nat) (x : Session) : (s.setSession k x).power = s.power := rfl
@[simp] theorem State.setSession_mods (k : Nat) (x : Session) : (s.setSession k x).mods = s.mods := rfl
@[simp] theorem State.setSession_out (k : Nat) (x : Session) : (s.setSession k x).out = s.out := rfl
@[simp] theorem State.setSession_free (k : Nat) (x : Session) : (s.setSession k x).free = s.free := rfl
@[simp] theorem State.setSession_pending (k : Nat) (x : Session) : (s.setSession k x).pending = s.pending := rfl

/-! ### State.setPort -/
@[simp] theorem State.setPort_now (k : Nat) (x : Port) : (s.setPort k x).now = s.now := rfl
@[simp] theorem State.setPort_role (k : Nat) (x : Port) : (s.setPort k x).role = s.role := rfl
@[simp] theorem State.setPort_sys (k : Nat) (x : Port) : (s.setPort k x).sys = s.sys := rfl
@[simp] theorem State.setPort_clock (k : Nat) (x : Port) : (s.setPort k x).clock = s.clock := rfl
@[simp] theorem State.setPort_time (k : Nat) (x : Port) : (s.setPort k x).time = s.time := rfl
@[simp] theorem State.setPort_dict (k : Nat) (x : Port) : (s.setPort k x).dict = s.dict := rfl
@[simp] theorem State.setPort_shadow (k : Nat) (x : Port) : (s.setPort k x).shadow = s.shadow := rfl
@[simp] theorem State.setPort_blob (k : Nat) (x : Port) : (s.setPort k x).blob = s.blob := rfl
@[simp] theorem State.setPort_shadowBlob (k : Nat) (x : Port) : (s.setPort k x).shadowBlob = s.shadowBlob := rfl
@[simp] theorem State.setPort_sess (k : Nat) (x : Port) : (s.setPort k x).sess = s.sess := rfl
@[simp] theorem State.setPort_flt (k : Nat) (x : Port) : (s.setPort k x).flt = s.flt := rfl
@[simp] theorem State.setPort_nv (k : Nat) (x : Port) : (s.setPort k x).nv = s.nv := rfl
@[simp] theorem State.setPort_upd (k : Nat) (x : Port) : (s.setPort k x).upd = s.upd := rfl
@[simp] theorem State.setPort_video (k : Nat) (x : Port) : (s.setPort k x).video = s.video := rfl
@[simp] theorem State.setPort_flue (k : Nat) (x : Port) :
    (s.setPort k x).flue = { s.flue with ports := put {} k x s.flue.ports } := rfl
@[simp] theorem State.setPort_lamp (k : Nat) (x : Port) : (s.setPort k x).lamp = s.lamp := rfl
@[simp] theorem State.setPort_strands (k : Nat) (x : Port) : (s.setPort k x).strands = s.strands := rfl
@[simp] theorem State.setPort_seq (k : Nat) (x : Port) : (s.setPort k x).seq = s.seq := rfl
@[simp] theorem State.setPort_power (k : Nat) (x : Port) : (s.setPort k x).power = s.power := rfl
@[simp] theorem State.setPort_mods (k : Nat) (x : Port) : (s.setPort k x).mods = s.mods := rfl
@[simp] theorem State.setPort_out (k : Nat) (x : Port) : (s.setPort k x).out = s.out := rfl
@[simp] theorem State.setPort_free (k : Nat) (x : Port) : (s.setPort k x).free = s.free := rfl
@[simp] theorem State.setPort_pending (k : Nat) (x : Port) : (s.setPort k x).pending = s.pending := rfl

/-! ### State.setEgress -/
@[simp] theorem State.setEgress_now (k : Nat) (x : Egress) : (s.setEgress k x).now = s.now := rfl
@[simp] theorem State.setEgress_role (k : Nat) (x : Egress) : (s.setEgress k x).role = s.role := rfl
@[simp] theorem State.setEgress_sys (k : Nat) (x : Egress) : (s.setEgress k x).sys = s.sys := rfl
@[simp] theorem State.setEgress_clock (k : Nat) (x : Egress) : (s.setEgress k x).clock = s.clock := rfl
@[simp] theorem State.setEgress_time (k : Nat) (x : Egress) : (s.setEgress k x).time = s.time := rfl
@[simp] theorem State.setEgress_dict (k : Nat) (x : Egress) : (s.setEgress k x).dict = s.dict := rfl
@[simp] theorem State.setEgress_shadow (k : Nat) (x : Egress) : (s.setEgress k x).shadow = s.shadow := rfl
@[simp] theorem State.setEgress_blob (k : Nat) (x : Egress) : (s.setEgress k x).blob = s.blob := rfl
@[simp] theorem State.setEgress_shadowBlob (k : Nat) (x : Egress) : (s.setEgress k x).shadowBlob = s.shadowBlob := rfl
@[simp] theorem State.setEgress_sess (k : Nat) (x : Egress) : (s.setEgress k x).sess = s.sess := rfl
@[simp] theorem State.setEgress_flt (k : Nat) (x : Egress) : (s.setEgress k x).flt = s.flt := rfl
@[simp] theorem State.setEgress_nv (k : Nat) (x : Egress) : (s.setEgress k x).nv = s.nv := rfl
@[simp] theorem State.setEgress_upd (k : Nat) (x : Egress) : (s.setEgress k x).upd = s.upd := rfl
@[simp] theorem State.setEgress_video (k : Nat) (x : Egress) : (s.setEgress k x).video = s.video := rfl
@[simp] theorem State.setEgress_flue (k : Nat) (x : Egress) :
    (s.setEgress k x).flue = { s.flue with egress := put {} k x s.flue.egress } := rfl
@[simp] theorem State.setEgress_lamp (k : Nat) (x : Egress) : (s.setEgress k x).lamp = s.lamp := rfl
@[simp] theorem State.setEgress_strands (k : Nat) (x : Egress) : (s.setEgress k x).strands = s.strands := rfl
@[simp] theorem State.setEgress_seq (k : Nat) (x : Egress) : (s.setEgress k x).seq = s.seq := rfl
@[simp] theorem State.setEgress_power (k : Nat) (x : Egress) : (s.setEgress k x).power = s.power := rfl
@[simp] theorem State.setEgress_mods (k : Nat) (x : Egress) : (s.setEgress k x).mods = s.mods := rfl
@[simp] theorem State.setEgress_out (k : Nat) (x : Egress) : (s.setEgress k x).out = s.out := rfl
@[simp] theorem State.setEgress_free (k : Nat) (x : Egress) : (s.setEgress k x).free = s.free := rfl
@[simp] theorem State.setEgress_pending (k : Nat) (x : Egress) : (s.setEgress k x).pending = s.pending := rfl

/-! ### State.setRun -/
@[simp] theorem State.setRun_now (k : Nat) (x : LinkRun) : (s.setRun k x).now = s.now := rfl
@[simp] theorem State.setRun_role (k : Nat) (x : LinkRun) : (s.setRun k x).role = s.role := rfl
@[simp] theorem State.setRun_sys (k : Nat) (x : LinkRun) : (s.setRun k x).sys = s.sys := rfl
@[simp] theorem State.setRun_clock (k : Nat) (x : LinkRun) : (s.setRun k x).clock = s.clock := rfl
@[simp] theorem State.setRun_time (k : Nat) (x : LinkRun) : (s.setRun k x).time = s.time := rfl
@[simp] theorem State.setRun_dict (k : Nat) (x : LinkRun) : (s.setRun k x).dict = s.dict := rfl
@[simp] theorem State.setRun_shadow (k : Nat) (x : LinkRun) : (s.setRun k x).shadow = s.shadow := rfl
@[simp] theorem State.setRun_blob (k : Nat) (x : LinkRun) : (s.setRun k x).blob = s.blob := rfl
@[simp] theorem State.setRun_shadowBlob (k : Nat) (x : LinkRun) : (s.setRun k x).shadowBlob = s.shadowBlob := rfl
@[simp] theorem State.setRun_sess (k : Nat) (x : LinkRun) : (s.setRun k x).sess = s.sess := rfl
@[simp] theorem State.setRun_flt (k : Nat) (x : LinkRun) : (s.setRun k x).flt = s.flt := rfl
@[simp] theorem State.setRun_nv (k : Nat) (x : LinkRun) : (s.setRun k x).nv = s.nv := rfl
@[simp] theorem State.setRun_upd (k : Nat) (x : LinkRun) : (s.setRun k x).upd = s.upd := rfl
@[simp] theorem State.setRun_video (k : Nat) (x : LinkRun) : (s.setRun k x).video = s.video := rfl
@[simp] theorem State.setRun_flue (k : Nat) (x : LinkRun) :
    (s.setRun k x).flue = { s.flue with runs := put {} k x s.flue.runs } := rfl
@[simp] theorem State.setRun_lamp (k : Nat) (x : LinkRun) : (s.setRun k x).lamp = s.lamp := rfl
@[simp] theorem State.setRun_strands (k : Nat) (x : LinkRun) : (s.setRun k x).strands = s.strands := rfl
@[simp] theorem State.setRun_seq (k : Nat) (x : LinkRun) : (s.setRun k x).seq = s.seq := rfl
@[simp] theorem State.setRun_power (k : Nat) (x : LinkRun) : (s.setRun k x).power = s.power := rfl
@[simp] theorem State.setRun_mods (k : Nat) (x : LinkRun) : (s.setRun k x).mods = s.mods := rfl
@[simp] theorem State.setRun_out (k : Nat) (x : LinkRun) : (s.setRun k x).out = s.out := rfl
@[simp] theorem State.setRun_free (k : Nat) (x : LinkRun) : (s.setRun k x).free = s.free := rfl
@[simp] theorem State.setRun_pending (k : Nat) (x : LinkRun) : (s.setRun k x).pending = s.pending := rfl

/-! ### State.setChim -/
@[simp] theorem State.setChim_now (k : Nat) (x : Chim) : (s.setChim k x).now = s.now := rfl
@[simp] theorem State.setChim_role (k : Nat) (x : Chim) : (s.setChim k x).role = s.role := rfl
@[simp] theorem State.setChim_sys (k : Nat) (x : Chim) : (s.setChim k x).sys = s.sys := rfl
@[simp] theorem State.setChim_clock (k : Nat) (x : Chim) : (s.setChim k x).clock = s.clock := rfl
@[simp] theorem State.setChim_time (k : Nat) (x : Chim) : (s.setChim k x).time = s.time := rfl
@[simp] theorem State.setChim_dict (k : Nat) (x : Chim) : (s.setChim k x).dict = s.dict := rfl
@[simp] theorem State.setChim_shadow (k : Nat) (x : Chim) : (s.setChim k x).shadow = s.shadow := rfl
@[simp] theorem State.setChim_blob (k : Nat) (x : Chim) : (s.setChim k x).blob = s.blob := rfl
@[simp] theorem State.setChim_shadowBlob (k : Nat) (x : Chim) : (s.setChim k x).shadowBlob = s.shadowBlob := rfl
@[simp] theorem State.setChim_sess (k : Nat) (x : Chim) : (s.setChim k x).sess = s.sess := rfl
@[simp] theorem State.setChim_flt (k : Nat) (x : Chim) : (s.setChim k x).flt = s.flt := rfl
@[simp] theorem State.setChim_nv (k : Nat) (x : Chim) : (s.setChim k x).nv = s.nv := rfl
@[simp] theorem State.setChim_upd (k : Nat) (x : Chim) : (s.setChim k x).upd = s.upd := rfl
@[simp] theorem State.setChim_video (k : Nat) (x : Chim) : (s.setChim k x).video = s.video := rfl
@[simp] theorem State.setChim_flue (k : Nat) (x : Chim) :
    (s.setChim k x).flue = { s.flue with chims := put {} k x s.flue.chims } := rfl
@[simp] theorem State.setChim_lamp (k : Nat) (x : Chim) : (s.setChim k x).lamp = s.lamp := rfl
@[simp] theorem State.setChim_strands (k : Nat) (x : Chim) : (s.setChim k x).strands = s.strands := rfl
@[simp] theorem State.setChim_seq (k : Nat) (x : Chim) : (s.setChim k x).seq = s.seq := rfl
@[simp] theorem State.setChim_power (k : Nat) (x : Chim) : (s.setChim k x).power = s.power := rfl
@[simp] theorem State.setChim_mods (k : Nat) (x : Chim) : (s.setChim k x).mods = s.mods := rfl
@[simp] theorem State.setChim_out (k : Nat) (x : Chim) : (s.setChim k x).out = s.out := rfl
@[simp] theorem State.setChim_free (k : Nat) (x : Chim) : (s.setChim k x).free = s.free := rfl
@[simp] theorem State.setChim_pending (k : Nat) (x : Chim) : (s.setChim k x).pending = s.pending := rfl

/-! ### State.setTile -/
@[simp] theorem State.setTile_now (c a : Nat) (x : TileView) : (s.setTile c a x).now = s.now := rfl
@[simp] theorem State.setTile_role (c a : Nat) (x : TileView) : (s.setTile c a x).role = s.role := rfl
@[simp] theorem State.setTile_sys (c a : Nat) (x : TileView) : (s.setTile c a x).sys = s.sys := rfl
@[simp] theorem State.setTile_clock (c a : Nat) (x : TileView) : (s.setTile c a x).clock = s.clock := rfl
@[simp] theorem State.setTile_time (c a : Nat) (x : TileView) : (s.setTile c a x).time = s.time := rfl
@[simp] theorem State.setTile_dict (c a : Nat) (x : TileView) : (s.setTile c a x).dict = s.dict := rfl
@[simp] theorem State.setTile_shadow (c a : Nat) (x : TileView) : (s.setTile c a x).shadow = s.shadow := rfl
@[simp] theorem State.setTile_blob (c a : Nat) (x : TileView) : (s.setTile c a x).blob = s.blob := rfl
@[simp] theorem State.setTile_shadowBlob (c a : Nat) (x : TileView) :
    (s.setTile c a x).shadowBlob = s.shadowBlob := rfl
@[simp] theorem State.setTile_sess (c a : Nat) (x : TileView) : (s.setTile c a x).sess = s.sess := rfl
@[simp] theorem State.setTile_flt (c a : Nat) (x : TileView) : (s.setTile c a x).flt = s.flt := rfl
@[simp] theorem State.setTile_nv (c a : Nat) (x : TileView) : (s.setTile c a x).nv = s.nv := rfl
@[simp] theorem State.setTile_upd (c a : Nat) (x : TileView) : (s.setTile c a x).upd = s.upd := rfl
@[simp] theorem State.setTile_video (c a : Nat) (x : TileView) : (s.setTile c a x).video = s.video := rfl
@[simp] theorem State.setTile_flue (c a : Nat) (x : TileView) :
    (s.setTile c a x).flue = { s.flue with tiles := put {} (c * 256 + a) x s.flue.tiles } := rfl
@[simp] theorem State.setTile_lamp (c a : Nat) (x : TileView) : (s.setTile c a x).lamp = s.lamp := rfl
@[simp] theorem State.setTile_strands (c a : Nat) (x : TileView) : (s.setTile c a x).strands = s.strands := rfl
@[simp] theorem State.setTile_seq (c a : Nat) (x : TileView) : (s.setTile c a x).seq = s.seq := rfl
@[simp] theorem State.setTile_power (c a : Nat) (x : TileView) : (s.setTile c a x).power = s.power := rfl
@[simp] theorem State.setTile_mods (c a : Nat) (x : TileView) : (s.setTile c a x).mods = s.mods := rfl
@[simp] theorem State.setTile_out (c a : Nat) (x : TileView) : (s.setTile c a x).out = s.out := rfl
@[simp] theorem State.setTile_free (c a : Nat) (x : TileView) : (s.setTile c a x).free = s.free := rfl
@[simp] theorem State.setTile_pending (c a : Nat) (x : TileView) : (s.setTile c a x).pending = s.pending := rfl

/-! ### State.setSlot -/
@[simp] theorem State.setSlot_now (k : Nat) (x : IngSlot) : (s.setSlot k x).now = s.now := rfl
@[simp] theorem State.setSlot_role (k : Nat) (x : IngSlot) : (s.setSlot k x).role = s.role := rfl
@[simp] theorem State.setSlot_sys (k : Nat) (x : IngSlot) : (s.setSlot k x).sys = s.sys := rfl
@[simp] theorem State.setSlot_clock (k : Nat) (x : IngSlot) : (s.setSlot k x).clock = s.clock := rfl
@[simp] theorem State.setSlot_time (k : Nat) (x : IngSlot) : (s.setSlot k x).time = s.time := rfl
@[simp] theorem State.setSlot_dict (k : Nat) (x : IngSlot) : (s.setSlot k x).dict = s.dict := rfl
@[simp] theorem State.setSlot_shadow (k : Nat) (x : IngSlot) : (s.setSlot k x).shadow = s.shadow := rfl
@[simp] theorem State.setSlot_blob (k : Nat) (x : IngSlot) : (s.setSlot k x).blob = s.blob := rfl
@[simp] theorem State.setSlot_shadowBlob (k : Nat) (x : IngSlot) : (s.setSlot k x).shadowBlob = s.shadowBlob := rfl
@[simp] theorem State.setSlot_sess (k : Nat) (x : IngSlot) : (s.setSlot k x).sess = s.sess := rfl
@[simp] theorem State.setSlot_flt (k : Nat) (x : IngSlot) : (s.setSlot k x).flt = s.flt := rfl
@[simp] theorem State.setSlot_nv (k : Nat) (x : IngSlot) : (s.setSlot k x).nv = s.nv := rfl
@[simp] theorem State.setSlot_upd (k : Nat) (x : IngSlot) : (s.setSlot k x).upd = s.upd := rfl
@[simp] theorem State.setSlot_video (k : Nat) (x : IngSlot) :
    (s.setSlot k x).video = { s.video with slots := put {} k x s.video.slots } := rfl
@[simp] theorem State.setSlot_flue (k : Nat) (x : IngSlot) : (s.setSlot k x).flue = s.flue := rfl
@[simp] theorem State.setSlot_lamp (k : Nat) (x : IngSlot) : (s.setSlot k x).lamp = s.lamp := rfl
@[simp] theorem State.setSlot_strands (k : Nat) (x : IngSlot) : (s.setSlot k x).strands = s.strands := rfl
@[simp] theorem State.setSlot_seq (k : Nat) (x : IngSlot) : (s.setSlot k x).seq = s.seq := rfl
@[simp] theorem State.setSlot_power (k : Nat) (x : IngSlot) : (s.setSlot k x).power = s.power := rfl
@[simp] theorem State.setSlot_mods (k : Nat) (x : IngSlot) : (s.setSlot k x).mods = s.mods := rfl
@[simp] theorem State.setSlot_out (k : Nat) (x : IngSlot) : (s.setSlot k x).out = s.out := rfl
@[simp] theorem State.setSlot_free (k : Nat) (x : IngSlot) : (s.setSlot k x).free = s.free := rfl
@[simp] theorem State.setSlot_pending (k : Nat) (x : IngSlot) : (s.setSlot k x).pending = s.pending := rfl

/-! ### State.setStill -/
@[simp] theorem State.setStill_now (k : Nat) (x : Still) : (s.setStill k x).now = s.now := rfl
@[simp] theorem State.setStill_role (k : Nat) (x : Still) : (s.setStill k x).role = s.role := rfl
@[simp] theorem State.setStill_sys (k : Nat) (x : Still) : (s.setStill k x).sys = s.sys := rfl
@[simp] theorem State.setStill_clock (k : Nat) (x : Still) : (s.setStill k x).clock = s.clock := rfl
@[simp] theorem State.setStill_time (k : Nat) (x : Still) : (s.setStill k x).time = s.time := rfl
@[simp] theorem State.setStill_dict (k : Nat) (x : Still) : (s.setStill k x).dict = s.dict := rfl
@[simp] theorem State.setStill_shadow (k : Nat) (x : Still) : (s.setStill k x).shadow = s.shadow := rfl
@[simp] theorem State.setStill_blob (k : Nat) (x : Still) : (s.setStill k x).blob = s.blob := rfl
@[simp] theorem State.setStill_shadowBlob (k : Nat) (x : Still) : (s.setStill k x).shadowBlob = s.shadowBlob := rfl
@[simp] theorem State.setStill_sess (k : Nat) (x : Still) : (s.setStill k x).sess = s.sess := rfl
@[simp] theorem State.setStill_flt (k : Nat) (x : Still) : (s.setStill k x).flt = s.flt := rfl
@[simp] theorem State.setStill_nv (k : Nat) (x : Still) : (s.setStill k x).nv = s.nv := rfl
@[simp] theorem State.setStill_upd (k : Nat) (x : Still) : (s.setStill k x).upd = s.upd := rfl
@[simp] theorem State.setStill_video (k : Nat) (x : Still) :
    (s.setStill k x).video = { s.video with stills := put {} k x s.video.stills } := rfl
@[simp] theorem State.setStill_flue (k : Nat) (x : Still) : (s.setStill k x).flue = s.flue := rfl
@[simp] theorem State.setStill_lamp (k : Nat) (x : Still) : (s.setStill k x).lamp = s.lamp := rfl
@[simp] theorem State.setStill_strands (k : Nat) (x : Still) : (s.setStill k x).strands = s.strands := rfl
@[simp] theorem State.setStill_seq (k : Nat) (x : Still) : (s.setStill k x).seq = s.seq := rfl
@[simp] theorem State.setStill_power (k : Nat) (x : Still) : (s.setStill k x).power = s.power := rfl
@[simp] theorem State.setStill_mods (k : Nat) (x : Still) : (s.setStill k x).mods = s.mods := rfl
@[simp] theorem State.setStill_out (k : Nat) (x : Still) : (s.setStill k x).out = s.out := rfl
@[simp] theorem State.setStill_free (k : Nat) (x : Still) : (s.setStill k x).free = s.free := rfl
@[simp] theorem State.setStill_pending (k : Nat) (x : Still) : (s.setStill k x).pending = s.pending := rfl

/-! ### State.setLayer -/
@[simp] theorem State.setLayer_now (k : Nat) (x : LayerRun) : (s.setLayer k x).now = s.now := rfl
@[simp] theorem State.setLayer_role (k : Nat) (x : LayerRun) : (s.setLayer k x).role = s.role := rfl
@[simp] theorem State.setLayer_sys (k : Nat) (x : LayerRun) : (s.setLayer k x).sys = s.sys := rfl
@[simp] theorem State.setLayer_clock (k : Nat) (x : LayerRun) : (s.setLayer k x).clock = s.clock := rfl
@[simp] theorem State.setLayer_time (k : Nat) (x : LayerRun) : (s.setLayer k x).time = s.time := rfl
@[simp] theorem State.setLayer_dict (k : Nat) (x : LayerRun) : (s.setLayer k x).dict = s.dict := rfl
@[simp] theorem State.setLayer_shadow (k : Nat) (x : LayerRun) : (s.setLayer k x).shadow = s.shadow := rfl
@[simp] theorem State.setLayer_blob (k : Nat) (x : LayerRun) : (s.setLayer k x).blob = s.blob := rfl
@[simp] theorem State.setLayer_shadowBlob (k : Nat) (x : LayerRun) : (s.setLayer k x).shadowBlob = s.shadowBlob := rfl
@[simp] theorem State.setLayer_sess (k : Nat) (x : LayerRun) : (s.setLayer k x).sess = s.sess := rfl
@[simp] theorem State.setLayer_flt (k : Nat) (x : LayerRun) : (s.setLayer k x).flt = s.flt := rfl
@[simp] theorem State.setLayer_nv (k : Nat) (x : LayerRun) : (s.setLayer k x).nv = s.nv := rfl
@[simp] theorem State.setLayer_upd (k : Nat) (x : LayerRun) : (s.setLayer k x).upd = s.upd := rfl
@[simp] theorem State.setLayer_video (k : Nat) (x : LayerRun) :
    (s.setLayer k x).video = { s.video with layers := put {} k x s.video.layers } := rfl
@[simp] theorem State.setLayer_flue (k : Nat) (x : LayerRun) : (s.setLayer k x).flue = s.flue := rfl
@[simp] theorem State.setLayer_lamp (k : Nat) (x : LayerRun) : (s.setLayer k x).lamp = s.lamp := rfl
@[simp] theorem State.setLayer_strands (k : Nat) (x : LayerRun) : (s.setLayer k x).strands = s.strands := rfl
@[simp] theorem State.setLayer_seq (k : Nat) (x : LayerRun) : (s.setLayer k x).seq = s.seq := rfl
@[simp] theorem State.setLayer_power (k : Nat) (x : LayerRun) : (s.setLayer k x).power = s.power := rfl
@[simp] theorem State.setLayer_mods (k : Nat) (x : LayerRun) : (s.setLayer k x).mods = s.mods := rfl
@[simp] theorem State.setLayer_out (k : Nat) (x : LayerRun) : (s.setLayer k x).out = s.out := rfl
@[simp] theorem State.setLayer_free (k : Nat) (x : LayerRun) : (s.setLayer k x).free = s.free := rfl
@[simp] theorem State.setLayer_pending (k : Nat) (x : LayerRun) : (s.setLayer k x).pending = s.pending := rfl

/-! ### State.setArb -/
@[simp] theorem State.setArb_now (k : Nat) (x : Arb) : (s.setArb k x).now = s.now := rfl
@[simp] theorem State.setArb_role (k : Nat) (x : Arb) : (s.setArb k x).role = s.role := rfl
@[simp] theorem State.setArb_sys (k : Nat) (x : Arb) :
    (s.setArb k x).sys = { s.sys with arbs := put {} k x s.sys.arbs } := rfl
@[simp] theorem State.setArb_clock (k : Nat) (x : Arb) : (s.setArb k x).clock = s.clock := rfl
@[simp] theorem State.setArb_time (k : Nat) (x : Arb) : (s.setArb k x).time = s.time := rfl
@[simp] theorem State.setArb_dict (k : Nat) (x : Arb) : (s.setArb k x).dict = s.dict := rfl
@[simp] theorem State.setArb_shadow (k : Nat) (x : Arb) : (s.setArb k x).shadow = s.shadow := rfl
@[simp] theorem State.setArb_blob (k : Nat) (x : Arb) : (s.setArb k x).blob = s.blob := rfl
@[simp] theorem State.setArb_shadowBlob (k : Nat) (x : Arb) : (s.setArb k x).shadowBlob = s.shadowBlob := rfl
@[simp] theorem State.setArb_sess (k : Nat) (x : Arb) : (s.setArb k x).sess = s.sess := rfl
@[simp] theorem State.setArb_flt (k : Nat) (x : Arb) : (s.setArb k x).flt = s.flt := rfl
@[simp] theorem State.setArb_nv (k : Nat) (x : Arb) : (s.setArb k x).nv = s.nv := rfl
@[simp] theorem State.setArb_upd (k : Nat) (x : Arb) : (s.setArb k x).upd = s.upd := rfl
@[simp] theorem State.setArb_video (k : Nat) (x : Arb) : (s.setArb k x).video = s.video := rfl
@[simp] theorem State.setArb_flue (k : Nat) (x : Arb) : (s.setArb k x).flue = s.flue := rfl
@[simp] theorem State.setArb_lamp (k : Nat) (x : Arb) : (s.setArb k x).lamp = s.lamp := rfl
@[simp] theorem State.setArb_strands (k : Nat) (x : Arb) : (s.setArb k x).strands = s.strands := rfl
@[simp] theorem State.setArb_seq (k : Nat) (x : Arb) : (s.setArb k x).seq = s.seq := rfl
@[simp] theorem State.setArb_power (k : Nat) (x : Arb) : (s.setArb k x).power = s.power := rfl
@[simp] theorem State.setArb_mods (k : Nat) (x : Arb) : (s.setArb k x).mods = s.mods := rfl
@[simp] theorem State.setArb_out (k : Nat) (x : Arb) : (s.setArb k x).out = s.out := rfl
@[simp] theorem State.setArb_free (k : Nat) (x : Arb) : (s.setArb k x).free = s.free := rfl
@[simp] theorem State.setArb_pending (k : Nat) (x : Arb) : (s.setArb k x).pending = s.pending := rfl

/-! ### State.setStrand -/
@[simp] theorem State.setStrand_now (k : Nat) (x : Strand) : (s.setStrand k x).now = s.now := rfl
@[simp] theorem State.setStrand_role (k : Nat) (x : Strand) : (s.setStrand k x).role = s.role := rfl
@[simp] theorem State.setStrand_sys (k : Nat) (x : Strand) : (s.setStrand k x).sys = s.sys := rfl
@[simp] theorem State.setStrand_clock (k : Nat) (x : Strand) : (s.setStrand k x).clock = s.clock := rfl
@[simp] theorem State.setStrand_time (k : Nat) (x : Strand) : (s.setStrand k x).time = s.time := rfl
@[simp] theorem State.setStrand_dict (k : Nat) (x : Strand) : (s.setStrand k x).dict = s.dict := rfl
@[simp] theorem State.setStrand_shadow (k : Nat) (x : Strand) : (s.setStrand k x).shadow = s.shadow := rfl
@[simp] theorem State.setStrand_blob (k : Nat) (x : Strand) : (s.setStrand k x).blob = s.blob := rfl
@[simp] theorem State.setStrand_shadowBlob (k : Nat) (x : Strand) : (s.setStrand k x).shadowBlob = s.shadowBlob := rfl
@[simp] theorem State.setStrand_sess (k : Nat) (x : Strand) : (s.setStrand k x).sess = s.sess := rfl
@[simp] theorem State.setStrand_flt (k : Nat) (x : Strand) : (s.setStrand k x).flt = s.flt := rfl
@[simp] theorem State.setStrand_nv (k : Nat) (x : Strand) : (s.setStrand k x).nv = s.nv := rfl
@[simp] theorem State.setStrand_upd (k : Nat) (x : Strand) : (s.setStrand k x).upd = s.upd := rfl
@[simp] theorem State.setStrand_video (k : Nat) (x : Strand) : (s.setStrand k x).video = s.video := rfl
@[simp] theorem State.setStrand_flue (k : Nat) (x : Strand) : (s.setStrand k x).flue = s.flue := rfl
@[simp] theorem State.setStrand_lamp (k : Nat) (x : Strand) : (s.setStrand k x).lamp = s.lamp := rfl
@[simp] theorem State.setStrand_strands (k : Nat) (x : Strand) :
    (s.setStrand k x).strands = put {} k x s.strands := rfl
@[simp] theorem State.setStrand_seq (k : Nat) (x : Strand) : (s.setStrand k x).seq = s.seq := rfl
@[simp] theorem State.setStrand_power (k : Nat) (x : Strand) : (s.setStrand k x).power = s.power := rfl
@[simp] theorem State.setStrand_mods (k : Nat) (x : Strand) : (s.setStrand k x).mods = s.mods := rfl
@[simp] theorem State.setStrand_out (k : Nat) (x : Strand) : (s.setStrand k x).out = s.out := rfl
@[simp] theorem State.setStrand_free (k : Nat) (x : Strand) : (s.setStrand k x).free = s.free := rfl
@[simp] theorem State.setStrand_pending (k : Nat) (x : Strand) : (s.setStrand k x).pending = s.pending := rfl

/-! ### State.setLamp -/
@[simp] theorem State.setLamp_now (k : Nat) (x : Lamp) : (s.setLamp k x).now = s.now := rfl
@[simp] theorem State.setLamp_role (k : Nat) (x : Lamp) : (s.setLamp k x).role = s.role := rfl
@[simp] theorem State.setLamp_sys (k : Nat) (x : Lamp) : (s.setLamp k x).sys = s.sys := rfl
@[simp] theorem State.setLamp_clock (k : Nat) (x : Lamp) : (s.setLamp k x).clock = s.clock := rfl
@[simp] theorem State.setLamp_time (k : Nat) (x : Lamp) : (s.setLamp k x).time = s.time := rfl
@[simp] theorem State.setLamp_dict (k : Nat) (x : Lamp) : (s.setLamp k x).dict = s.dict := rfl
@[simp] theorem State.setLamp_shadow (k : Nat) (x : Lamp) : (s.setLamp k x).shadow = s.shadow := rfl
@[simp] theorem State.setLamp_blob (k : Nat) (x : Lamp) : (s.setLamp k x).blob = s.blob := rfl
@[simp] theorem State.setLamp_shadowBlob (k : Nat) (x : Lamp) : (s.setLamp k x).shadowBlob = s.shadowBlob := rfl
@[simp] theorem State.setLamp_sess (k : Nat) (x : Lamp) : (s.setLamp k x).sess = s.sess := rfl
@[simp] theorem State.setLamp_flt (k : Nat) (x : Lamp) : (s.setLamp k x).flt = s.flt := rfl
@[simp] theorem State.setLamp_nv (k : Nat) (x : Lamp) : (s.setLamp k x).nv = s.nv := rfl
@[simp] theorem State.setLamp_upd (k : Nat) (x : Lamp) : (s.setLamp k x).upd = s.upd := rfl
@[simp] theorem State.setLamp_video (k : Nat) (x : Lamp) : (s.setLamp k x).video = s.video := rfl
@[simp] theorem State.setLamp_flue (k : Nat) (x : Lamp) : (s.setLamp k x).flue = s.flue := rfl
@[simp] theorem State.setLamp_lamp (k : Nat) (x : Lamp) :
    (s.setLamp k x).lamp = { s.lamp with lamps := put {} k x s.lamp.lamps } := rfl
@[simp] theorem State.setLamp_strands (k : Nat) (x : Lamp) : (s.setLamp k x).strands = s.strands := rfl
@[simp] theorem State.setLamp_seq (k : Nat) (x : Lamp) : (s.setLamp k x).seq = s.seq := rfl
@[simp] theorem State.setLamp_power (k : Nat) (x : Lamp) : (s.setLamp k x).power = s.power := rfl
@[simp] theorem State.setLamp_mods (k : Nat) (x : Lamp) : (s.setLamp k x).mods = s.mods := rfl
@[simp] theorem State.setLamp_out (k : Nat) (x : Lamp) : (s.setLamp k x).out = s.out := rfl
@[simp] theorem State.setLamp_free (k : Nat) (x : Lamp) : (s.setLamp k x).free = s.free := rfl
@[simp] theorem State.setLamp_pending (k : Nat) (x : Lamp) : (s.setLamp k x).pending = s.pending := rfl

/-! ### State.setModule -/
@[simp] theorem State.setModule_now (k : Nat) (x : Module) : (s.setModule k x).now = s.now := rfl
@[simp] theorem State.setModule_role (k : Nat) (x : Module) : (s.setModule k x).role = s.role := rfl
@[simp] theorem State.setModule_sys (k : Nat) (x : Module) : (s.setModule k x).sys = s.sys := rfl
@[simp] theorem State.setModule_clock (k : Nat) (x : Module) : (s.setModule k x).clock = s.clock := rfl
@[simp] theorem State.setModule_time (k : Nat) (x : Module) : (s.setModule k x).time = s.time := rfl
@[simp] theorem State.setModule_dict (k : Nat) (x : Module) : (s.setModule k x).dict = s.dict := rfl
@[simp] theorem State.setModule_shadow (k : Nat) (x : Module) : (s.setModule k x).shadow = s.shadow := rfl
@[simp] theorem State.setModule_blob (k : Nat) (x : Module) : (s.setModule k x).blob = s.blob := rfl
@[simp] theorem State.setModule_shadowBlob (k : Nat) (x : Module) : (s.setModule k x).shadowBlob = s.shadowBlob := rfl
@[simp] theorem State.setModule_sess (k : Nat) (x : Module) : (s.setModule k x).sess = s.sess := rfl
@[simp] theorem State.setModule_flt (k : Nat) (x : Module) : (s.setModule k x).flt = s.flt := rfl
@[simp] theorem State.setModule_nv (k : Nat) (x : Module) : (s.setModule k x).nv = s.nv := rfl
@[simp] theorem State.setModule_upd (k : Nat) (x : Module) : (s.setModule k x).upd = s.upd := rfl
@[simp] theorem State.setModule_video (k : Nat) (x : Module) : (s.setModule k x).video = s.video := rfl
@[simp] theorem State.setModule_flue (k : Nat) (x : Module) : (s.setModule k x).flue = s.flue := rfl
@[simp] theorem State.setModule_lamp (k : Nat) (x : Module) : (s.setModule k x).lamp = s.lamp := rfl
@[simp] theorem State.setModule_strands (k : Nat) (x : Module) : (s.setModule k x).strands = s.strands := rfl
@[simp] theorem State.setModule_seq (k : Nat) (x : Module) : (s.setModule k x).seq = s.seq := rfl
@[simp] theorem State.setModule_power (k : Nat) (x : Module) : (s.setModule k x).power = s.power := rfl
@[simp] theorem State.setModule_mods (k : Nat) (x : Module) :
    (s.setModule k x).mods = { s.mods with mods := put {} k x s.mods.mods } := rfl
@[simp] theorem State.setModule_out (k : Nat) (x : Module) : (s.setModule k x).out = s.out := rfl
@[simp] theorem State.setModule_free (k : Nat) (x : Module) : (s.setModule k x).free = s.free := rfl
@[simp] theorem State.setModule_pending (k : Nat) (x : Module) : (s.setModule k x).pending = s.pending := rfl

/-! ### State.setCal -/
@[simp] theorem State.setCal_now (x : Cal) : (s.setCal x).now = s.now := rfl
@[simp] theorem State.setCal_role (x : Cal) : (s.setCal x).role = s.role := rfl
@[simp] theorem State.setCal_sys (x : Cal) : (s.setCal x).sys = s.sys := rfl
@[simp] theorem State.setCal_clock (x : Cal) : (s.setCal x).clock = s.clock := rfl
@[simp] theorem State.setCal_time (x : Cal) : (s.setCal x).time = s.time := rfl
@[simp] theorem State.setCal_dict (x : Cal) : (s.setCal x).dict = s.dict := rfl
@[simp] theorem State.setCal_shadow (x : Cal) : (s.setCal x).shadow = s.shadow := rfl
@[simp] theorem State.setCal_blob (x : Cal) : (s.setCal x).blob = s.blob := rfl
@[simp] theorem State.setCal_shadowBlob (x : Cal) : (s.setCal x).shadowBlob = s.shadowBlob := rfl
@[simp] theorem State.setCal_sess (x : Cal) : (s.setCal x).sess = s.sess := rfl
@[simp] theorem State.setCal_flt (x : Cal) : (s.setCal x).flt = s.flt := rfl
@[simp] theorem State.setCal_nv (x : Cal) : (s.setCal x).nv = s.nv := rfl
@[simp] theorem State.setCal_upd (x : Cal) : (s.setCal x).upd = s.upd := rfl
@[simp] theorem State.setCal_video (x : Cal) : (s.setCal x).video = s.video := rfl
@[simp] theorem State.setCal_flue (x : Cal) : (s.setCal x).flue = s.flue := rfl
@[simp] theorem State.setCal_lamp (x : Cal) : (s.setCal x).lamp = s.lamp := rfl
@[simp] theorem State.setCal_strands (x : Cal) : (s.setCal x).strands = s.strands := rfl
@[simp] theorem State.setCal_seq (x : Cal) : (s.setCal x).seq = s.seq := rfl
@[simp] theorem State.setCal_power (x : Cal) : (s.setCal x).power = s.power := rfl
@[simp] theorem State.setCal_mods (x : Cal) : (s.setCal x).mods = { s.mods with cal := x } := rfl
@[simp] theorem State.setCal_out (x : Cal) : (s.setCal x).out = s.out := rfl
@[simp] theorem State.setCal_free (x : Cal) : (s.setCal x).free = s.free := rfl
@[simp] theorem State.setCal_pending (x : Cal) : (s.setCal x).pending = s.pending := rfl

/-! ### State.setThermal -/
@[simp] theorem State.setThermal_now (x : Thermal) : (s.setThermal x).now = s.now := rfl
@[simp] theorem State.setThermal_role (x : Thermal) : (s.setThermal x).role = s.role := rfl
@[simp] theorem State.setThermal_sys (x : Thermal) : (s.setThermal x).sys = s.sys := rfl
@[simp] theorem State.setThermal_clock (x : Thermal) : (s.setThermal x).clock = s.clock := rfl
@[simp] theorem State.setThermal_time (x : Thermal) : (s.setThermal x).time = s.time := rfl
@[simp] theorem State.setThermal_dict (x : Thermal) : (s.setThermal x).dict = s.dict := rfl
@[simp] theorem State.setThermal_shadow (x : Thermal) : (s.setThermal x).shadow = s.shadow := rfl
@[simp] theorem State.setThermal_blob (x : Thermal) : (s.setThermal x).blob = s.blob := rfl
@[simp] theorem State.setThermal_shadowBlob (x : Thermal) : (s.setThermal x).shadowBlob = s.shadowBlob := rfl
@[simp] theorem State.setThermal_sess (x : Thermal) : (s.setThermal x).sess = s.sess := rfl
@[simp] theorem State.setThermal_flt (x : Thermal) : (s.setThermal x).flt = s.flt := rfl
@[simp] theorem State.setThermal_nv (x : Thermal) : (s.setThermal x).nv = s.nv := rfl
@[simp] theorem State.setThermal_upd (x : Thermal) : (s.setThermal x).upd = s.upd := rfl
@[simp] theorem State.setThermal_video (x : Thermal) : (s.setThermal x).video = s.video := rfl
@[simp] theorem State.setThermal_flue (x : Thermal) : (s.setThermal x).flue = s.flue := rfl
@[simp] theorem State.setThermal_lamp (x : Thermal) : (s.setThermal x).lamp = s.lamp := rfl
@[simp] theorem State.setThermal_strands (x : Thermal) : (s.setThermal x).strands = s.strands := rfl
@[simp] theorem State.setThermal_seq (x : Thermal) : (s.setThermal x).seq = s.seq := rfl
@[simp] theorem State.setThermal_power (x : Thermal) : (s.setThermal x).power = s.power := rfl
@[simp] theorem State.setThermal_mods (x : Thermal) : (s.setThermal x).mods = { s.mods with thermal := x } := rfl
@[simp] theorem State.setThermal_out (x : Thermal) : (s.setThermal x).out = s.out := rfl
@[simp] theorem State.setThermal_free (x : Thermal) : (s.setThermal x).free = s.free := rfl
@[simp] theorem State.setThermal_pending (x : Thermal) : (s.setThermal x).pending = s.pending := rfl

/-! ### State.setZone -/
@[simp] theorem State.setZone_now (k : Nat) (x : Zone) : (s.setZone k x).now = s.now := rfl
@[simp] theorem State.setZone_role (k : Nat) (x : Zone) : (s.setZone k x).role = s.role := rfl
@[simp] theorem State.setZone_sys (k : Nat) (x : Zone) : (s.setZone k x).sys = s.sys := rfl
@[simp] theorem State.setZone_clock (k : Nat) (x : Zone) : (s.setZone k x).clock = s.clock := rfl
@[simp] theorem State.setZone_time (k : Nat) (x : Zone) : (s.setZone k x).time = s.time := rfl
@[simp] theorem State.setZone_dict (k : Nat) (x : Zone) : (s.setZone k x).dict = s.dict := rfl
@[simp] theorem State.setZone_shadow (k : Nat) (x : Zone) : (s.setZone k x).shadow = s.shadow := rfl
@[simp] theorem State.setZone_blob (k : Nat) (x : Zone) : (s.setZone k x).blob = s.blob := rfl
@[simp] theorem State.setZone_shadowBlob (k : Nat) (x : Zone) : (s.setZone k x).shadowBlob = s.shadowBlob := rfl
@[simp] theorem State.setZone_sess (k : Nat) (x : Zone) : (s.setZone k x).sess = s.sess := rfl
@[simp] theorem State.setZone_flt (k : Nat) (x : Zone) : (s.setZone k x).flt = s.flt := rfl
@[simp] theorem State.setZone_nv (k : Nat) (x : Zone) : (s.setZone k x).nv = s.nv := rfl
@[simp] theorem State.setZone_upd (k : Nat) (x : Zone) : (s.setZone k x).upd = s.upd := rfl
@[simp] theorem State.setZone_video (k : Nat) (x : Zone) : (s.setZone k x).video = s.video := rfl
@[simp] theorem State.setZone_flue (k : Nat) (x : Zone) : (s.setZone k x).flue = s.flue := rfl
@[simp] theorem State.setZone_lamp (k : Nat) (x : Zone) : (s.setZone k x).lamp = s.lamp := rfl
@[simp] theorem State.setZone_strands (k : Nat) (x : Zone) : (s.setZone k x).strands = s.strands := rfl
@[simp] theorem State.setZone_seq (k : Nat) (x : Zone) : (s.setZone k x).seq = s.seq := rfl
@[simp] theorem State.setZone_power (k : Nat) (x : Zone) :
    (s.setZone k x).power = { s.power with zones := put {} k x s.power.zones } := rfl
@[simp] theorem State.setZone_mods (k : Nat) (x : Zone) : (s.setZone k x).mods = s.mods := rfl
@[simp] theorem State.setZone_out (k : Nat) (x : Zone) : (s.setZone k x).out = s.out := rfl
@[simp] theorem State.setZone_free (k : Nat) (x : Zone) : (s.setZone k x).free = s.free := rfl
@[simp] theorem State.setZone_pending (k : Nat) (x : Zone) : (s.setZone k x).pending = s.pending := rfl

/-! ### State.setLoopSlot -/
@[simp] theorem State.setLoopSlot_now (k : Nat) (x : LoopSlot) : (s.setLoopSlot k x).now = s.now := rfl
@[simp] theorem State.setLoopSlot_role (k : Nat) (x : LoopSlot) : (s.setLoopSlot k x).role = s.role := rfl
@[simp] theorem State.setLoopSlot_sys (k : Nat) (x : LoopSlot) : (s.setLoopSlot k x).sys = s.sys := rfl
@[simp] theorem State.setLoopSlot_clock (k : Nat) (x : LoopSlot) : (s.setLoopSlot k x).clock = s.clock := rfl
@[simp] theorem State.setLoopSlot_time (k : Nat) (x : LoopSlot) : (s.setLoopSlot k x).time = s.time := rfl
@[simp] theorem State.setLoopSlot_dict (k : Nat) (x : LoopSlot) : (s.setLoopSlot k x).dict = s.dict := rfl
@[simp] theorem State.setLoopSlot_shadow (k : Nat) (x : LoopSlot) : (s.setLoopSlot k x).shadow = s.shadow := rfl
@[simp] theorem State.setLoopSlot_blob (k : Nat) (x : LoopSlot) : (s.setLoopSlot k x).blob = s.blob := rfl
@[simp] theorem State.setLoopSlot_shadowBlob (k : Nat) (x : LoopSlot) :
    (s.setLoopSlot k x).shadowBlob = s.shadowBlob := rfl
@[simp] theorem State.setLoopSlot_sess (k : Nat) (x : LoopSlot) : (s.setLoopSlot k x).sess = s.sess := rfl
@[simp] theorem State.setLoopSlot_flt (k : Nat) (x : LoopSlot) : (s.setLoopSlot k x).flt = s.flt := rfl
@[simp] theorem State.setLoopSlot_nv (k : Nat) (x : LoopSlot) : (s.setLoopSlot k x).nv = s.nv := rfl
@[simp] theorem State.setLoopSlot_upd (k : Nat) (x : LoopSlot) : (s.setLoopSlot k x).upd = s.upd := rfl
@[simp] theorem State.setLoopSlot_video (k : Nat) (x : LoopSlot) : (s.setLoopSlot k x).video = s.video := rfl
@[simp] theorem State.setLoopSlot_flue (k : Nat) (x : LoopSlot) : (s.setLoopSlot k x).flue = s.flue := rfl
@[simp] theorem State.setLoopSlot_lamp (k : Nat) (x : LoopSlot) : (s.setLoopSlot k x).lamp = s.lamp := rfl
@[simp] theorem State.setLoopSlot_strands (k : Nat) (x : LoopSlot) : (s.setLoopSlot k x).strands = s.strands := rfl
@[simp] theorem State.setLoopSlot_seq (k : Nat) (x : LoopSlot) : (s.setLoopSlot k x).seq = s.seq := rfl
@[simp] theorem State.setLoopSlot_power (k : Nat) (x : LoopSlot) :
    (s.setLoopSlot k x).power = { s.power with slots := put {} k x s.power.slots } := rfl
@[simp] theorem State.setLoopSlot_mods (k : Nat) (x : LoopSlot) : (s.setLoopSlot k x).mods = s.mods := rfl
@[simp] theorem State.setLoopSlot_out (k : Nat) (x : LoopSlot) : (s.setLoopSlot k x).out = s.out := rfl
@[simp] theorem State.setLoopSlot_free (k : Nat) (x : LoopSlot) : (s.setLoopSlot k x).free = s.free := rfl
@[simp] theorem State.setLoopSlot_pending (k : Nat) (x : LoopSlot) : (s.setLoopSlot k x).pending = s.pending := rfl

/-! ### State.setTpo -/
@[simp] theorem State.setTpo_now (k : Nat) (x : Tpo) : (s.setTpo k x).now = s.now := rfl
@[simp] theorem State.setTpo_role (k : Nat) (x : Tpo) : (s.setTpo k x).role = s.role := rfl
@[simp] theorem State.setTpo_sys (k : Nat) (x : Tpo) : (s.setTpo k x).sys = s.sys := rfl
@[simp] theorem State.setTpo_clock (k : Nat) (x : Tpo) : (s.setTpo k x).clock = s.clock := rfl
@[simp] theorem State.setTpo_time (k : Nat) (x : Tpo) :
    (s.setTpo k x).time = { s.time with tpo := put {} k x s.time.tpo } := rfl
@[simp] theorem State.setTpo_dict (k : Nat) (x : Tpo) : (s.setTpo k x).dict = s.dict := rfl
@[simp] theorem State.setTpo_shadow (k : Nat) (x : Tpo) : (s.setTpo k x).shadow = s.shadow := rfl
@[simp] theorem State.setTpo_blob (k : Nat) (x : Tpo) : (s.setTpo k x).blob = s.blob := rfl
@[simp] theorem State.setTpo_shadowBlob (k : Nat) (x : Tpo) : (s.setTpo k x).shadowBlob = s.shadowBlob := rfl
@[simp] theorem State.setTpo_sess (k : Nat) (x : Tpo) : (s.setTpo k x).sess = s.sess := rfl
@[simp] theorem State.setTpo_flt (k : Nat) (x : Tpo) : (s.setTpo k x).flt = s.flt := rfl
@[simp] theorem State.setTpo_nv (k : Nat) (x : Tpo) : (s.setTpo k x).nv = s.nv := rfl
@[simp] theorem State.setTpo_upd (k : Nat) (x : Tpo) : (s.setTpo k x).upd = s.upd := rfl
@[simp] theorem State.setTpo_video (k : Nat) (x : Tpo) : (s.setTpo k x).video = s.video := rfl
@[simp] theorem State.setTpo_flue (k : Nat) (x : Tpo) : (s.setTpo k x).flue = s.flue := rfl
@[simp] theorem State.setTpo_lamp (k : Nat) (x : Tpo) : (s.setTpo k x).lamp = s.lamp := rfl
@[simp] theorem State.setTpo_strands (k : Nat) (x : Tpo) : (s.setTpo k x).strands = s.strands := rfl
@[simp] theorem State.setTpo_seq (k : Nat) (x : Tpo) : (s.setTpo k x).seq = s.seq := rfl
@[simp] theorem State.setTpo_power (k : Nat) (x : Tpo) : (s.setTpo k x).power = s.power := rfl
@[simp] theorem State.setTpo_mods (k : Nat) (x : Tpo) : (s.setTpo k x).mods = s.mods := rfl
@[simp] theorem State.setTpo_out (k : Nat) (x : Tpo) : (s.setTpo k x).out = s.out := rfl
@[simp] theorem State.setTpo_free (k : Nat) (x : Tpo) : (s.setTpo k x).free = s.free := rfl
@[simp] theorem State.setTpo_pending (k : Nat) (x : Tpo) : (s.setTpo k x).pending = s.pending := rfl

/-! ### State.wrAt -/
@[simp] theorem State.wrAt_now (r : ObjRow) (i j : Nat) (v : Int) : (s.wrAt r i j v).now = s.now := rfl
@[simp] theorem State.wrAt_role (r : ObjRow) (i j : Nat) (v : Int) : (s.wrAt r i j v).role = s.role := rfl
@[simp] theorem State.wrAt_sys (r : ObjRow) (i j : Nat) (v : Int) : (s.wrAt r i j v).sys = s.sys := rfl
@[simp] theorem State.wrAt_clock (r : ObjRow) (i j : Nat) (v : Int) : (s.wrAt r i j v).clock = s.clock := rfl
@[simp] theorem State.wrAt_time (r : ObjRow) (i j : Nat) (v : Int) : (s.wrAt r i j v).time = s.time := rfl
@[simp] theorem State.wrAt_dict (r : ObjRow) (i j : Nat) (v : Int) :
    (s.wrAt r i j v).dict = put (r.default j) (r.key i j) v s.dict := rfl
@[simp] theorem State.wrAt_shadow (r : ObjRow) (i j : Nat) (v : Int) : (s.wrAt r i j v).shadow = s.shadow := rfl
@[simp] theorem State.wrAt_blob (r : ObjRow) (i j : Nat) (v : Int) : (s.wrAt r i j v).blob = s.blob := rfl
@[simp] theorem State.wrAt_shadowBlob (r : ObjRow) (i j : Nat) (v : Int) :
    (s.wrAt r i j v).shadowBlob = s.shadowBlob := rfl
@[simp] theorem State.wrAt_sess (r : ObjRow) (i j : Nat) (v : Int) : (s.wrAt r i j v).sess = s.sess := rfl
@[simp] theorem State.wrAt_flt (r : ObjRow) (i j : Nat) (v : Int) : (s.wrAt r i j v).flt = s.flt := rfl
@[simp] theorem State.wrAt_nv (r : ObjRow) (i j : Nat) (v : Int) : (s.wrAt r i j v).nv = s.nv := rfl
@[simp] theorem State.wrAt_upd (r : ObjRow) (i j : Nat) (v : Int) : (s.wrAt r i j v).upd = s.upd := rfl
@[simp] theorem State.wrAt_video (r : ObjRow) (i j : Nat) (v : Int) : (s.wrAt r i j v).video = s.video := rfl
@[simp] theorem State.wrAt_flue (r : ObjRow) (i j : Nat) (v : Int) : (s.wrAt r i j v).flue = s.flue := rfl
@[simp] theorem State.wrAt_lamp (r : ObjRow) (i j : Nat) (v : Int) : (s.wrAt r i j v).lamp = s.lamp := rfl
@[simp] theorem State.wrAt_strands (r : ObjRow) (i j : Nat) (v : Int) : (s.wrAt r i j v).strands = s.strands := rfl
@[simp] theorem State.wrAt_seq (r : ObjRow) (i j : Nat) (v : Int) : (s.wrAt r i j v).seq = s.seq := rfl
@[simp] theorem State.wrAt_power (r : ObjRow) (i j : Nat) (v : Int) : (s.wrAt r i j v).power = s.power := rfl
@[simp] theorem State.wrAt_mods (r : ObjRow) (i j : Nat) (v : Int) : (s.wrAt r i j v).mods = s.mods := rfl
@[simp] theorem State.wrAt_out (r : ObjRow) (i j : Nat) (v : Int) : (s.wrAt r i j v).out = s.out := rfl
@[simp] theorem State.wrAt_free (r : ObjRow) (i j : Nat) (v : Int) : (s.wrAt r i j v).free = s.free := rfl
@[simp] theorem State.wrAt_pending (r : ObjRow) (i j : Nat) (v : Int) : (s.wrAt r i j v).pending = s.pending := rfl

/-! ### State.wr -/
@[simp] theorem State.wr_now (r : ObjRow) (v : Int) : (s.wr r v).now = s.now := rfl
@[simp] theorem State.wr_role (r : ObjRow) (v : Int) : (s.wr r v).role = s.role := rfl
@[simp] theorem State.wr_sys (r : ObjRow) (v : Int) : (s.wr r v).sys = s.sys := rfl
@[simp] theorem State.wr_clock (r : ObjRow) (v : Int) : (s.wr r v).clock = s.clock := rfl
@[simp] theorem State.wr_time (r : ObjRow) (v : Int) : (s.wr r v).time = s.time := rfl
@[simp] theorem State.wr_dict (r : ObjRow) (v : Int) : (s.wr r v).dict = put (r.default 0) (r.key 0 0) v s.dict := rfl
@[simp] theorem State.wr_shadow (r : ObjRow) (v : Int) : (s.wr r v).shadow = s.shadow := rfl
@[simp] theorem State.wr_blob (r : ObjRow) (v : Int) : (s.wr r v).blob = s.blob := rfl
@[simp] theorem State.wr_shadowBlob (r : ObjRow) (v : Int) : (s.wr r v).shadowBlob = s.shadowBlob := rfl
@[simp] theorem State.wr_sess (r : ObjRow) (v : Int) : (s.wr r v).sess = s.sess := rfl
@[simp] theorem State.wr_flt (r : ObjRow) (v : Int) : (s.wr r v).flt = s.flt := rfl
@[simp] theorem State.wr_nv (r : ObjRow) (v : Int) : (s.wr r v).nv = s.nv := rfl
@[simp] theorem State.wr_upd (r : ObjRow) (v : Int) : (s.wr r v).upd = s.upd := rfl
@[simp] theorem State.wr_video (r : ObjRow) (v : Int) : (s.wr r v).video = s.video := rfl
@[simp] theorem State.wr_flue (r : ObjRow) (v : Int) : (s.wr r v).flue = s.flue := rfl
@[simp] theorem State.wr_lamp (r : ObjRow) (v : Int) : (s.wr r v).lamp = s.lamp := rfl
@[simp] theorem State.wr_strands (r : ObjRow) (v : Int) : (s.wr r v).strands = s.strands := rfl
@[simp] theorem State.wr_seq (r : ObjRow) (v : Int) : (s.wr r v).seq = s.seq := rfl
@[simp] theorem State.wr_power (r : ObjRow) (v : Int) : (s.wr r v).power = s.power := rfl
@[simp] theorem State.wr_mods (r : ObjRow) (v : Int) : (s.wr r v).mods = s.mods := rfl
@[simp] theorem State.wr_out (r : ObjRow) (v : Int) : (s.wr r v).out = s.out := rfl
@[simp] theorem State.wr_free (r : ObjRow) (v : Int) : (s.wr r v).free = s.free := rfl
@[simp] theorem State.wr_pending (r : ObjRow) (v : Int) : (s.wr r v).pending = s.pending := rfl

/-! ### State.setShAt -/
@[simp] theorem State.setShAt_now (r : ObjRow) (i j : Nat) (v : Int) : (s.setShAt r i j v).now = s.now := rfl
@[simp] theorem State.setShAt_role (r : ObjRow) (i j : Nat) (v : Int) : (s.setShAt r i j v).role = s.role := rfl
@[simp] theorem State.setShAt_sys (r : ObjRow) (i j : Nat) (v : Int) : (s.setShAt r i j v).sys = s.sys := rfl
@[simp] theorem State.setShAt_clock (r : ObjRow) (i j : Nat) (v : Int) : (s.setShAt r i j v).clock = s.clock := rfl
@[simp] theorem State.setShAt_time (r : ObjRow) (i j : Nat) (v : Int) : (s.setShAt r i j v).time = s.time := rfl
@[simp] theorem State.setShAt_dict (r : ObjRow) (i j : Nat) (v : Int) : (s.setShAt r i j v).dict = s.dict := rfl
@[simp] theorem State.setShAt_shadow (r : ObjRow) (i j : Nat) (v : Int) :
    (s.setShAt r i j v).shadow = put (r.default j) (r.key i j) v s.shadow := rfl
@[simp] theorem State.setShAt_blob (r : ObjRow) (i j : Nat) (v : Int) : (s.setShAt r i j v).blob = s.blob := rfl
@[simp] theorem State.setShAt_shadowBlob (r : ObjRow) (i j : Nat) (v : Int) :
    (s.setShAt r i j v).shadowBlob = s.shadowBlob := rfl
@[simp] theorem State.setShAt_sess (r : ObjRow) (i j : Nat) (v : Int) : (s.setShAt r i j v).sess = s.sess := rfl
@[simp] theorem State.setShAt_flt (r : ObjRow) (i j : Nat) (v : Int) : (s.setShAt r i j v).flt = s.flt := rfl
@[simp] theorem State.setShAt_nv (r : ObjRow) (i j : Nat) (v : Int) : (s.setShAt r i j v).nv = s.nv := rfl
@[simp] theorem State.setShAt_upd (r : ObjRow) (i j : Nat) (v : Int) : (s.setShAt r i j v).upd = s.upd := rfl
@[simp] theorem State.setShAt_video (r : ObjRow) (i j : Nat) (v : Int) : (s.setShAt r i j v).video = s.video := rfl
@[simp] theorem State.setShAt_flue (r : ObjRow) (i j : Nat) (v : Int) : (s.setShAt r i j v).flue = s.flue := rfl
@[simp] theorem State.setShAt_lamp (r : ObjRow) (i j : Nat) (v : Int) : (s.setShAt r i j v).lamp = s.lamp := rfl
@[simp] theorem State.setShAt_strands (r : ObjRow) (i j : Nat) (v : Int) :
    (s.setShAt r i j v).strands = s.strands := rfl
@[simp] theorem State.setShAt_seq (r : ObjRow) (i j : Nat) (v : Int) : (s.setShAt r i j v).seq = s.seq := rfl
@[simp] theorem State.setShAt_power (r : ObjRow) (i j : Nat) (v : Int) : (s.setShAt r i j v).power = s.power := rfl
@[simp] theorem State.setShAt_mods (r : ObjRow) (i j : Nat) (v : Int) : (s.setShAt r i j v).mods = s.mods := rfl
@[simp] theorem State.setShAt_out (r : ObjRow) (i j : Nat) (v : Int) : (s.setShAt r i j v).out = s.out := rfl
@[simp] theorem State.setShAt_free (r : ObjRow) (i j : Nat) (v : Int) : (s.setShAt r i j v).free = s.free := rfl
@[simp] theorem State.setShAt_pending (r : ObjRow) (i j : Nat) (v : Int) :
    (s.setShAt r i j v).pending = s.pending := rfl

/-! ### State.send -/
@[simp] theorem State.send_now (x : Tx) : (s.send x).now = s.now := rfl
@[simp] theorem State.send_role (x : Tx) : (s.send x).role = s.role := rfl
@[simp] theorem State.send_sys (x : Tx) : (s.send x).sys = s.sys := rfl
@[simp] theorem State.send_clock (x : Tx) : (s.send x).clock = s.clock := rfl
@[simp] theorem State.send_time (x : Tx) : (s.send x).time = s.time := rfl
@[simp] theorem State.send_dict (x : Tx) : (s.send x).dict = s.dict := rfl
@[simp] theorem State.send_shadow (x : Tx) : (s.send x).shadow = s.shadow := rfl
@[simp] theorem State.send_blob (x : Tx) : (s.send x).blob = s.blob := rfl
@[simp] theorem State.send_shadowBlob (x : Tx) : (s.send x).shadowBlob = s.shadowBlob := rfl
@[simp] theorem State.send_sess (x : Tx) : (s.send x).sess = s.sess := rfl
@[simp] theorem State.send_flt (x : Tx) : (s.send x).flt = s.flt := rfl
@[simp] theorem State.send_nv (x : Tx) : (s.send x).nv = s.nv := rfl
@[simp] theorem State.send_upd (x : Tx) : (s.send x).upd = s.upd := rfl
@[simp] theorem State.send_video (x : Tx) : (s.send x).video = s.video := rfl
@[simp] theorem State.send_flue (x : Tx) : (s.send x).flue = s.flue := rfl
@[simp] theorem State.send_lamp (x : Tx) : (s.send x).lamp = s.lamp := rfl
@[simp] theorem State.send_strands (x : Tx) : (s.send x).strands = s.strands := rfl
@[simp] theorem State.send_seq (x : Tx) : (s.send x).seq = s.seq := rfl
@[simp] theorem State.send_power (x : Tx) : (s.send x).power = s.power := rfl
@[simp] theorem State.send_mods (x : Tx) : (s.send x).mods = s.mods := rfl
@[simp] theorem State.send_out (x : Tx) : (s.send x).out = (s.now, x) :: s.out := rfl
@[simp] theorem State.send_free (x : Tx) : (s.send x).free = s.free := rfl
@[simp] theorem State.send_pending (x : Tx) : (s.send x).pending = s.pending := rfl

/-! ### State.used -/
@[simp] theorem State.used_now : (s.used).now = s.now := rfl
@[simp] theorem State.used_role : (s.used).role = s.role := rfl
@[simp] theorem State.used_sys : (s.used).sys = s.sys := rfl
@[simp] theorem State.used_clock : (s.used).clock = s.clock := rfl
@[simp] theorem State.used_time : (s.used).time = s.time := rfl
@[simp] theorem State.used_dict : (s.used).dict = s.dict := rfl
@[simp] theorem State.used_shadow : (s.used).shadow = s.shadow := rfl
@[simp] theorem State.used_blob : (s.used).blob = s.blob := rfl
@[simp] theorem State.used_shadowBlob : (s.used).shadowBlob = s.shadowBlob := rfl
@[simp] theorem State.used_sess : (s.used).sess = s.sess := rfl
@[simp] theorem State.used_flt : (s.used).flt = s.flt := rfl
@[simp] theorem State.used_nv : (s.used).nv = s.nv := rfl
@[simp] theorem State.used_upd : (s.used).upd = s.upd := rfl
@[simp] theorem State.used_video : (s.used).video = s.video := rfl
@[simp] theorem State.used_flue : (s.used).flue = s.flue := rfl
@[simp] theorem State.used_lamp : (s.used).lamp = s.lamp := rfl
@[simp] theorem State.used_strands : (s.used).strands = s.strands := rfl
@[simp] theorem State.used_seq : (s.used).seq = s.seq := rfl
@[simp] theorem State.used_power : (s.used).power = s.power := rfl
@[simp] theorem State.used_mods : (s.used).mods = s.mods := rfl
@[simp] theorem State.used_out : (s.used).out = s.out := rfl
@[simp] theorem State.used_free : (s.used).free = s.free + 1 := rfl
@[simp] theorem State.used_pending : (s.used).pending = s.pending := rfl

/-! ### State.upTo -/
@[simp] theorem State.upTo_now (t : Cyc) : (s.upTo t).now = max s.now t := rfl
@[simp] theorem State.upTo_role (t : Cyc) : (s.upTo t).role = s.role := rfl
@[simp] theorem State.upTo_sys (t : Cyc) : (s.upTo t).sys = s.sys := rfl
@[simp] theorem State.upTo_clock (t : Cyc) : (s.upTo t).clock = s.clock := rfl
@[simp] theorem State.upTo_time (t : Cyc) : (s.upTo t).time = s.time := rfl
@[simp] theorem State.upTo_dict (t : Cyc) : (s.upTo t).dict = s.dict := rfl
@[simp] theorem State.upTo_shadow (t : Cyc) : (s.upTo t).shadow = s.shadow := rfl
@[simp] theorem State.upTo_blob (t : Cyc) : (s.upTo t).blob = s.blob := rfl
@[simp] theorem State.upTo_shadowBlob (t : Cyc) : (s.upTo t).shadowBlob = s.shadowBlob := rfl
@[simp] theorem State.upTo_sess (t : Cyc) : (s.upTo t).sess = s.sess := rfl
@[simp] theorem State.upTo_flt (t : Cyc) : (s.upTo t).flt = s.flt := rfl
@[simp] theorem State.upTo_nv (t : Cyc) : (s.upTo t).nv = s.nv := rfl
@[simp] theorem State.upTo_upd (t : Cyc) : (s.upTo t).upd = s.upd := rfl
@[simp] theorem State.upTo_video (t : Cyc) : (s.upTo t).video = s.video := rfl
@[simp] theorem State.upTo_flue (t : Cyc) : (s.upTo t).flue = s.flue := rfl
@[simp] theorem State.upTo_lamp (t : Cyc) : (s.upTo t).lamp = s.lamp := rfl
@[simp] theorem State.upTo_strands (t : Cyc) : (s.upTo t).strands = s.strands := rfl
@[simp] theorem State.upTo_seq (t : Cyc) : (s.upTo t).seq = s.seq := rfl
@[simp] theorem State.upTo_power (t : Cyc) : (s.upTo t).power = s.power := rfl
@[simp] theorem State.upTo_mods (t : Cyc) : (s.upTo t).mods = s.mods := rfl
@[simp] theorem State.upTo_out (t : Cyc) : (s.upTo t).out = s.out := rfl
@[simp] theorem State.upTo_free (t : Cyc) : (s.upTo t).free = s.free := rfl
@[simp] theorem State.upTo_pending (t : Cyc) : (s.upTo t).pending = s.pending := rfl

end Sys2Proof.Machine
end

