-- ==== Sys2Proof/Laws/Ops.lean ====
section
/-! SUPPORT. What the shared operations do: stores and their canonical form, bytes, dictionary values, faults, time, and
the answer of a meaning. -/

namespace Sys2Proof.Machine

/-! ### Stores: read after write -/

section Stores
variable {α : Type}

theorem look_drop_same (d : α) (k : Nat) (m : List (Nat × α)) : look d k (drop k m) = d := by
  induction m with
  | nil => rfl
  | cons p m ih =>
    obtain ⟨a, v⟩ := p
    by_cases h : a = k <;> simp [drop, look, h, ih]

theorem look_drop_other (d : α) {k a : Nat} (h : a ≠ k) (m : List (Nat × α)) : look d a (drop k m) = look d a m := by
  induction m with
  | nil => rfl
  | cons p m ih =>
    obtain ⟨b, v⟩ := p
    by_cases hb : b = k
    · have : b ≠ a := fun e => h (e ▸ hb)
      simp [drop, look, hb, ih, hb ▸ this]
    · simp [drop, look, hb, ih]

theorem look_insertAt_same (d : α) (k : Nat) (v : α) (m : List (Nat × α)) (hm : ∀ p ∈ m, p.1 ≠ k) :
    look d k (insertAt k v m) = v := by
  induction m with
  | nil => simp [insertAt, look]
  | cons p m ih =>
    obtain ⟨a, w⟩ := p
    have ha : a ≠ k := hm (a, w) (by simp)
    by_cases h : k ≤ a
    · simp [insertAt, look, h]
    · simp only [insertAt, h, if_false, look, ha]
      exact ih fun p hp => hm p (by simp [hp])

theorem look_insertAt_other (d : α) {k a : Nat} (h : a ≠ k) (v : α) (m : List (Nat × α)) :
    look d a (insertAt k v m) = look d a m := by
  have h' : k ≠ a := fun e => h e.symm
  induction m with
  | nil => simp [insertAt, look, h']
  | cons p m ih =>
    obtain ⟨b, w⟩ := p
    by_cases hb : k ≤ b <;> simp [insertAt, look, hb, h', ih]

theorem not_mem_drop (k : Nat) (m : List (Nat × α)) : ∀ p ∈ drop k m, p.1 ≠ k := by
  induction m with
  | nil => simp [drop]
  | cons p m ih =>
    obtain ⟨a, v⟩ := p
    by_cases h : a = k
    · simpa [drop, h] using ih
    · intro q hq
      simp only [drop, h, if_false, List.mem_cons] at hq
      rcases hq with rfl | hq
      · exact h
      · exact ih q hq

/-- A store reads what was last written. -/
@[simp] theorem look_put_same [DecidableEq α] (d : α) (k : Nat) (v : α) (m : List (Nat × α)) :
    look d k (put d k v m) = v := by
  by_cases h : v = d
  · simp [put, h, look_drop_same]
  · simp only [put, h, if_false]
    exact look_insertAt_same d k v _ (not_mem_drop k m)

/-- A write leaves every other key alone. -/
theorem look_put_other [DecidableEq α] (e d : α) {k a : Nat} (h : a ≠ k) (v : α) (m : List (Nat × α)) :
    look e a (put d k v m) = look e a m := by
  by_cases hv : v = d
  · simp [put, hv, look_drop_other, h]
  · simp [put, hv, look_insertAt_other, look_drop_other, h]

/-! ### Stores: the canonical form -/

theorem risingFrom_mono {lo lo' : Nat} (h : lo' ≤ lo) (m : List (Nat × α)) (hm : risingFrom lo m = true) :
    risingFrom lo' m = true := by
  cases m with
  | nil => rfl
  | cons p m =>
    simp only [risingFrom, Bool.and_eq_true, decide_eq_true_eq] at hm ⊢
    exact ⟨Nat.le_trans h hm.1, hm.2⟩

theorem risingFrom_drop (lo k : Nat) (m : List (Nat × α)) (hm : risingFrom lo m = true) :
    risingFrom lo (drop k m) = true := by
  induction m generalizing lo with
  | nil => rfl
  | cons p m ih =>
    obtain ⟨a, v⟩ := p
    simp only [risingFrom, Bool.and_eq_true, decide_eq_true_eq] at hm
    by_cases h : a = k
    · simp only [drop, h, if_true]
      exact risingFrom_mono (by omega) _ (ih (a + 1) hm.2)
    · simp only [drop, h, if_false, risingFrom, Bool.and_eq_true, decide_eq_true_eq]
      exact ⟨hm.1, ih (a + 1) hm.2⟩

theorem risingFrom_insertAt {lo k : Nat} (hk : lo ≤ k) (v : α) (m : List (Nat × α)) (hm : risingFrom lo m = true)
    (hn : ∀ p ∈ m, p.1 ≠ k) : risingFrom lo (insertAt k v m) = true := by
  induction m generalizing lo with
  | nil => simp [insertAt, risingFrom, hk]
  | cons p m ih =>
    obtain ⟨a, w⟩ := p
    have ha : a ≠ k := hn (a, w) (by simp)
    simp only [risingFrom, Bool.and_eq_true, decide_eq_true_eq] at hm
    by_cases h : k ≤ a
    · have : k + 1 ≤ a := by omega
      simp [insertAt, h, risingFrom, hk, this, hm.2]
    · simp only [insertAt, h, if_false, risingFrom, Bool.and_eq_true, decide_eq_true_eq]
      exact ⟨hm.1, ih (by omega) hm.2 fun p hp => hn p (by simp [hp])⟩

theorem all_drop (k : Nat) (f : Nat × α → Bool) (m : List (Nat × α)) (h : m.all f = true) : (drop k m).all f = true := by
  induction m with
  | nil => rfl
  | cons p m ih =>
    obtain ⟨a, v⟩ := p
    simp only [List.all_cons, Bool.and_eq_true] at h
    by_cases ha : a = k
    · simpa [drop, ha] using ih h.2
    · simp [drop, ha, h.1, ih h.2]

theorem all_insertAt (k : Nat) (v : α) (f : Nat × α → Bool) (m : List (Nat × α)) (hv : f (k, v) = true)
    (h : m.all f = true) : (insertAt k v m).all f = true := by
  induction m with
  | nil => simp [insertAt, hv]
  | cons p m ih =>
    obtain ⟨a, w⟩ := p
    simp only [List.all_cons, Bool.and_eq_true] at h
    by_cases ha : k ≤ a <;> simp [insertAt, ha, hv, h.1, h.2, ih h.2]

/-- A write keeps the canonical form. -/
theorem canonical_put [DecidableEq α] (d : Nat → α) (k : Nat) (v : α) (m : List (Nat × α))
    (h : canonical d m = true) : canonical d (put (d k) k v m) = true := by
  simp only [canonical, Bool.and_eq_true] at h ⊢
  by_cases hv : v = d k
  · simp only [put, hv, if_true]
    exact ⟨risingFrom_drop 0 k m h.1, all_drop k _ m h.2⟩
  · simp only [put, hv, if_false]
    exact ⟨risingFrom_insertAt (Nat.zero_le k) v _ (risingFrom_drop 0 k m h.1) (not_mem_drop k m),
      all_insertAt k v _ _ (by simp [hv]) (all_drop k _ m h.2)⟩

theorem risingFrom_filter (f : Nat × α → Bool) (lo : Nat) (m : List (Nat × α)) (h : risingFrom lo m = true) :
    risingFrom lo (m.filter f) = true := by
  induction m generalizing lo with
  | nil => rfl
  | cons p m ih =>
    obtain ⟨a, v⟩ := p
    simp only [risingFrom, Bool.and_eq_true, decide_eq_true_eq] at h
    by_cases hf : f (a, v) = true
    · simp [List.filter, hf, risingFrom, h.1, ih _ h.2]
    · simp only [List.filter, hf]
      exact risingFrom_mono (by omega) _ (ih _ h.2)

/-- Removing a range keeps the canonical form. -/
theorem canonical_clearRange [DecidableEq α] (d : Nat → α) (lo hi : Nat) (m : List (Nat × α))
    (h : canonical d m = true) : canonical d (clearRange lo hi m) = true := by
  simp only [canonical, Bool.and_eq_true] at h ⊢
  refine ⟨risingFrom_filter _ 0 m h.1, ?_⟩
  rw [List.all_eq_true] at h ⊢
  exact fun p hp => h.2 p (List.mem_filter.mp hp).1

end Stores

/-! ### Bytes -/

/-- Writing bytes keeps the canonical form of a memory. -/
theorem canonical_writeBytes (d : Nat → Byte) (bs : List Byte) :
    ∀ (m : List Host.Cell) (a : Nat), canonical d m = true → canonical d (writeBytes d m a bs) = true := by
  induction bs with
  | nil => exact fun _ _ h => h
  | cons b bs ih => exact fun m a h => ih _ _ (canonical_put d a b m h)

/-- Bytes outside those written read as before. -/
theorem look_writeBytes_other (d : Nat → Byte) (bs : List Byte) :
    ∀ (m : List Host.Cell) (a x : Nat), (x < a ∨ a + bs.length ≤ x) →
      look (d x) x (writeBytes d m a bs) = look (d x) x m := by
  induction bs with
  | nil => exact fun _ _ _ _ => rfl
  | cons b bs ih =>
    intro m a x h
    simp only [List.length_cons] at h
    have hx : x ≠ a := by omega
    rw [writeBytes, ih _ _ _ (by omega), look_put_other _ _ hx]

/-- The bytes written read back. -/
theorem look_writeBytes_in (d : Nat → Byte) (bs : List Byte) :
    ∀ (m : List Host.Cell) (a i : Nat), i < bs.length →
      look (d (a + i)) (a + i) (writeBytes d m a bs) = bs.getD i 0 := by
  induction bs with
  | nil => intro _ _ i h; simp at h
  | cons b bs ih =>
    intro m a i h
    cases i with
    | zero =>
      rw [writeBytes, Nat.add_zero, look_writeBytes_other d bs _ _ _ (Or.inl (by omega)), look_put_same]
      rfl
    | succ i =>
      have := ih (put (d a) a b m) (a + 1) i (by simpa using h)
      rw [writeBytes]
      rw [show a + (i + 1) = a + 1 + i by omega]
      simpa using this

/-! ### Folds -/

/-- What every step of a fold keeps, the fold keeps. -/
theorem foldl_keeps {α β γ : Type} (P : β → γ) (f : β → α → β) (hf : ∀ b a, P (f b a) = P b) (l : List α) (b : β) :
    P (l.foldl f b) = P b := by
  induction l generalizing b with
  | nil => rfl
  | cons a l ih => rw [List.foldl_cons, ih, hf]

/-! ### Dictionary values -/

section Values
variable (s : State) (r q : ObjRow) (i j a b : Nat) (v : Int)

@[simp] theorem State.rdAt_wrAt_same : (s.wrAt r i j v).rdAt r i j = v := by simp [State.rdAt]

theorem State.rdAt_wrAt_other (h : q.key a b ≠ r.key i j) : (s.wrAt r i j v).rdAt q a b = s.rdAt q a b := by
  simp [State.rdAt, look_put_other _ _ h]

@[simp] theorem State.rd_wr_same : (s.wr r v).rd r = v := by simp [State.rd, State.wr]

theorem State.rd_wr_other (h : q.key 0 0 ≠ r.key 0 0) : (s.wr r v).rd q = s.rd q :=
  State.rdAt_wrAt_other s r q 0 0 0 0 v h

/-- Two states with one dictionary read alike. -/
theorem State.rdAt_congr {s u : State} (h : u.dict = s.dict) : u.rdAt r i j = s.rdAt r i j := by
  simp [State.rdAt, h]

/-- A count below its type's range rises by one. -/
theorem State.bumpAt_next (h : s.rdAt r i j + 1 ≤ r.hi) : s.bumpAt r i j = s.wrAt r i j (s.rdAt r i j + 1) := by
  simp [State.bumpAt, State.addTo, h]

/-- Counting changes the dictionary and the free-value counter only. -/
theorem State.bumpAt_frame :
    ∃ d n, s.bumpAt r i j = { s with dict := d, free := n } := by
  unfold State.bumpAt State.addTo
  dsimp only
  split
  · exact ⟨_, s.free, rfl⟩
  · exact ⟨_, _, rfl⟩

end Values

/-! ### Sessions -/

@[simp] theorem State.session_setSession_same (s : State) (k : Nat) (x : Session) : (s.setSession k x).session k = x := by
  simp [State.session]

theorem State.session_setSession_other (s : State) {k a : Nat} (h : a ≠ k) (x : Session) :
    (s.setSession k x).session a = s.session a := by
  simp [State.session, look_put_other _ _ h]

/-! ### Faults -/

/-- A running collector queues the event, stamped now; nothing else changes. -/
theorem State.raise_queue (s : State) (src unit value : Nat) (h : s.flt.running = true) :
    s.raise src unit value = s.setFlt { s.flt with queue := s.flt.queue ++
      [{ src := src, unit := unit, value := value, at_ := s.now, wall := s.wall18, injected := false }] } := by
  simp [State.raise, h, State.setFlt]

/-- Raising touches the collector only. -/
theorem State.raise_frame (s : State) (src unit value : Nat) : ∃ f, s.raise src unit value = s.setFlt f := by
  unfold State.raise
  split
  · exact ⟨_, rfl⟩
  · exact ⟨s.flt, rfl⟩

/-- Holding a condition touches the collector's conditions only. -/
theorem State.hold_eq (s : State) (src unit : Nat) (b : Bool) :
    ∃ l, s.hold src unit b = s.setFlt { s.flt with conds := l } := ⟨_, rfl⟩

/-! ### Time and the answer of a meaning -/

@[simp] theorem State.upTo_live (s : State) (t : Cyc) : (s.upTo t).live = s.live := rfl
@[simp] theorem State.upTo_isSender (s : State) (t : Cyc) : (s.upTo t).isSender = s.isSender := rfl
@[simp] theorem State.upTo_isTile (s : State) (t : Cyc) : (s.upTo t).isTile = s.isTile := rfl
@[simp] theorem State.upTo_rdAt (s : State) (t : Cyc) (r : ObjRow) (i j : Nat) :
    (s.upTo t).rdAt r i j = s.rdAt r i j := rfl

section Fixed
variable (s r : State)
@[simp] theorem State.fixed_now : (s.fixed r).now = s.now := rfl
@[simp] theorem State.fixed_pending : (s.fixed r).pending = s.pending := rfl
@[simp] theorem State.fixed_porstLow : (s.fixed r).sys.porstLow = s.sys.porstLow := rfl
@[simp] theorem State.fixed_railLow : (s.fixed r).sys.railLow = s.sys.railLow := rfl
@[simp] theorem State.fixed_ioLow : (s.fixed r).sys.ioLow = s.sys.ioLow := rfl
@[simp] theorem State.fixed_phase : (s.fixed r).sys.phase = r.sys.phase := rfl
@[simp] theorem State.fixed_role : (s.fixed r).role = r.role := rfl
@[simp] theorem State.fixed_dict : (s.fixed r).dict = r.dict := rfl
end Fixed

/-- A meaning always answers. -/
theorem State.run_next (s : State) (t : Cyc) (f : State → State) :
    s.run t f = .next (if s.live then { (s.upTo t).fixed (f (s.upTo t)) with role := s.role } else s.upTo t) := rfl

/-- Out of reset the effect takes place. -/
theorem State.run_live (s : State) (t : Cyc) (f : State → State) (h : s.live = true) :
    s.run t f = .next { (s.upTo t).fixed (f (s.upTo t)) with role := s.role } := by
  simp [State.run_next, h]

/-- In reset only time passes. -/
theorem State.run_reset (s : State) (t : Cyc) (f : State → State) (h : s.live = false) : s.run t f = .next (s.upTo t) := by
  simp [State.run_next, h]

end Sys2Proof.Machine
end

