-- ==== Sys2Proof/Laws/Exec.lean ====
section
/-! SUPPORT. The form of every command: its effect under `State.run`, save the five that act in reset too. -/

namespace Sys2Proof.Machine

/-- The commands that act whatever PORST_N and the rails are: their own, and JTAG. -/
def Instr.actsInReset : Instr → Bool
  | .porstAssert _ | .porstRelease _ _ | .brownOut _ _ | .brownOutRecover _ _ | .jtagInstruction _ _ => true
  | _ => false

/-- Every other command is one effect under `State.run`. -/
theorem exec_is_run (c : Instr) (hc : Instr.actsInReset c = false) : ∃ f, ∀ s, exec c s = s.run c.time f := by
  cases c
  case porstAssert => exact absurd hc (by simp [Instr.actsInReset])
  case porstRelease => exact absurd hc (by simp [Instr.actsInReset])
  case brownOut => exact absurd hc (by simp [Instr.actsInReset])
  case brownOutRecover => exact absurd hc (by simp [Instr.actsInReset])
  case pllLossOfLock t pll =>
    exact ⟨_, fun s => (by unfold execPllLossOfLock; rfl : execPllLossOfLock t pll s = s.run t _)⟩
  case pllRelock t pll =>
    exact ⟨_, fun s => (by unfold execPllRelock; rfl : execPllRelock t pll s = s.run t _)⟩
  case pllRelockTimeout t pll p =>
    exact ⟨_, fun s => (by unfold execPllRelockTimeout; rfl : execPllRelockTimeout t pll p s = s.run t _)⟩
  case bootReset t m p =>
    exact ⟨_, fun s => (by unfold execBootReset; rfl : execBootReset t m p s = s.run t _)⟩
  case configLoadDone t =>
    exact ⟨_, fun s => (by unfold execConfigLoadDone; rfl : execConfigLoadDone t s = s.run t _)⟩
  case powerOnAnchor t =>
    exact ⟨_, fun s => (by unfold execPowerOnAnchor; rfl : execPowerOnAnchor t s = s.run t _)⟩
  case tileLightUp t =>
    exact ⟨_, fun s => (by unfold execTileLightUp; rfl : execTileLightUp t s = s.run t _)⟩
  case frameBoundary t =>
    exact ⟨_, fun s => (by unfold execFrameBoundary; rfl : execFrameBoundary t s = s.run t _)⟩
  case lockstepMismatch t pair =>
    exact ⟨_, fun s => (by unfold execLockstepMismatch; rfl : execLockstepMismatch t pair s = s.run t _)⟩
  case pairWatchdogExpiry t pair =>
    exact ⟨_, fun s => (by unfold execPairWatchdogExpiry; rfl : execPairWatchdogExpiry t pair s = s.run t _)⟩
  case pairMemoryUe t pair =>
    exact ⟨_, fun s => (by unfold execPairMemoryUe; rfl : execPairMemoryUe t pair s = s.run t _)⟩
  case pairMRestart t m =>
    exact ⟨_, fun s => (by unfold execPairMRestart; rfl : execPairMRestart t m s = s.run t _)⟩
  case pairCRestart t m =>
    exact ⟨_, fun s => (by unfold execPairCRestart; rfl : execPairCRestart t m s = s.run t _)⟩
  case pairCResume t =>
    exact ⟨_, fun s => (by unfold execPairCResume; rfl : execPairCResume t s = s.run t _)⟩
  case pairMResume t =>
    exact ⟨_, fun s => (by unfold execPairMResume; rfl : execPairMResume t s = s.run t _)⟩
  case engineUe t pe =>
    exact ⟨_, fun s => (by unfold execEngineUe; rfl : execEngineUe t pe s = s.run t _)⟩
  case engineHealthCheck t pe ok =>
    exact ⟨_, fun s => (by unfold execEngineHealthCheck; rfl : execEngineHealthCheck t pe ok s = s.run t _)⟩
  case engineCorrectedError t pe word =>
    exact ⟨_, fun s => (by unfold execEngineCorrectedError; rfl : execEngineCorrectedError t pe word s = s.run t _)⟩
  case devEngRetiredClear t m =>
    exact ⟨_, fun s => (by unfold execDevEngRetiredClear; rfl : execDevEngRetiredClear t m s = s.run t _)⟩
  case arbiterGrant t arb raised =>
    exact ⟨_, fun s => (by unfold execArbiterGrant; rfl : execArbiterGrant t arb raised s = s.run t _)⟩
  case openMsg t o =>
    exact ⟨_, fun s => (by unfold execOpenMsg; rfl : execOpenMsg t o s = s.run t _)⟩
  case close t m =>
    exact ⟨_, fun s => (by unfold execClose; rfl : execClose t m s = s.run t _)⟩
  case keepalive t m =>
    exact ⟨_, fun s => (by unfold execKeepalive; rfl : execKeepalive t m s = s.run t _)⟩
  case read t m win =>
    exact ⟨_, fun s => (by unfold execRead; rfl : execRead t m win s = s.run t _)⟩
  case write t m vals =>
    exact ⟨_, fun s => (by unfold execWrite; rfl : execWrite t m vals s = s.run t _)⟩
  case describe t m =>
    exact ⟨_, fun s => (by unfold execDescribe; rfl : execDescribe t m s = s.run t _)⟩
  case commit t m scope chims flags target =>
    exact ⟨_, fun s => (by unfold execCommit; rfl : execCommit t m scope chims flags target s = s.run t _)⟩
  case commitGo t m =>
    exact ⟨_, fun s => (by unfold execCommitGo; rfl : execCommitGo t m s = s.run t _)⟩
  case arm t m id scope target gen =>
    exact ⟨_, fun s => (by unfold execArm; rfl : execArm t m id scope target gen s = s.run t _)⟩
  case armReply t chim tile id armed =>
    exact ⟨_, fun s => (by unfold execArmReply; rfl : execArmReply t chim tile id armed s = s.run t _)⟩
  case armReplyDeadline t =>
    exact ⟨_, fun s => (by unfold execArmReplyDeadline; rfl : execArmReplyDeadline t s = s.run t _)⟩
  case abortRepeat t =>
    exact ⟨_, fun s => (by unfold execAbortRepeat; rfl : execAbortRepeat t s = s.run t _)⟩
  case abort t m id =>
    exact ⟨_, fun s => (by unfold execAbort; rfl : execAbort t m id s = s.run t _)⟩
  case commitDivergenceTimeout t chim tile =>
    exact ⟨_, fun s => (by unfold execCommitDivergenceTimeout; rfl :
      execCommitDivergenceTimeout t chim tile s = s.run t _)⟩
  case lock t m area =>
    exact ⟨_, fun s => (by unfold execLock; rfl : execLock t m area s = s.run t _)⟩
  case unlock t m area =>
    exact ⟨_, fun s => (by unfold execUnlock; rfl : execUnlock t m area s = s.run t _)⟩
  case lockAcquire t m area =>
    exact ⟨_, fun s => (by unfold execLockAcquire; rfl : execLockAcquire t m area s = s.run t _)⟩
  case lockRelease t m area =>
    exact ⟨_, fun s => (by unfold execLockRelease; rfl : execLockRelease t m area s = s.run t _)⟩
  case lockClearSuspect t m area =>
    exact ⟨_, fun s => (by unfold execLockClearSuspect; rfl : execLockClearSuspect t m area s = s.run t _)⟩
  case sessionTimeout t slot =>
    exact ⟨_, fun s => (by unfold execSessionTimeout; rfl : execSessionTimeout t slot s = s.run t _)⟩
  case persistSave t m =>
    exact ⟨_, fun s => (by unfold execPersistSave; rfl : execPersistSave t m s = s.run t _)⟩
  case persistAutoSave t =>
    exact ⟨_, fun s => (by unfold execPersistAutoSave; rfl : execPersistAutoSave t s = s.run t _)⟩
  case persistDefaults t m mask =>
    exact ⟨_, fun s => (by unfold execPersistDefaults; rfl : execPersistDefaults t m mask s = s.run t _)⟩
  case flashStoreDone t dev first second =>
    exact ⟨_, fun s => (by unfold execFlashStoreDone; rfl : execFlashStoreDone t dev first second s = s.run t _)⟩
  case setup t h f =>
    exact ⟨_, fun s => (by unfold execSetup; rfl : execSetup t h f s = s.run t _)⟩
  case frameReq t h =>
    exact ⟨_, fun s => (by unfold execFrameReq; rfl : execFrameReq t h s = s.run t _)⟩
  case data t h bytes =>
    exact ⟨_, fun s => (by unfold execData; rfl : execData t h bytes s = s.run t _)⟩
  case ingestCreditTimer t slot =>
    exact ⟨_, fun s => (by unfold execIngestCreditTimer; rfl : execIngestCreditTimer t slot s = s.run t _)⟩
  case publish t h frameNo =>
    exact ⟨_, fun s => (by unfold execPublish; rfl : execPublish t h frameNo s = s.run t _)⟩
  case publishCheck t slot =>
    exact ⟨_, fun s => (by unfold execPublishCheck; rfl : execPublishCheck t slot s = s.run t _)⟩
  case fenceRelease t owner buf =>
    exact ⟨_, fun s => (by unfold execFenceRelease; rfl : execFenceRelease t owner buf s = s.run t _)⟩
  case sourceStaleTimeout t slot =>
    exact ⟨_, fun s => (by unfold execSourceStaleTimeout; rfl : execSourceStaleTimeout t slot s = s.run t _)⟩
  case layerStillData t m layer off bytes =>
    exact ⟨_, fun s => (by unfold execLayerStillData; rfl : execLayerStillData t m layer off bytes s = s.run t _)⟩
  case layerStillPublish t m layer =>
    exact ⟨_, fun s => (by unfold execLayerStillPublish; rfl : execLayerStillPublish t m layer s = s.run t _)⟩
  case compositorDeadlineMiss t chim =>
    exact ⟨_, fun s => (by unfold execCompositorDeadlineMiss; rfl : execCompositorDeadlineMiss t chim s = s.run t _)⟩
  case layerFetchError t layer plane line unit =>
    exact ⟨_, fun s => (by unfold execLayerFetchError; rfl : execLayerFetchError t layer plane line unit s = s.run t _)⟩
  case hearthImage t m off bytes =>
    exact ⟨_, fun s => (by unfold execHearthImage; rfl : execHearthImage t m off bytes s = s.run t _)⟩
  case hearthSizeWrite t m height value =>
    exact ⟨_, fun s => (by unfold execHearthSizeWrite; rfl : execHearthSizeWrite t m height value s = s.run t _)⟩
  case hearthCopyDone t =>
    exact ⟨_, fun s => (by unfold execHearthCopyDone; rfl : execHearthCopyDone t s = s.run t _)⟩
  case hearthWordError t copy word =>
    exact ⟨_, fun s => (by unfold execHearthWordError; rfl : execHearthWordError t copy word s = s.run t _)⟩
  case hearthScrub t =>
    exact ⟨_, fun s => (by unfold execHearthScrub; rfl : execHearthScrub t s = s.run t _)⟩
  case chimneyBringUp t chim =>
    exact ⟨_, fun s => (by unfold execChimneyBringUp; rfl : execChimneyBringUp t chim s = s.run t _)⟩
  case assign t port hop dirB enabled =>
    exact ⟨_, fun s => (by unfold execAssign; rfl : execAssign t port hop dirB enabled s = s.run t _)⟩
  case assignReturn t chim hop dirB =>
    exact ⟨_, fun s => (by unfold execAssignReturn; rfl : execAssignReturn t chim hop dirB s = s.run t _)⟩
  case assignPeriodic t chim =>
    exact ⟨_, fun s => (by unfold execAssignPeriodic; rfl : execAssignPeriodic t chim s = s.run t _)⟩
  case ringCloseTimeout t chim =>
    exact ⟨_, fun s => (by unfold execRingCloseTimeout; rfl : execRingCloseTimeout t chim s = s.run t _)⟩
  case modeHoldTimeout t =>
    exact ⟨_, fun s => (by unfold execModeHoldTimeout; rfl : execModeHoldTimeout t s = s.run t _)⟩
  case phaseTrackStep t port lane tracker =>
    exact ⟨_, fun s => (by unfold execPhaseTrackStep; rfl : execPhaseTrackStep t port lane tracker s = s.run t _)⟩
  case clockLaneLoss t port offsets =>
    exact ⟨_, fun s => (by unfold execClockLaneLoss; rfl : execClockLaneLoss t port offsets s = s.run t _)⟩
  case fwdClockReturn t port offsets =>
    exact ⟨_, fun s => (by unfold execFwdClockReturn; rfl : execFwdClockReturn t port offsets s = s.run t _)⟩
  case trainingBlock t port blocks rx =>
    exact ⟨_, fun s => (by unfold execTrainingBlock; rfl : execTrainingBlock t port blocks rx s = s.run t _)⟩
  case trainingStageLimit t port =>
    exact ⟨_, fun s => (by unfold execTrainingStageLimit; rfl : execTrainingStageLimit t port s = s.run t _)⟩
  case trainingRetry t port =>
    exact ⟨_, fun s => (by unfold execTrainingRetry; rfl : execTrainingRetry t port s = s.run t _)⟩
  case linkFramesStart t port =>
    exact ⟨_, fun s => (by unfold execLinkFramesStart; rfl : execLinkFramesStart t port s = s.run t _)⟩
  case blockLockGained t port lane =>
    exact ⟨_, fun s => (by unfold execBlockLockGained; rfl : execBlockLockGained t port lane s = s.run t _)⟩
  case blockLockLost t port loss =>
    exact ⟨_, fun s => (by unfold execBlockLockLost; rfl : execBlockLockLost t port loss s = s.run t _)⟩
  case wakeTimeout t port =>
    exact ⟨_, fun s => (by unfold execWakeTimeout; rfl : execWakeTimeout t port s = s.run t _)⟩
  case eyeMeasurementDone t port lane width =>
    exact ⟨_, fun s => (by unfold execEyeMeasurementDone; rfl : execEyeMeasurementDone t port lane width s = s.run t _)⟩
  case eyeMeasureTimeout t port lane =>
    exact ⟨_, fun s => (by unfold execEyeMeasureTimeout; rfl : execEyeMeasureTimeout t port lane s = s.run t _)⟩
  case phyRetrainInFrame t m port =>
    exact ⟨_, fun s => (by unfold execPhyRetrainInFrame; rfl : execPhyRetrainInFrame t m port s = s.run t _)⟩
  case phyRetrainOpen t m port =>
    exact ⟨_, fun s => (by unfold execPhyRetrainOpen; rfl : execPhyRetrainOpen t m port s = s.run t _)⟩
  case phyLoop t m port value =>
    exact ⟨_, fun s => (by unfold execPhyLoop; rfl : execPhyLoop t m port value s = s.run t _)⟩
  case phyTestPattern t m port value =>
    exact ⟨_, fun s => (by unfold execPhyTestPattern; rfl : execPhyTestPattern t m port value s = s.run t _)⟩
  case linkFrame t port f =>
    exact ⟨_, fun s => (by unfold execLinkFrame; rfl : execLinkFrame t port f s = s.run t _)⟩
  case linkAlignAcquired t port =>
    exact ⟨_, fun s => (by unfold execLinkAlignAcquired; rfl : execLinkAlignAcquired t port s = s.run t _)⟩
  case linkAlignLost t port =>
    exact ⟨_, fun s => (by unfold execLinkAlignLost; rfl : execLinkAlignLost t port s = s.run t _)⟩
  case ctrl t port g =>
    exact ⟨_, fun s => (by unfold execCtrl; rfl : execCtrl t port g s = s.run t _)⟩
  case ctrlReassemblyTimeout t src pathB msgId =>
    exact ⟨_, fun s => (by unfold execCtrlReassemblyTimeout; rfl :
      execCtrlReassemblyTimeout t src pathB msgId s = s.run t _)⟩
  case credit t chim tile a7 a6 a0 b7 b6 b0 =>
    exact ⟨_, fun s => (by unfold execCredit; rfl : execCredit t chim tile a7 a6 a0 b7 b6 b0 s = s.run t _)⟩
  case tileCreditTimer t =>
    exact ⟨_, fun s => (by unfold execTileCreditTimer; rfl : execTileCreditTimer t s = s.run t _)⟩
  case bootFlagEnd t =>
    exact ⟨_, fun s => (by unfold execBootFlagEnd; rfl : execBootFlagEnd t s = s.run t _)⟩
  case insertionGap t port =>
    exact ⟨_, fun s => (by unfold execInsertionGap; rfl : execInsertionGap t port s = s.run t _)⟩
  case allowanceTick t port =>
    exact ⟨_, fun s => (by unfold execAllowanceTick; rfl : execAllowanceTick t port s = s.run t _)⟩
  case ownPacketInsert t port ahead group =>
    exact ⟨_, fun s => (by unfold execOwnPacketInsert; rfl : execOwnPacketInsert t port ahead group s = s.run t _)⟩
  case ctrlForwardSend t chim =>
    exact ⟨_, fun s => (by unfold execCtrlForwardSend; rfl : execCtrlForwardSend t chim s = s.run t _)⟩
  case unaddrFaultReport t =>
    exact ⟨_, fun s => (by unfold execUnaddrFaultReport; rfl : execUnaddrFaultReport t s = s.run t _)⟩
  case line t port p =>
    exact ⟨_, fun s => (by unfold execLine; rfl : execLine t port p s = s.run t _)⟩
  case frameClose t =>
    exact ⟨_, fun s => (by unfold execFrameClose; rfl : execFrameClose t s = s.run t _)⟩
  case pathHoldoffExpiry t =>
    exact ⟨_, fun s => (by unfold execPathHoldoffExpiry; rfl : execPathHoldoffExpiry t s = s.run t _)⟩
  case pathForce t m value =>
    exact ⟨_, fun s => (by unfold execPathForce; rfl : execPathForce t m value s = s.run t _)⟩
  case statusPeriodic t =>
    exact ⟨_, fun s => (by unfold execStatusPeriodic; rfl : execStatusPeriodic t s = s.run t _)⟩
  case pathFlagsStatus t =>
    exact ⟨_, fun s => (by unfold execPathFlagsStatus; rfl : execPathFlagsStatus t s = s.run t _)⟩
  case status t chim p =>
    exact ⟨_, fun s => (by unfold execStatus; rfl : execStatus t chim p s = s.run t _)⟩
  case reachTimeout t chim tile =>
    exact ⟨_, fun s => (by unfold execReachTimeout; rfl : execReachTimeout t chim tile s = s.run t _)⟩
  case firstStatusTimeout t chim tile =>
    exact ⟨_, fun s => (by unfold execFirstStatusTimeout; rfl : execFirstStatusTimeout t chim tile s = s.run t _)⟩
  case ptpSync t p =>
    exact ⟨_, fun s => (by unfold execPtpSync; rfl : execPtpSync t p s = s.run t _)⟩
  case ptpFollowUp t p =>
    exact ⟨_, fun s => (by unfold execPtpFollowUp; rfl : execPtpFollowUp t p s = s.run t _)⟩
  case ptpDelayResp t p =>
    exact ⟨_, fun s => (by unfold execPtpDelayResp; rfl : execPtpDelayResp t p s = s.run t _)⟩
  case ptpAnnounce t p =>
    exact ⟨_, fun s => (by unfold execPtpAnnounce; rfl : execPtpAnnounce t p s = s.run t _)⟩
  case ptpDelayReqInterval t =>
    exact ⟨_, fun s => (by unfold execPtpDelayReqInterval; rfl : execPtpDelayReqInterval t s = s.run t _)⟩
  case ptpAnnounceTimeout t =>
    exact ⟨_, fun s => (by unfold execPtpAnnounceTimeout; rfl : execPtpAnnounceTimeout t s = s.run t _)⟩
  case ptpSyncTimeout t =>
    exact ⟨_, fun s => (by unfold execPtpSyncTimeout; rfl : execPtpSyncTimeout t s = s.run t _)⟩
  case frefEdge t falling =>
    exact ⟨_, fun s => (by unfold execFrefEdge; rfl : execFrefEdge t falling s = s.run t _)⟩
  case frefEdgeMissing t =>
    exact ⟨_, fun s => (by unfold execFrefEdgeMissing; rfl : execFrefEdgeMissing t s = s.run t _)⟩
  case timeStep t m delta =>
    exact ⟨_, fun s => (by unfold execTimeStep; rfl : execTimeStep t m delta s = s.run t _)⟩
  case timePtpRestep t m =>
    exact ⟨_, fun s => (by unfold execTimePtpRestep; rfl : execTimePtpRestep t m s = s.run t _)⟩
  case timeRealign t m =>
    exact ⟨_, fun s => (by unfold execTimeRealign; rfl : execTimeRealign t m s = s.run t _)⟩
  case syncInterval t port =>
    exact ⟨_, fun s => (by unfold execSyncInterval; rfl : execSyncInterval t port s = s.run t _)⟩
  case delayReq t port p =>
    exact ⟨_, fun s => (by unfold execDelayReq; rfl : execDelayReq t port p s = s.run t _)⟩
  case anchorInterval t chim =>
    exact ⟨_, fun s => (by unfold execAnchorInterval; rfl : execAnchorInterval t chim s = s.run t _)⟩
  case anchorAnnounceRepeat t =>
    exact ⟨_, fun s => (by unfold execAnchorAnnounceRepeat; rfl : execAnchorAnnounceRepeat t s = s.run t _)⟩
  case delayReqInterval t =>
    exact ⟨_, fun s => (by unfold execDelayReqInterval; rfl : execDelayReqInterval t s = s.run t _)⟩
  case sync t port p =>
    exact ⟨_, fun s => (by unfold execSync; rfl : execSync t port p s = s.run t _)⟩
  case delayResp t port p =>
    exact ⟨_, fun s => (by unfold execDelayResp; rfl : execDelayResp t port p s = s.run t _)⟩
  case anchor t port a =>
    exact ⟨_, fun s => (by unfold execAnchor; rfl : execAnchor t port a s = s.run t _)⟩
  case tileSyncTimeout t =>
    exact ⟨_, fun s => (by unfold execTileSyncTimeout; rfl : execTileSyncTimeout t s = s.run t _)⟩
  case holdoverMaxExpiry t =>
    exact ⟨_, fun s => (by unfold execHoldoverMaxExpiry; rfl : execHoldoverMaxExpiry t s = s.run t _)⟩
  case scanStart t =>
    exact ⟨_, fun s => (by unfold execScanStart; rfl : execScanStart t s = s.run t _)⟩
  case passStart t err =>
    exact ⟨_, fun s => (by unfold execPassStart; rfl : execPassStart t err s = s.run t _)⟩
  case tpoEdge t n =>
    exact ⟨_, fun s => (by unfold execTpoEdge; rfl : execTpoEdge t n s = s.run t _)⟩
  case lampFirstPassDone t =>
    exact ⟨_, fun s => (by unfold execLampFirstPassDone; rfl : execLampFirstPassDone t s = s.run t _)⟩
  case lampProcessingDone t =>
    exact ⟨_, fun s => (by unfold execLampProcessingDone; rfl : execLampProcessingDone t s = s.run t _)⟩
  case driveDeadline t =>
    exact ⟨_, fun s => (by unfold execDriveDeadline; rfl : execDriveDeadline t s = s.run t _)⟩
  case workingSetBuildStart t module =>
    exact ⟨_, fun s => (by unfold execWorkingSetBuildStart; rfl : execWorkingSetBuildStart t module s = s.run t _)⟩
  case workingSetBuildDone t module =>
    exact ⟨_, fun s => (by unfold execWorkingSetBuildDone; rfl : execWorkingSetBuildDone t module s = s.run t _)⟩
  case workingSetAgeTimeout t module =>
    exact ⟨_, fun s => (by unfold execWorkingSetAgeTimeout; rfl : execWorkingSetAgeTimeout t module s = s.run t _)⟩
  case coefWordError t x y =>
    exact ⟨_, fun s => (by unfold execCoefWordError; rfl : execCoefWordError t x y s = s.run t _)⟩
  case storedSetError t module set =>
    exact ⟨_, fun s => (by unfold execStoredSetError; rfl : execStoredSetError t module set s = s.run t _)⟩
  case agingSweep t =>
    exact ⟨_, fun s => (by unfold execAgingSweep; rfl : execAgingSweep t s = s.run t _)⟩
  case doseFold t =>
    exact ⟨_, fun s => (by unfold execDoseFold; rfl : execDoseFold t s = s.run t _)⟩
  case doseSave t =>
    exact ⟨_, fun s => (by unfold execDoseSave; rfl : execDoseSave t s = s.run t _)⟩
  case strandFrameReturn t strand r =>
    exact ⟨_, fun s => (by unfold execStrandFrameReturn; rfl : execStrandFrameReturn t strand r s = s.run t _)⟩
  case breakSym t strand addr =>
    exact ⟨_, fun s => (by unfold execBreak; rfl : execBreak t strand addr s = s.run t _)⟩
  case strandReturnTimeout t strand =>
    exact ⟨_, fun s => (by unfold execStrandReturnTimeout; rfl : execStrandReturnTimeout t strand s = s.run t _)⟩
  case strEnum t m =>
    exact ⟨_, fun s => (by unfold execStrEnum; rfl : execStrEnum t m s = s.run t _)⟩
  case enumPeriodic t =>
    exact ⟨_, fun s => (by unfold execEnumPeriodic; rfl : execEnumPeriodic t s = s.run t _)⟩
  case enumReturn t strand count =>
    exact ⟨_, fun s => (by unfold execEnumReturn; rfl : execEnumReturn t strand count s = s.run t _)⟩
  case strDrvRead t m =>
    exact ⟨_, fun s => (by unfold execStrDrvRead; rfl : execStrDrvRead t m s = s.run t _)⟩
  case strDrvWrite t m =>
    exact ⟨_, fun s => (by unfold execStrDrvWrite; rfl : execStrDrvWrite t m s = s.run t _)⟩
  case cmdReturn t strand payload =>
    exact ⟨_, fun s => (by unfold execCmdReturn; rfl : execCmdReturn t strand payload s = s.run t _)⟩
  case driverCmdTimeout t strand =>
    exact ⟨_, fun s => (by unfold execDriverCmdTimeout; rfl : execDriverCmdTimeout t strand s = s.run t _)⟩
  case scanOpenClearEntry t m entry =>
    exact ⟨_, fun s => (by unfold execScanOpenClearEntry; rfl : execScanOpenClearEntry t m entry s = s.run t _)⟩
  case scanOpenClearAll t m =>
    exact ⟨_, fun s => (by unfold execScanOpenClearAll; rfl : execScanOpenClearAll t m s = s.run t _)⟩
  case loopSample t slot =>
    exact ⟨_, fun s => (by unfold execLoopSample; rfl : execLoopSample t slot s = s.run t _)⟩
  case damperStagingWrite t zone =>
    exact ⟨_, fun s => (by unfold execDamperStagingWrite; rfl : execDamperStagingWrite t zone s = s.run t _)⟩
  case monConversion t vMon vRefP vRefN =>
    exact ⟨_, fun s => (by unfold execMonConversion; rfl : execMonConversion t vMon vRefP vRefN s = s.run t _)⟩
  case opRampEval t =>
    exact ⟨_, fun s => (by unfold execOpRampEval; rfl : execOpRampEval t s = s.run t _)⟩
  case loopSwap t m mask =>
    exact ⟨_, fun s => (by unfold execLoopSwap; rfl : execLoopSwap t m mask s = s.run t _)⟩
  case powerGrant t m gseq target grants =>
    exact ⟨_, fun s => (by unfold execPowerGrant; rfl : execPowerGrant t m gseq target grants s = s.run t _)⟩
  case powerReport t m chim tile r =>
    exact ⟨_, fun s => (by unfold execPowerReport; rfl : execPowerReport t m chim tile r s = s.run t _)⟩
  case grantMissingTimeout t =>
    exact ⟨_, fun s => (by unfold execGrantMissingTimeout; rfl : execGrantMissingTimeout t s = s.run t _)⟩
  case powerReportMissing t chim tile =>
    exact ⟨_, fun s => (by unfold execPowerReportMissing; rfl : execPowerReportMissing t chim tile s = s.run t _)⟩
  case zoneTempSupply t =>
    exact ⟨_, fun s => (by unfold execZoneTempSupply; rfl : execZoneTempSupply t s = s.run t _)⟩
  case calOpen t m =>
    exact ⟨_, fun s => (by unfold execCalOpen; rfl : execCalOpen t m s = s.run t _)⟩
  case calRun t m =>
    exact ⟨_, fun s => (by unfold execCalRun; rfl : execCalRun t m s = s.run t _)⟩
  case calAbort t m =>
    exact ⟨_, fun s => (by unfold execCalAbort; rfl : execCalAbort t m s = s.run t _)⟩
  case calPatternShow t m pattern =>
    exact ⟨_, fun s => (by unfold execCalPatternShow; rfl : execCalPatternShow t m pattern s = s.run t _)⟩
  case calPatternEnd t m =>
    exact ⟨_, fun s => (by unfold execCalPatternEnd; rfl : execCalPatternEnd t m s = s.run t _)⟩
  case calMeasClear t m =>
    exact ⟨_, fun s => (by unfold execCalMeasClear; rfl : execCalMeasClear t m s = s.run t _)⟩
  case calMeasData t m buf off bytes =>
    exact ⟨_, fun s => (by unfold execCalMeasData; rfl : execCalMeasData t m buf off bytes s = s.run t _)⟩
  case calBulkData t m off bytes =>
    exact ⟨_, fun s => (by unfold execCalBulkData; rfl : execCalBulkData t m off bytes s = s.run t _)⟩
  case bulk t h off bytes =>
    exact ⟨_, fun s => (by unfold execBulk; rfl : execBulk t h off bytes s = s.run t _)⟩
  case calUnitStart t =>
    exact ⟨_, fun s => (by unfold execCalUnitStart; rfl : execCalUnitStart t s = s.run t _)⟩
  case calSolveDone t =>
    exact ⟨_, fun s => (by unfold execCalSolveDone; rfl : execCalSolveDone t s = s.run t _)⟩
  case calCheckDone t =>
    exact ⟨_, fun s => (by unfold execCalCheckDone; rfl : execCalCheckDone t s = s.run t _)⟩
  case calFieldRevert t m value =>
    exact ⟨_, fun s => (by unfold execCalFieldRevert; rfl : execCalFieldRevert t m value s = s.run t _)⟩
  case calLinkRun t m port =>
    exact ⟨_, fun s => (by unfold execCalLinkRun; rfl : execCalLinkRun t m port s = s.run t _)⟩
  case linkRunEnd t port =>
    exact ⟨_, fun s => (by unfold execLinkRunEnd; rfl : execLinkRunEnd t port s = s.run t _)⟩
  case linkRunAutoStart t port =>
    exact ⟨_, fun s => (by unfold execLinkRunAutoStart; rfl : execLinkRunAutoStart t port s = s.run t _)⟩
  case calLinkClear t m port =>
    exact ⟨_, fun s => (by unfold execCalLinkClear; rfl : execCalLinkClear t m port s = s.run t _)⟩
  case calTrimRun t m =>
    exact ⟨_, fun s => (by unfold execCalTrimRun; rfl : execCalTrimRun t m s = s.run t _)⟩
  case trimRunEnd t sites =>
    exact ⟨_, fun s => (by unfold execTrimRunEnd; rfl : execTrimRunEnd t sites s = s.run t _)⟩
  case anchorWrite t m kind entry key =>
    exact ⟨_, fun s => (by unfold execAnchorWrite; rfl : execAnchorWrite t m kind entry key s = s.run t _)⟩
  case secFwRevoke t m key =>
    exact ⟨_, fun s => (by unfold execSecFwRevoke; rfl : execSecFwRevoke t m key s = s.run t _)⟩
  case modulePoll t module found =>
    exact ⟨_, fun s => (by unfold execModulePoll; rfl : execModulePoll t module found s = s.run t _)⟩
  case modServiceEnter t m module =>
    exact ⟨_, fun s => (by unfold execModServiceEnter; rfl : execModServiceEnter t m module s = s.run t _)⟩
  case modServiceLeave t m module =>
    exact ⟨_, fun s => (by unfold execModServiceLeave; rfl : execModServiceLeave t m module s = s.run t _)⟩
  case sensorConversion t readings =>
    exact ⟨_, fun s => (by unfold execSensorConversion; rfl : execSensorConversion t readings s = s.run t _)⟩
  case thermalStageApply t =>
    exact ⟨_, fun s => (by unfold execThermalStageApply; rfl : execThermalStageApply t s = s.run t _)⟩
  case moduleTempStale t module =>
    exact ⟨_, fun s => (by unfold execModuleTempStale; rfl : execModuleTempStale t module s = s.run t _)⟩
  case faultEvent t =>
    exact ⟨_, fun s => (by unfold execFaultEvent; rfl : execFaultEvent t s = s.run t _)⟩
  case faultQuietExpiry t src =>
    exact ⟨_, fun s => (by unfold execFaultQuietExpiry; rfl : execFaultQuietExpiry t src s = s.run t _)⟩
  case fltClearSource t m src =>
    exact ⟨_, fun s => (by unfold execFltClearSource; rfl : execFltClearSource t m src s = s.run t _)⟩
  case fltClearAll t m =>
    exact ⟨_, fun s => (by unfold execFltClearAll; rfl : execFltClearAll t m s = s.run t _)⟩
  case fltInject t m value =>
    exact ⟨_, fun s => (by unfold execFltInject; rfl : execFltInject t m value s = s.run t _)⟩
  case fltInjectClear t m =>
    exact ⟨_, fun s => (by unfold execFltInjectClear; rfl : execFltInjectClear t m s = s.run t _)⟩
  case ashLogSave t =>
    exact ⟨_, fun s => (by unfold execAshLogSave; rfl : execAshLogSave t s = s.run t _)⟩
  case alarmRepeat t =>
    exact ⟨_, fun s => (by unfold execAlarmRepeat; rfl : execAlarmRepeat t s = s.run t _)⟩
  case fault t chim src entry =>
    exact ⟨_, fun s => (by unfold execFault; rfl : execFault t chim src entry s = s.run t _)⟩
  case wallAlarmTimeout t chim tile =>
    exact ⟨_, fun s => (by unfold execWallAlarmTimeout; rfl : execWallAlarmTimeout t chim tile s = s.run t _)⟩
  case svcFrame t f =>
    exact ⟨_, fun s => (by unfold execSvcFrame; rfl : execSvcFrame t f s = s.run t _)⟩
  case bootReleaseM t m =>
    exact ⟨_, fun s => (by unfold execBootReleaseM; rfl : execBootReleaseM t m s = s.run t _)⟩
  case updBegin t m =>
    exact ⟨_, fun s => (by unfold execUpdBegin; rfl : execUpdBegin t m s = s.run t _)⟩
  case updImage t m off bytes =>
    exact ⟨_, fun s => (by unfold execUpdImage; rfl : execUpdImage t m off bytes s = s.run t _)⟩
  case updVerify t m verdicts =>
    exact ⟨_, fun s => (by unfold execUpdVerify; rfl : execUpdVerify t m verdicts s = s.run t _)⟩
  case updActivate t m mask target =>
    exact ⟨_, fun s => (by unfold execUpdActivate; rfl : execUpdActivate t m mask target s = s.run t _)⟩
  case kernelLoadDone t =>
    exact ⟨_, fun s => (by unfold execKernelLoadDone; rfl : execKernelLoadDone t s = s.run t _)⟩
  case updConfirm t =>
    exact ⟨_, fun s => (by unfold execUpdConfirm; rfl : execUpdConfirm t s = s.run t _)⟩
  case updWindowExpiry t =>
    exact ⟨_, fun s => (by unfold execUpdWindowExpiry; rfl : execUpdWindowExpiry t s = s.run t _)⟩
  case updFallback t m =>
    exact ⟨_, fun s => (by unfold execUpdFallback; rfl : execUpdFallback t m s = s.run t _)⟩
  case trimPwmPeriod t n =>
    exact ⟨_, fun s => (by unfold execTrimPwmPeriod; rfl : execTrimPwmPeriod t n s = s.run t _)⟩
  case tpoPulseEnd t n =>
    exact ⟨_, fun s => (by unfold execTpoPulseEnd; rfl : execTpoPulseEnd t n s = s.run t _)⟩
  case jtagInstruction => exact absurd hc (by simp [Instr.actsInReset])

end Sys2Proof.Machine
end

