-- ==== Sys2Proof/Laws/Memory.lean ====
section
/-! SUPPORT. External memory: its operations keep the canonical form, and a byte reads what was last written to it. -/

namespace Sys2Proof.Machine

theorem Memory.wf_reset : Memory.wf State.reset.video.mem = true := rfl

theorem Memory.wf_insert {m : List Host.Cell} (h : Memory.wf m = true) (a : Nat) (b : Byte) :
    Memory.wf (insertAt a b (drop a m)) = true :=
  risingFrom_insertAt (Nat.zero_le a) b _ (risingFrom_drop 0 a m h) (not_mem_drop a m)

/-- A write keeps the canonical form. -/
theorem Memory.wf_memWrite (bs : List Byte) :
    ∀ (m : List Host.Cell) (a : Nat), Memory.wf m = true → Memory.wf (memWrite m a bs) = true := by
  induction bs with
  | nil => exact fun _ _ h => h
  | cons b bs ih => exact fun m a h => ih _ _ (Memory.wf_insert h a b)

/-- Forgetting a range keeps the canonical form. -/
theorem Memory.wf_clearRange {m : List Host.Cell} (h : Memory.wf m = true) (lo hi : Nat) :
    Memory.wf (clearRange lo hi m) = true :=
  risingFrom_filter _ 0 m h

/-- Bytes outside those written read as before. -/
theorem look_memWrite_other (d : Byte) (bs : List Byte) :
    ∀ (m : List Host.Cell) (a x : Nat), (x < a ∨ a + bs.length ≤ x) → look d x (memWrite m a bs) = look d x m := by
  induction bs with
  | nil => exact fun _ _ _ _ => rfl
  | cons b bs ih =>
    intro m a x h
    simp only [List.length_cons] at h
    have hx : x ≠ a := by omega
    rw [memWrite, ih _ _ _ (by omega), look_insertAt_other d hx, look_drop_other d hx]

/-- The bytes written read back. -/
theorem look_memWrite_in (d : Byte) (bs : List Byte) :
    ∀ (m : List Host.Cell) (a i : Nat), i < bs.length → look d (a + i) (memWrite m a bs) = bs.getD i 0 := by
  induction bs with
  | nil => intro _ _ i h; simp at h
  | cons b bs ih =>
    intro m a i h
    cases i with
    | zero =>
      rw [memWrite, Nat.add_zero, look_memWrite_other d bs _ _ _ (Or.inl (by omega)),
        look_insertAt_same d a b _ (not_mem_drop a m)]
      rfl
    | succ i =>
      rw [memWrite, show a + (i + 1) = a + 1 + i by omega]
      simpa using ih (insertAt a b (drop a m)) (a + 1) i (by simpa using h)

end Sys2Proof.Machine
end

