-- ==== Sys2Proof/Laws/PerInstr.lean ====
section
/-! SUPPORT. What holds of every command as syntax, one lemma per constructor: moving a command in time changes only its
instant. -/

namespace Sys2Proof.Laws

/-- A moved command has the instant it was moved to, is as well formed as before, and moved back is itself. -/
def Timed.Statement (c : Instr) : Prop :=
  ∀ t, (c.moved t).time = t ∧ (c.moved t).wf = c.wf ∧ (c.moved t).moved c.time = c

theorem Timed.porstAssert (t : Cyc) :
    Timed.Statement (.porstAssert t) := fun _ => ⟨rfl, rfl, rfl⟩
theorem Timed.porstRelease (t : Cyc) (p : PowerOn) :
    Timed.Statement (.porstRelease t p) := fun _ => ⟨rfl, rfl, rfl⟩
theorem Timed.brownOut (t : Cyc) (io : Bool) :
    Timed.Statement (.brownOut t io) := fun _ => ⟨rfl, rfl, rfl⟩
theorem Timed.brownOutRecover (t : Cyc) (p : PowerOn) :
    Timed.Statement (.brownOutRecover t p) := fun _ => ⟨rfl, rfl, rfl⟩
theorem Timed.pllLossOfLock (t : Cyc) (pll : Pll) :
    Timed.Statement (.pllLossOfLock t pll) := fun _ => ⟨rfl, rfl, rfl⟩
theorem Timed.pllRelock (t : Cyc) (pll : Pll) :
    Timed.Statement (.pllRelock t pll) := fun _ => ⟨rfl, rfl, rfl⟩
theorem Timed.pllRelockTimeout (t : Cyc) (pll : Pll) (p : PowerOn) :
    Timed.Statement (.pllRelockTimeout t pll p) := fun _ => ⟨rfl, rfl, rfl⟩
theorem Timed.bootReset (t : Cyc) (m : Msg) (p : PowerOn) :
    Timed.Statement (.bootReset t m p) := fun _ => ⟨rfl, rfl, rfl⟩
theorem Timed.configLoadDone (t : Cyc) :
    Timed.Statement (.configLoadDone t) := fun _ => ⟨rfl, rfl, rfl⟩
theorem Timed.powerOnAnchor (t : Cyc) :
    Timed.Statement (.powerOnAnchor t) := fun _ => ⟨rfl, rfl, rfl⟩
theorem Timed.tileLightUp (t : Cyc) :
    Timed.Statement (.tileLightUp t) := fun _ => ⟨rfl, rfl, rfl⟩
theorem Timed.frameBoundary (t : Cyc) :
    Timed.Statement (.frameBoundary t) := fun _ => ⟨rfl, rfl, rfl⟩
theorem Timed.lockstepMismatch (t : Cyc) (pair : Pair) :
    Timed.Statement (.lockstepMismatch t pair) := fun _ => ⟨rfl, rfl, rfl⟩
theorem Timed.pairWatchdogExpiry (t : Cyc) (pair : Pair) :
    Timed.Statement (.pairWatchdogExpiry t pair) := fun _ => ⟨rfl, rfl, rfl⟩
theorem Timed.pairMemoryUe (t : Cyc) (pair : Pair) :
    Timed.Statement (.pairMemoryUe t pair) := fun _ => ⟨rfl, rfl, rfl⟩
theorem Timed.pairMRestart (t : Cyc) (m : Msg) :
    Timed.Statement (.pairMRestart t m) := fun _ => ⟨rfl, rfl, rfl⟩
theorem Timed.pairCRestart (t : Cyc) (m : Msg) :
    Timed.Statement (.pairCRestart t m) := fun _ => ⟨rfl, rfl, rfl⟩
theorem Timed.pairCResume (t : Cyc) :
    Timed.Statement (.pairCResume t) := fun _ => ⟨rfl, rfl, rfl⟩
theorem Timed.pairMResume (t : Cyc) :
    Timed.Statement (.pairMResume t) := fun _ => ⟨rfl, rfl, rfl⟩
theorem Timed.engineUe (t : Cyc) (pe : Nat) :
    Timed.Statement (.engineUe t pe) := fun _ => ⟨rfl, rfl, rfl⟩
theorem Timed.engineHealthCheck (t : Cyc) (pe : Nat) (ok : Bool) :
    Timed.Statement (.engineHealthCheck t pe ok) := fun _ => ⟨rfl, rfl, rfl⟩
theorem Timed.engineCorrectedError (t : Cyc) (pe word : Nat) :
    Timed.Statement (.engineCorrectedError t pe word) := fun _ => ⟨rfl, rfl, rfl⟩
theorem Timed.devEngRetiredClear (t : Cyc) (m : Msg) :
    Timed.Statement (.devEngRetiredClear t m) := fun _ => ⟨rfl, rfl, rfl⟩
theorem Timed.arbiterGrant (t : Cyc) (arb : ArbId) (raised : List ArbReq) :
    Timed.Statement (.arbiterGrant t arb raised) := fun _ => ⟨rfl, rfl, rfl⟩
theorem Timed.openMsg (t : Cyc) (o : OpenMsg) :
    Timed.Statement (.openMsg t o) := fun _ => ⟨rfl, rfl, rfl⟩
theorem Timed.close (t : Cyc) (m : Msg) :
    Timed.Statement (.close t m) := fun _ => ⟨rfl, rfl, rfl⟩
theorem Timed.keepalive (t : Cyc) (m : Msg) :
    Timed.Statement (.keepalive t m) := fun _ => ⟨rfl, rfl, rfl⟩
theorem Timed.read (t : Cyc) (m : Msg) (win : Option (Nat × Nat)) :
    Timed.Statement (.read t m win) := fun _ => ⟨rfl, rfl, rfl⟩
theorem Timed.write (t : Cyc) (m : Msg) (vals : List WVal) :
    Timed.Statement (.write t m vals) := fun _ => ⟨rfl, rfl, rfl⟩
theorem Timed.describe (t : Cyc) (m : Msg) :
    Timed.Statement (.describe t m) := fun _ => ⟨rfl, rfl, rfl⟩
theorem Timed.commit (t : Cyc) (m : Msg) (scope chims flags target : Nat) :
    Timed.Statement (.commit t m scope chims flags target) := fun _ => ⟨rfl, rfl, rfl⟩
theorem Timed.commitGo (t : Cyc) (m : Msg) :
    Timed.Statement (.commitGo t m) := fun _ => ⟨rfl, rfl, rfl⟩
theorem Timed.arm (t : Cyc) (m : Msg) (id scope target gen : Nat) :
    Timed.Statement (.arm t m id scope target gen) := fun _ => ⟨rfl, rfl, rfl⟩
theorem Timed.armReply (t : Cyc) (chim tile id : Nat) (armed : Bool) :
    Timed.Statement (.armReply t chim tile id armed) := fun _ => ⟨rfl, rfl, rfl⟩
theorem Timed.armReplyDeadline (t : Cyc) :
    Timed.Statement (.armReplyDeadline t) := fun _ => ⟨rfl, rfl, rfl⟩
theorem Timed.abortRepeat (t : Cyc) :
    Timed.Statement (.abortRepeat t) := fun _ => ⟨rfl, rfl, rfl⟩
theorem Timed.abort (t : Cyc) (m : Msg) (id : Nat) :
    Timed.Statement (.abort t m id) := fun _ => ⟨rfl, rfl, rfl⟩
theorem Timed.commitDivergenceTimeout (t : Cyc) (chim tile : Nat) :
    Timed.Statement (.commitDivergenceTimeout t chim tile) := fun _ => ⟨rfl, rfl, rfl⟩
theorem Timed.lock (t : Cyc) (m : Msg) (area : Nat) :
    Timed.Statement (.lock t m area) := fun _ => ⟨rfl, rfl, rfl⟩
theorem Timed.unlock (t : Cyc) (m : Msg) (area : Nat) :
    Timed.Statement (.unlock t m area) := fun _ => ⟨rfl, rfl, rfl⟩
theorem Timed.lockAcquire (t : Cyc) (m : Msg) (area : Nat) :
    Timed.Statement (.lockAcquire t m area) := fun _ => ⟨rfl, rfl, rfl⟩
theorem Timed.lockRelease (t : Cyc) (m : Msg) (area : Nat) :
    Timed.Statement (.lockRelease t m area) := fun _ => ⟨rfl, rfl, rfl⟩
theorem Timed.lockClearSuspect (t : Cyc) (m : Msg) (area : Nat) :
    Timed.Statement (.lockClearSuspect t m area) := fun _ => ⟨rfl, rfl, rfl⟩
theorem Timed.sessionTimeout (t : Cyc) (slot : Nat) :
    Timed.Statement (.sessionTimeout t slot) := fun _ => ⟨rfl, rfl, rfl⟩
theorem Timed.persistSave (t : Cyc) (m : Msg) :
    Timed.Statement (.persistSave t m) := fun _ => ⟨rfl, rfl, rfl⟩
theorem Timed.persistAutoSave (t : Cyc) :
    Timed.Statement (.persistAutoSave t) := fun _ => ⟨rfl, rfl, rfl⟩
theorem Timed.persistDefaults (t : Cyc) (m : Msg) (mask : Nat) :
    Timed.Statement (.persistDefaults t m mask) := fun _ => ⟨rfl, rfl, rfl⟩
theorem Timed.flashStoreDone (t : Cyc) (dev : FlashDev) (first second : Bool) :
    Timed.Statement (.flashStoreDone t dev first second) := fun _ => ⟨rfl, rfl, rfl⟩
theorem Timed.setup (t : Cyc) (h : IngHdr) (f : PlaneFormat) :
    Timed.Statement (.setup t h f) := fun _ => ⟨rfl, rfl, rfl⟩
theorem Timed.frameReq (t : Cyc) (h : IngHdr) :
    Timed.Statement (.frameReq t h) := fun _ => ⟨rfl, rfl, rfl⟩
theorem Timed.data (t : Cyc) (h : IngHdr) (bytes : List Byte) :
    Timed.Statement (.data t h bytes) := fun _ => ⟨rfl, rfl, rfl⟩
theorem Timed.ingestCreditTimer (t : Cyc) (slot : Nat) :
    Timed.Statement (.ingestCreditTimer t slot) := fun _ => ⟨rfl, rfl, rfl⟩
theorem Timed.publish (t : Cyc) (h : IngHdr) (frameNo : Nat) :
    Timed.Statement (.publish t h frameNo) := fun _ => ⟨rfl, rfl, rfl⟩
theorem Timed.publishCheck (t : Cyc) (slot : Nat) :
    Timed.Statement (.publishCheck t slot) := fun _ => ⟨rfl, rfl, rfl⟩
theorem Timed.fenceRelease (t : Cyc) (owner : BufOwner) (buf : Nat) :
    Timed.Statement (.fenceRelease t owner buf) := fun _ => ⟨rfl, rfl, rfl⟩
theorem Timed.sourceStaleTimeout (t : Cyc) (slot : Nat) :
    Timed.Statement (.sourceStaleTimeout t slot) := fun _ => ⟨rfl, rfl, rfl⟩
theorem Timed.layerStillData (t : Cyc) (m : Msg) (layer off : Nat) (bytes : List Byte) :
    Timed.Statement (.layerStillData t m layer off bytes) := fun _ => ⟨rfl, rfl, rfl⟩
theorem Timed.layerStillPublish (t : Cyc) (m : Msg) (layer : Nat) :
    Timed.Statement (.layerStillPublish t m layer) := fun _ => ⟨rfl, rfl, rfl⟩
theorem Timed.compositorDeadlineMiss (t : Cyc) (chim : Nat) :
    Timed.Statement (.compositorDeadlineMiss t chim) := fun _ => ⟨rfl, rfl, rfl⟩
theorem Timed.layerFetchError (t : Cyc) (layer plane line unit : Nat) :
    Timed.Statement (.layerFetchError t layer plane line unit) := fun _ => ⟨rfl, rfl, rfl⟩
theorem Timed.hearthImage (t : Cyc) (m : Msg) (off : Nat) (bytes : List Byte) :
    Timed.Statement (.hearthImage t m off bytes) := fun _ => ⟨rfl, rfl, rfl⟩
theorem Timed.hearthSizeWrite (t : Cyc) (m : Msg) (height : Bool) (value : Nat) :
    Timed.Statement (.hearthSizeWrite t m height value) := fun _ => ⟨rfl, rfl, rfl⟩
theorem Timed.hearthCopyDone (t : Cyc) :
    Timed.Statement (.hearthCopyDone t) := fun _ => ⟨rfl, rfl, rfl⟩
theorem Timed.hearthWordError (t : Cyc) (copy word : Nat) :
    Timed.Statement (.hearthWordError t copy word) := fun _ => ⟨rfl, rfl, rfl⟩
theorem Timed.hearthScrub (t : Cyc) :
    Timed.Statement (.hearthScrub t) := fun _ => ⟨rfl, rfl, rfl⟩
theorem Timed.chimneyBringUp (t : Cyc) (chim : Nat) :
    Timed.Statement (.chimneyBringUp t chim) := fun _ => ⟨rfl, rfl, rfl⟩
theorem Timed.assign (t : Cyc) (port hop : Nat) (dirB : Bool) (enabled : Nat) :
    Timed.Statement (.assign t port hop dirB enabled) := fun _ => ⟨rfl, rfl, rfl⟩
theorem Timed.assignReturn (t : Cyc) (chim hop : Nat) (dirB : Bool) :
    Timed.Statement (.assignReturn t chim hop dirB) := fun _ => ⟨rfl, rfl, rfl⟩
theorem Timed.assignPeriodic (t : Cyc) (chim : Nat) :
    Timed.Statement (.assignPeriodic t chim) := fun _ => ⟨rfl, rfl, rfl⟩
theorem Timed.ringCloseTimeout (t : Cyc) (chim : Nat) :
    Timed.Statement (.ringCloseTimeout t chim) := fun _ => ⟨rfl, rfl, rfl⟩
theorem Timed.modeHoldTimeout (t : Cyc) :
    Timed.Statement (.modeHoldTimeout t) := fun _ => ⟨rfl, rfl, rfl⟩
theorem Timed.phaseTrackStep (t : Cyc) (port lane : Nat) (tracker : Int) :
    Timed.Statement (.phaseTrackStep t port lane tracker) := fun _ => ⟨rfl, rfl, rfl⟩
theorem Timed.clockLaneLoss (t : Cyc) (port : Nat) (offsets : List Int) :
    Timed.Statement (.clockLaneLoss t port offsets) := fun _ => ⟨rfl, rfl, rfl⟩
theorem Timed.fwdClockReturn (t : Cyc) (port : Nat) (offsets : List Int) :
    Timed.Statement (.fwdClockReturn t port offsets) := fun _ => ⟨rfl, rfl, rfl⟩
theorem Timed.trainingBlock (t : Cyc) (port : Nat) (blocks : List Nat) (rx : RxProgress) :
    Timed.Statement (.trainingBlock t port blocks rx) := fun _ => ⟨rfl, rfl, rfl⟩
theorem Timed.trainingStageLimit (t : Cyc) (port : Nat) :
    Timed.Statement (.trainingStageLimit t port) := fun _ => ⟨rfl, rfl, rfl⟩
theorem Timed.trainingRetry (t : Cyc) (port : Nat) :
    Timed.Statement (.trainingRetry t port) := fun _ => ⟨rfl, rfl, rfl⟩
theorem Timed.linkFramesStart (t : Cyc) (port : Nat) :
    Timed.Statement (.linkFramesStart t port) := fun _ => ⟨rfl, rfl, rfl⟩
theorem Timed.blockLockGained (t : Cyc) (port lane : Nat) :
    Timed.Statement (.blockLockGained t port lane) := fun _ => ⟨rfl, rfl, rfl⟩
theorem Timed.blockLockLost (t : Cyc) (port : Nat) (loss : LaneLoss) :
    Timed.Statement (.blockLockLost t port loss) := fun _ => ⟨rfl, rfl, rfl⟩
theorem Timed.wakeTimeout (t : Cyc) (port : Nat) :
    Timed.Statement (.wakeTimeout t port) := fun _ => ⟨rfl, rfl, rfl⟩
theorem Timed.eyeMeasurementDone (t : Cyc) (port lane width : Nat) :
    Timed.Statement (.eyeMeasurementDone t port lane width) := fun _ => ⟨rfl, rfl, rfl⟩
theorem Timed.eyeMeasureTimeout (t : Cyc) (port lane : Nat) :
    Timed.Statement (.eyeMeasureTimeout t port lane) := fun _ => ⟨rfl, rfl, rfl⟩
theorem Timed.phyRetrainInFrame (t : Cyc) (m : Msg) (port : Nat) :
    Timed.Statement (.phyRetrainInFrame t m port) := fun _ => ⟨rfl, rfl, rfl⟩
theorem Timed.phyRetrainOpen (t : Cyc) (m : Msg) (port : Nat) :
    Timed.Statement (.phyRetrainOpen t m port) := fun _ => ⟨rfl, rfl, rfl⟩
theorem Timed.phyLoop (t : Cyc) (m : Msg) (port value : Nat) :
    Timed.Statement (.phyLoop t m port value) := fun _ => ⟨rfl, rfl, rfl⟩
theorem Timed.phyTestPattern (t : Cyc) (m : Msg) (port value : Nat) :
    Timed.Statement (.phyTestPattern t m port value) := fun _ => ⟨rfl, rfl, rfl⟩
theorem Timed.linkFrame (t : Cyc) (port : Nat) (f : LinkFrame) :
    Timed.Statement (.linkFrame t port f) := fun _ => ⟨rfl, rfl, rfl⟩
theorem Timed.linkAlignAcquired (t : Cyc) (port : Nat) :
    Timed.Statement (.linkAlignAcquired t port) := fun _ => ⟨rfl, rfl, rfl⟩
theorem Timed.linkAlignLost (t : Cyc) (port : Nat) :
    Timed.Statement (.linkAlignLost t port) := fun _ => ⟨rfl, rfl, rfl⟩
theorem Timed.ctrl (t : Cyc) (port : Nat) (g : CtrlSeg) :
    Timed.Statement (.ctrl t port g) := fun _ => ⟨rfl, rfl, rfl⟩
theorem Timed.ctrlReassemblyTimeout (t : Cyc) (src : Nat) (pathB : Bool) (msgId : Nat) :
    Timed.Statement (.ctrlReassemblyTimeout t src pathB msgId) := fun _ => ⟨rfl, rfl, rfl⟩
theorem Timed.credit (t : Cyc) (chim tile : Nat) (a7 a6 a0 b7 b6 b0 : Nat) :
    Timed.Statement (.credit t chim tile a7 a6 a0 b7 b6 b0) := fun _ => ⟨rfl, rfl, rfl⟩
theorem Timed.tileCreditTimer (t : Cyc) :
    Timed.Statement (.tileCreditTimer t) := fun _ => ⟨rfl, rfl, rfl⟩
theorem Timed.bootFlagEnd (t : Cyc) :
    Timed.Statement (.bootFlagEnd t) := fun _ => ⟨rfl, rfl, rfl⟩
theorem Timed.insertionGap (t : Cyc) (port : Nat) :
    Timed.Statement (.insertionGap t port) := fun _ => ⟨rfl, rfl, rfl⟩
theorem Timed.allowanceTick (t : Cyc) (port : Nat) :
    Timed.Statement (.allowanceTick t port) := fun _ => ⟨rfl, rfl, rfl⟩
theorem Timed.ownPacketInsert (t : Cyc) (port ahead : Nat) (group : Bool) :
    Timed.Statement (.ownPacketInsert t port ahead group) := fun _ => ⟨rfl, rfl, rfl⟩
theorem Timed.ctrlForwardSend (t : Cyc) (chim : Nat) :
    Timed.Statement (.ctrlForwardSend t chim) := fun _ => ⟨rfl, rfl, rfl⟩
theorem Timed.unaddrFaultReport (t : Cyc) :
    Timed.Statement (.unaddrFaultReport t) := fun _ => ⟨rfl, rfl, rfl⟩
theorem Timed.line (t : Cyc) (port : Nat) (p : LineCopy) :
    Timed.Statement (.line t port p) := fun _ => ⟨rfl, rfl, rfl⟩
theorem Timed.frameClose (t : Cyc) :
    Timed.Statement (.frameClose t) := fun _ => ⟨rfl, rfl, rfl⟩
theorem Timed.pathHoldoffExpiry (t : Cyc) :
    Timed.Statement (.pathHoldoffExpiry t) := fun _ => ⟨rfl, rfl, rfl⟩
theorem Timed.pathForce (t : Cyc) (m : Msg) (value : Nat) :
    Timed.Statement (.pathForce t m value) := fun _ => ⟨rfl, rfl, rfl⟩
theorem Timed.statusPeriodic (t : Cyc) :
    Timed.Statement (.statusPeriodic t) := fun _ => ⟨rfl, rfl, rfl⟩
theorem Timed.pathFlagsStatus (t : Cyc) :
    Timed.Statement (.pathFlagsStatus t) := fun _ => ⟨rfl, rfl, rfl⟩
theorem Timed.status (t : Cyc) (chim : Nat) (p : StatusPkt) :
    Timed.Statement (.status t chim p) := fun _ => ⟨rfl, rfl, rfl⟩
theorem Timed.reachTimeout (t : Cyc) (chim tile : Nat) :
    Timed.Statement (.reachTimeout t chim tile) := fun _ => ⟨rfl, rfl, rfl⟩
theorem Timed.firstStatusTimeout (t : Cyc) (chim tile : Nat) :
    Timed.Statement (.firstStatusTimeout t chim tile) := fun _ => ⟨rfl, rfl, rfl⟩
theorem Timed.ptpSync (t : Cyc) (p : PtpSync) :
    Timed.Statement (.ptpSync t p) := fun _ => ⟨rfl, rfl, rfl⟩
theorem Timed.ptpFollowUp (t : Cyc) (p : PtpSync) :
    Timed.Statement (.ptpFollowUp t p) := fun _ => ⟨rfl, rfl, rfl⟩
theorem Timed.ptpDelayResp (t : Cyc) (p : PtpSync) :
    Timed.Statement (.ptpDelayResp t p) := fun _ => ⟨rfl, rfl, rfl⟩
theorem Timed.ptpAnnounce (t : Cyc) (p : PtpAnnounce) :
    Timed.Statement (.ptpAnnounce t p) := fun _ => ⟨rfl, rfl, rfl⟩
theorem Timed.ptpDelayReqInterval (t : Cyc) :
    Timed.Statement (.ptpDelayReqInterval t) := fun _ => ⟨rfl, rfl, rfl⟩
theorem Timed.ptpAnnounceTimeout (t : Cyc) :
    Timed.Statement (.ptpAnnounceTimeout t) := fun _ => ⟨rfl, rfl, rfl⟩
theorem Timed.ptpSyncTimeout (t : Cyc) :
    Timed.Statement (.ptpSyncTimeout t) := fun _ => ⟨rfl, rfl, rfl⟩
theorem Timed.frefEdge (t : Cyc) (falling : Bool) :
    Timed.Statement (.frefEdge t falling) := fun _ => ⟨rfl, rfl, rfl⟩
theorem Timed.frefEdgeMissing (t : Cyc) :
    Timed.Statement (.frefEdgeMissing t) := fun _ => ⟨rfl, rfl, rfl⟩
theorem Timed.timeStep (t : Cyc) (m : Msg) (delta : Int) :
    Timed.Statement (.timeStep t m delta) := fun _ => ⟨rfl, rfl, rfl⟩
theorem Timed.timePtpRestep (t : Cyc) (m : Msg) :
    Timed.Statement (.timePtpRestep t m) := fun _ => ⟨rfl, rfl, rfl⟩
theorem Timed.timeRealign (t : Cyc) (m : Msg) :
    Timed.Statement (.timeRealign t m) := fun _ => ⟨rfl, rfl, rfl⟩
theorem Timed.syncInterval (t : Cyc) (port : Nat) :
    Timed.Statement (.syncInterval t port) := fun _ => ⟨rfl, rfl, rfl⟩
theorem Timed.delayReq (t : Cyc) (port : Nat) (p : TimePkt) :
    Timed.Statement (.delayReq t port p) := fun _ => ⟨rfl, rfl, rfl⟩
theorem Timed.anchorInterval (t : Cyc) (chim : Nat) :
    Timed.Statement (.anchorInterval t chim) := fun _ => ⟨rfl, rfl, rfl⟩
theorem Timed.anchorAnnounceRepeat (t : Cyc) :
    Timed.Statement (.anchorAnnounceRepeat t) := fun _ => ⟨rfl, rfl, rfl⟩
theorem Timed.delayReqInterval (t : Cyc) :
    Timed.Statement (.delayReqInterval t) := fun _ => ⟨rfl, rfl, rfl⟩
theorem Timed.sync (t : Cyc) (port : Nat) (p : TimePkt) :
    Timed.Statement (.sync t port p) := fun _ => ⟨rfl, rfl, rfl⟩
theorem Timed.delayResp (t : Cyc) (port : Nat) (p : TimePkt) :
    Timed.Statement (.delayResp t port p) := fun _ => ⟨rfl, rfl, rfl⟩
theorem Timed.anchor (t : Cyc) (port : Nat) (a : AnchorPkt) :
    Timed.Statement (.anchor t port a) := fun _ => ⟨rfl, rfl, rfl⟩
theorem Timed.tileSyncTimeout (t : Cyc) :
    Timed.Statement (.tileSyncTimeout t) := fun _ => ⟨rfl, rfl, rfl⟩
theorem Timed.holdoverMaxExpiry (t : Cyc) :
    Timed.Statement (.holdoverMaxExpiry t) := fun _ => ⟨rfl, rfl, rfl⟩
theorem Timed.scanStart (t : Cyc) :
    Timed.Statement (.scanStart t) := fun _ => ⟨rfl, rfl, rfl⟩
theorem Timed.passStart (t : Cyc) (err : Int) :
    Timed.Statement (.passStart t err) := fun _ => ⟨rfl, rfl, rfl⟩
theorem Timed.tpoEdge (t : Cyc) (n : Nat) :
    Timed.Statement (.tpoEdge t n) := fun _ => ⟨rfl, rfl, rfl⟩
theorem Timed.lampFirstPassDone (t : Cyc) :
    Timed.Statement (.lampFirstPassDone t) := fun _ => ⟨rfl, rfl, rfl⟩
theorem Timed.lampProcessingDone (t : Cyc) :
    Timed.Statement (.lampProcessingDone t) := fun _ => ⟨rfl, rfl, rfl⟩
theorem Timed.driveDeadline (t : Cyc) :
    Timed.Statement (.driveDeadline t) := fun _ => ⟨rfl, rfl, rfl⟩
theorem Timed.workingSetBuildStart (t : Cyc) (module : Nat) :
    Timed.Statement (.workingSetBuildStart t module) := fun _ => ⟨rfl, rfl, rfl⟩
theorem Timed.workingSetBuildDone (t : Cyc) (module : Nat) :
    Timed.Statement (.workingSetBuildDone t module) := fun _ => ⟨rfl, rfl, rfl⟩
theorem Timed.workingSetAgeTimeout (t : Cyc) (module : Nat) :
    Timed.Statement (.workingSetAgeTimeout t module) := fun _ => ⟨rfl, rfl, rfl⟩
theorem Timed.coefWordError (t : Cyc) (x y : Nat) :
    Timed.Statement (.coefWordError t x y) := fun _ => ⟨rfl, rfl, rfl⟩
theorem Timed.storedSetError (t : Cyc) (module set : Nat) :
    Timed.Statement (.storedSetError t module set) := fun _ => ⟨rfl, rfl, rfl⟩
theorem Timed.agingSweep (t : Cyc) :
    Timed.Statement (.agingSweep t) := fun _ => ⟨rfl, rfl, rfl⟩
theorem Timed.doseFold (t : Cyc) :
    Timed.Statement (.doseFold t) := fun _ => ⟨rfl, rfl, rfl⟩
theorem Timed.doseSave (t : Cyc) :
    Timed.Statement (.doseSave t) := fun _ => ⟨rfl, rfl, rfl⟩
theorem Timed.strandFrameReturn (t : Cyc) (strand : Nat) (r : StrandReturn) :
    Timed.Statement (.strandFrameReturn t strand r) := fun _ => ⟨rfl, rfl, rfl⟩
theorem Timed.breakSym (t : Cyc) (strand : Nat) (symbol : List CellSample) :
    Timed.Statement (.breakSym t strand symbol) := fun _ => ⟨rfl, rfl, rfl⟩
theorem Timed.strandReturnTimeout (t : Cyc) (strand : Nat) :
    Timed.Statement (.strandReturnTimeout t strand) := fun _ => ⟨rfl, rfl, rfl⟩
theorem Timed.strEnum (t : Cyc) (m : Msg) :
    Timed.Statement (.strEnum t m) := fun _ => ⟨rfl, rfl, rfl⟩
theorem Timed.enumPeriodic (t : Cyc) :
    Timed.Statement (.enumPeriodic t) := fun _ => ⟨rfl, rfl, rfl⟩
theorem Timed.enumReturn (t : Cyc) (strand : Nat) (symbol : List CellSample) :
    Timed.Statement (.enumReturn t strand symbol) := fun _ => ⟨rfl, rfl, rfl⟩
theorem Timed.strDrvRead (t : Cyc) (m : Msg) :
    Timed.Statement (.strDrvRead t m) := fun _ => ⟨rfl, rfl, rfl⟩
theorem Timed.strDrvWrite (t : Cyc) (m : Msg) :
    Timed.Statement (.strDrvWrite t m) := fun _ => ⟨rfl, rfl, rfl⟩
theorem Timed.cmdReturn (t : Cyc) (strand : Nat) (symbol : List CellSample) :
    Timed.Statement (.cmdReturn t strand symbol) := fun _ => ⟨rfl, rfl, rfl⟩
theorem Timed.driverCmdTimeout (t : Cyc) (strand : Nat) :
    Timed.Statement (.driverCmdTimeout t strand) := fun _ => ⟨rfl, rfl, rfl⟩
theorem Timed.scanOpenClearEntry (t : Cyc) (m : Msg) (entry : Nat) :
    Timed.Statement (.scanOpenClearEntry t m entry) := fun _ => ⟨rfl, rfl, rfl⟩
theorem Timed.scanOpenClearAll (t : Cyc) (m : Msg) :
    Timed.Statement (.scanOpenClearAll t m) := fun _ => ⟨rfl, rfl, rfl⟩
theorem Timed.loopSample (t : Cyc) (slot : Nat) :
    Timed.Statement (.loopSample t slot) := fun _ => ⟨rfl, rfl, rfl⟩
theorem Timed.damperStagingWrite (t : Cyc) (zone : Nat) :
    Timed.Statement (.damperStagingWrite t zone) := fun _ => ⟨rfl, rfl, rfl⟩
theorem Timed.monConversion (t : Cyc) (vMon vRefP vRefN : Int) :
    Timed.Statement (.monConversion t vMon vRefP vRefN) := fun _ => ⟨rfl, rfl, rfl⟩
theorem Timed.opRampEval (t : Cyc) :
    Timed.Statement (.opRampEval t) := fun _ => ⟨rfl, rfl, rfl⟩
theorem Timed.loopSwap (t : Cyc) (m : Msg) (mask : Nat) :
    Timed.Statement (.loopSwap t m mask) := fun _ => ⟨rfl, rfl, rfl⟩
theorem Timed.powerGrant (t : Cyc) (m : Msg) (gseq target : Nat) (grants : List Nat) :
    Timed.Statement (.powerGrant t m gseq target grants) := fun _ => ⟨rfl, rfl, rfl⟩
theorem Timed.powerReport (t : Cyc) (m : Msg) (chim tile : Nat) (r : PowerReport) :
    Timed.Statement (.powerReport t m chim tile r) := fun _ => ⟨rfl, rfl, rfl⟩
theorem Timed.grantMissingTimeout (t : Cyc) :
    Timed.Statement (.grantMissingTimeout t) := fun _ => ⟨rfl, rfl, rfl⟩
theorem Timed.powerReportMissing (t : Cyc) (chim tile : Nat) :
    Timed.Statement (.powerReportMissing t chim tile) := fun _ => ⟨rfl, rfl, rfl⟩
theorem Timed.zoneTempSupply (t : Cyc) :
    Timed.Statement (.zoneTempSupply t) := fun _ => ⟨rfl, rfl, rfl⟩
theorem Timed.calOpen (t : Cyc) (m : Msg) :
    Timed.Statement (.calOpen t m) := fun _ => ⟨rfl, rfl, rfl⟩
theorem Timed.calRun (t : Cyc) (m : Msg) :
    Timed.Statement (.calRun t m) := fun _ => ⟨rfl, rfl, rfl⟩
theorem Timed.calAbort (t : Cyc) (m : Msg) :
    Timed.Statement (.calAbort t m) := fun _ => ⟨rfl, rfl, rfl⟩
theorem Timed.calPatternShow (t : Cyc) (m : Msg) (pattern : Nat) :
    Timed.Statement (.calPatternShow t m pattern) := fun _ => ⟨rfl, rfl, rfl⟩
theorem Timed.calPatternEnd (t : Cyc) (m : Msg) :
    Timed.Statement (.calPatternEnd t m) := fun _ => ⟨rfl, rfl, rfl⟩
theorem Timed.calMeasClear (t : Cyc) (m : Msg) :
    Timed.Statement (.calMeasClear t m) := fun _ => ⟨rfl, rfl, rfl⟩
theorem Timed.calMeasData (t : Cyc) (m : Msg) (buf off : Nat) (bytes : List Byte) :
    Timed.Statement (.calMeasData t m buf off bytes) := fun _ => ⟨rfl, rfl, rfl⟩
theorem Timed.calBulkData (t : Cyc) (m : Msg) (off : Nat) (bytes : List Byte) :
    Timed.Statement (.calBulkData t m off bytes) := fun _ => ⟨rfl, rfl, rfl⟩
theorem Timed.bulk (t : Cyc) (h : BulkHdr) (off : Nat) (bytes : List Byte) :
    Timed.Statement (.bulk t h off bytes) := fun _ => ⟨rfl, rfl, rfl⟩
theorem Timed.calUnitStart (t : Cyc) :
    Timed.Statement (.calUnitStart t) := fun _ => ⟨rfl, rfl, rfl⟩
theorem Timed.calSolveDone (t : Cyc) :
    Timed.Statement (.calSolveDone t) := fun _ => ⟨rfl, rfl, rfl⟩
theorem Timed.calCheckDone (t : Cyc) :
    Timed.Statement (.calCheckDone t) := fun _ => ⟨rfl, rfl, rfl⟩
theorem Timed.calFieldRevert (t : Cyc) (m : Msg) (value : Nat) :
    Timed.Statement (.calFieldRevert t m value) := fun _ => ⟨rfl, rfl, rfl⟩
theorem Timed.calLinkRun (t : Cyc) (m : Msg) (port : Nat) :
    Timed.Statement (.calLinkRun t m port) := fun _ => ⟨rfl, rfl, rfl⟩
theorem Timed.linkRunEnd (t : Cyc) (port : Nat) :
    Timed.Statement (.linkRunEnd t port) := fun _ => ⟨rfl, rfl, rfl⟩
theorem Timed.linkRunAutoStart (t : Cyc) (port : Nat) :
    Timed.Statement (.linkRunAutoStart t port) := fun _ => ⟨rfl, rfl, rfl⟩
theorem Timed.calLinkClear (t : Cyc) (m : Msg) (port : Nat) :
    Timed.Statement (.calLinkClear t m port) := fun _ => ⟨rfl, rfl, rfl⟩
theorem Timed.calTrimRun (t : Cyc) (m : Msg) :
    Timed.Statement (.calTrimRun t m) := fun _ => ⟨rfl, rfl, rfl⟩
theorem Timed.trimRunEnd (t : Cyc) (sites : List SiteReadings) :
    Timed.Statement (.trimRunEnd t sites) := fun _ => ⟨rfl, rfl, rfl⟩
theorem Timed.anchorWrite (t : Cyc) (m : Msg) (kind : AnchorKind) (entry : Nat) (key : List Byte) :
    Timed.Statement (.anchorWrite t m kind entry key) := fun _ => ⟨rfl, rfl, rfl⟩
theorem Timed.secFwRevoke (t : Cyc) (m : Msg) (key : Nat) :
    Timed.Statement (.secFwRevoke t m key) := fun _ => ⟨rfl, rfl, rfl⟩
theorem Timed.modulePoll (t : Cyc) (module : Nat) (found : Option ModuleFound) :
    Timed.Statement (.modulePoll t module found) := fun _ => ⟨rfl, rfl, rfl⟩
theorem Timed.modServiceEnter (t : Cyc) (m : Msg) (module : Nat) :
    Timed.Statement (.modServiceEnter t m module) := fun _ => ⟨rfl, rfl, rfl⟩
theorem Timed.modServiceLeave (t : Cyc) (m : Msg) (module : Nat) :
    Timed.Statement (.modServiceLeave t m module) := fun _ => ⟨rfl, rfl, rfl⟩
theorem Timed.sensorConversion (t : Cyc) (readings : List Int) :
    Timed.Statement (.sensorConversion t readings) := fun _ => ⟨rfl, rfl, rfl⟩
theorem Timed.thermalStageApply (t : Cyc) :
    Timed.Statement (.thermalStageApply t) := fun _ => ⟨rfl, rfl, rfl⟩
theorem Timed.moduleTempStale (t : Cyc) (module : Nat) :
    Timed.Statement (.moduleTempStale t module) := fun _ => ⟨rfl, rfl, rfl⟩
theorem Timed.faultEvent (t : Cyc) :
    Timed.Statement (.faultEvent t) := fun _ => ⟨rfl, rfl, rfl⟩
theorem Timed.faultQuietExpiry (t : Cyc) (src : Nat) :
    Timed.Statement (.faultQuietExpiry t src) := fun _ => ⟨rfl, rfl, rfl⟩
theorem Timed.fltClearSource (t : Cyc) (m : Msg) (src : Nat) :
    Timed.Statement (.fltClearSource t m src) := fun _ => ⟨rfl, rfl, rfl⟩
theorem Timed.fltClearAll (t : Cyc) (m : Msg) :
    Timed.Statement (.fltClearAll t m) := fun _ => ⟨rfl, rfl, rfl⟩
theorem Timed.fltInject (t : Cyc) (m : Msg) (value : Nat) :
    Timed.Statement (.fltInject t m value) := fun _ => ⟨rfl, rfl, rfl⟩
theorem Timed.fltInjectClear (t : Cyc) (m : Msg) :
    Timed.Statement (.fltInjectClear t m) := fun _ => ⟨rfl, rfl, rfl⟩
theorem Timed.ashLogSave (t : Cyc) :
    Timed.Statement (.ashLogSave t) := fun _ => ⟨rfl, rfl, rfl⟩
theorem Timed.alarmRepeat (t : Cyc) :
    Timed.Statement (.alarmRepeat t) := fun _ => ⟨rfl, rfl, rfl⟩
theorem Timed.fault (t : Cyc) (chim src entry : Nat) :
    Timed.Statement (.fault t chim src entry) := fun _ => ⟨rfl, rfl, rfl⟩
theorem Timed.wallAlarmTimeout (t : Cyc) (chim tile : Nat) :
    Timed.Statement (.wallAlarmTimeout t chim tile) := fun _ => ⟨rfl, rfl, rfl⟩
theorem Timed.svcFrame (t : Cyc) (f : SvcFrame) :
    Timed.Statement (.svcFrame t f) := fun _ => ⟨rfl, rfl, rfl⟩
theorem Timed.bootReleaseM (t : Cyc) (m : Msg) :
    Timed.Statement (.bootReleaseM t m) := fun _ => ⟨rfl, rfl, rfl⟩
theorem Timed.updBegin (t : Cyc) (m : Msg) :
    Timed.Statement (.updBegin t m) := fun _ => ⟨rfl, rfl, rfl⟩
theorem Timed.updImage (t : Cyc) (m : Msg) (off : Nat) (bytes : List Byte) :
    Timed.Statement (.updImage t m off bytes) := fun _ => ⟨rfl, rfl, rfl⟩
theorem Timed.updVerify (t : Cyc) (m : Msg) (verdicts : List ImageVerdict) :
    Timed.Statement (.updVerify t m verdicts) := fun _ => ⟨rfl, rfl, rfl⟩
theorem Timed.updActivate (t : Cyc) (m : Msg) (mask target : Nat) :
    Timed.Statement (.updActivate t m mask target) := fun _ => ⟨rfl, rfl, rfl⟩
theorem Timed.kernelLoadDone (t : Cyc) :
    Timed.Statement (.kernelLoadDone t) := fun _ => ⟨rfl, rfl, rfl⟩
theorem Timed.updConfirm (t : Cyc) :
    Timed.Statement (.updConfirm t) := fun _ => ⟨rfl, rfl, rfl⟩
theorem Timed.updWindowExpiry (t : Cyc) :
    Timed.Statement (.updWindowExpiry t) := fun _ => ⟨rfl, rfl, rfl⟩
theorem Timed.updFallback (t : Cyc) (m : Msg) :
    Timed.Statement (.updFallback t m) := fun _ => ⟨rfl, rfl, rfl⟩
theorem Timed.trimPwmPeriod (t : Cyc) (n : Nat) :
    Timed.Statement (.trimPwmPeriod t n) := fun _ => ⟨rfl, rfl, rfl⟩
theorem Timed.tpoPulseEnd (t : Cyc) (n : Nat) :
    Timed.Statement (.tpoPulseEnd t n) := fun _ => ⟨rfl, rfl, rfl⟩
theorem Timed.jtagInstruction (t : Cyc) (code : Nat) :
    Timed.Statement (.jtagInstruction t code) := fun _ => ⟨rfl, rfl, rfl⟩

end Sys2Proof.Laws
end

