-- ==== Sys2Proof/Laws/Request.lean ====
section
/-! SUPPORT. What an admitted request does: it runs once, in the state `taken`, and its reply is kept and sent. -/

namespace Sys2Proof.Machine

variable {s q : State} {t : Cyc} {m : Msg}

@[simp] theorem State.upTo_session (s : State) (t : Cyc) (k : Nat) : (s.upTo t).session k = s.session k := rfl

/-- The session in which an admitted message runs. -/
@[simp] theorem State.taken_session (s : State) (t : Cyc) (m : Msg) :
    (s.taken t m).session m.session =
      { s.session m.session with lastMsg := max s.now t, transport := m.transport, seq := m.seq, cached := none, busy := none } := by
  simp [State.taken]

/-- Taking a message touches its session slot only. -/
theorem State.taken_eq (s : State) (t : Cyc) (m : Msg) : ∃ l, s.taken t m =
    { s with now := max s.now t, sess := { s.sess with slots := l } } := ⟨_, rfl⟩

@[simp] theorem State.taken_role (s : State) (t : Cyc) (m : Msg) : (s.taken t m).role = s.role := rfl
@[simp] theorem State.taken_now (s : State) (t : Cyc) (m : Msg) : (s.taken t m).now = max s.now t := rfl
@[simp] theorem State.taken_sys (s : State) (t : Cyc) (m : Msg) : (s.taken t m).sys = s.sys := rfl
@[simp] theorem State.taken_dict (s : State) (t : Cyc) (m : Msg) : (s.taken t m).dict = s.dict := rfl
@[simp] theorem State.taken_pending (s : State) (t : Cyc) (m : Msg) : (s.taken t m).pending = s.pending := rfl

/-- An admitted request runs. -/
theorem State.request_fresh {rom : Bool} (h : s.Fresh t m rom) (op area n : Nat) (vals : List WVal) (f : State → Act) :
    (s.upTo t).request m op rom area n vals f = (s.taken t m).execute m.session op f := by
  obtain ⟨_, hm, hh, hr, hg, h1, h2, h3, _, _⟩ := h
  have hm' : ((s.upTo t).pairMUp || rom) = true := hm
  have hh' : (s.upTo t).hears m.transport = true := hh
  have hg' : (s.upTo t).genuine m = true := hg
  have ne : m.seq ≠ (s.session m.session).seq := by omega
  have nle : ¬ m.seq ≤ max (s.session m.session).seq (s.session m.session).oneWay := by omega
  have nlt : ¬ 0xFFFFFFFF ≤ m.seq := by omega
  have acc : (s.upTo t).accept m op f = (s.taken t m).execute m.session op f := by
    simp only [State.accept, hg', Bool.not_true, Bool.false_eq_true, if_false, State.upTo_session, ne, false_and, nle,
      h3, nlt, or_self, and_false, State.taken]
  unfold State.request
  rw [hh', hr, acc, hm']
  cases (s.upTo t).isSender && (s.upTo t).pairMUp <;> rfl

/-- A frame that finds room in the SVC queue leaves. -/
theorem State.svcQueue_room (q : State) (n : Nat) (x : Tx)
    (h : (q.upd.svc.filter fun y => decide (q.now < y)).length < 4) :
    ∃ l, q.svcQueue n x = { q with upd := { q.upd with svc := l }, out := (q.now, x) :: q.out } := by
  have h' : ¬ 4 ≤ (q.upd.svc.filter fun y => decide (q.now < y)).length := by omega
  exact ⟨_, by simp only [State.svcQueue, h', if_false]; rfl⟩

/-- Where the SVC queue has room, a message of `n` bytes leaves on any transport; only the outputs, the SVC queue and the
Flue ports' queues move. -/
theorem State.handTo_room (q : State) (via : Transport) (n : Nat) (x : Tx)
    (hr : via = .svc → (q.upd.svc.filter fun y => decide (q.now < y)).length < 4) :
    ∃ l f, Flue.Queued f q.flue ∧ (via ≠ .flue → f = q.flue)
      ∧ q.handTo via n x = { q with upd := { q.upd with svc := l }, flue := f, out := (q.now, x) :: q.out } := by
  cases via with
  | mgmt => exact ⟨q.upd.svc, q.flue, rfl, fun _ => rfl, rfl⟩
  | flue => exact ⟨q.upd.svc, (q.queueCtrl [0, 1] 4 0 n).flue, rfl, fun h => absurd rfl h, rfl⟩
  | svc =>
    obtain ⟨l, e⟩ := State.svcQueue_room q n x (hr rfl)
    exact ⟨l, q.flue, rfl, fun _ => rfl, e⟩

/-- The same for a message whose length may be free. -/
theorem State.sendOn_room (q : State) (via : Transport) (x : Tx)
    (hr : via = .svc → (q.upd.svc.filter fun y => decide (q.now < y)).length < 4) :
    ∃ l f n, Flue.Queued f q.flue ∧ (via ≠ .flue → f = q.flue)
      ∧ q.sendOn via x = { q with upd := { q.upd with svc := l }, flue := f, free := n, out := (q.now, x) :: q.out } := by
  unfold State.sendOn
  cases x.bytes with
  | some n =>
    obtain ⟨l, f, h1, h2, e⟩ := State.handTo_room q via n x hr
    exact ⟨l, f, q.free, h1, h2, e⟩
  | none =>
    obtain ⟨l, f, h1, h2, e⟩ := State.handTo_room q.used via (q.freeVal % 1025 + 56) x hr
    exact ⟨l, f, q.free + 1, h1, h2, e⟩

/-- An answer keeps the reply for a repeat and sends it (R45). -/
theorem State.answer_kept (q : State) (k op : Nat) (r : Reply) (ho : (q.session k).own + 1 < 0xFFFFFFFF)
    (hr : (q.session k).transport = .svc → (q.upd.svc.filter fun y => decide (q.now < y)).length < 4) :
    ∃ l f n, Flue.Queued f q.flue ∧ ((q.session k).transport ≠ .flue → f = q.flue) ∧ q.answer k op r =
      { (q.setSession k { q.session k with cached := some (op, r), busy := none }).setSession k
          { q.session k with cached := some (op, r), busy := none, own := (q.session k).own + 1 } with
        upd := { q.upd with svc := l }, flue := f, free := n,
        out := (q.now, .reply (q.session k).transport k (q.session k).seq op r) :: q.out } := by
  have hn : ¬ (q.session k).own + 1 ≥ 0xFFFFFFFF := by omega
  simp only [State.answer, State.sendIn, State.session_setSession_same, hn, if_false]
  obtain ⟨l, f, n, h1, h2, e⟩ := State.sendOn_room
    ((q.setSession k { q.session k with cached := some (op, r), busy := none }).setSession k
      { q.session k with cached := some (op, r), busy := none, own := (q.session k).own + 1 }) (q.session k).transport
    (.reply (q.session k).transport k (q.session k).seq op r) hr
  exact ⟨l, f, n, h1, h2, e⟩

/-- A request that answers at once and leaves its session as it found it. -/
theorem State.answers_of_run {rom : Bool} (h : s.Fresh t m rom) {op area n : Nat} {vals : List WVal} {f : State → Act}
    (hf : f (s.taken t m) = { s := q, r := r }) (hs : q.session m.session = (s.taken t m).session m.session)
    (hn : q.now = max s.now t) (hq : q.upd.svc = s.upd.svc) :
    ∃ u, (s.run t fun s => s.request m op rom area n vals f) = .next u ∧ State.Answers u q m op r ∧ u.role = s.role := by
  obtain ⟨hl, _, _, _, hg, _, _, _, ho, hv⟩ := id h
  have hx : (q.session m.session).isOpen = true := by
    rw [hs, State.taken_session]
    simp only [State.genuine, Bool.and_eq_true] at hg
    exact hg.1.1.2
  have ho' : (q.session m.session).own + 1 < 0xFFFFFFFF := by rw [hs, State.taken_session]; exact ho
  have hr' : (q.session m.session).transport = .svc → (q.upd.svc.filter fun y => decide (q.now < y)).length < 4 := by
    rw [hs, State.taken_session, hn, hq]; exact hv
  refine ⟨_, State.run_live s t _ hl, ?_, rfl⟩
  rw [State.request_fresh h]
  obtain ⟨l, f, n, h1, h2, e⟩ := State.answer_kept q m.session op r ho' hr'
  simp only [State.execute, hf, hx, Bool.not_true, Bool.false_eq_true, if_false, List.foldl_nil, e]
  refine ⟨?_, rfl, rfl, rfl, rfl, rfl, rfl, rfl, rfl, rfl, rfl, h1, ?_, rfl, rfl, rfl, rfl, rfl, rfl, rfl, ?_⟩
  · simp [State.session, State.fixed]
  · intro hm
    refine h2 ?_
    rw [hs, State.taken_session]
    exact hm
  · simp [State.fixed, hs]

/-- The write of one object that passes its checks: its element runs, and the reply carries its status. -/
theorem State.write_runs {r : ObjRow} {i j c : Nat} {v : WVal} {e : Extra} {held : Bool} {after : List After}
    (h : (s.taken t m).writeElem m.session m.transport (r.base + r.stride * i) (r.s0 + j) v e =
      { s := q, status := c, held := held, after := after }) (hj : r.s0 + j < 256) :
    (s.taken t m).write { m with index := r.base + r.stride * i, sub := r.s0 + j, count := 1 } [v] e =
      { s := q, r := writeReply c, held := held, after := after } := by
  have hlen : ¬ 256 < r.s0 + j + 1 := by omega
  have hw : worst [c] = c := by by_cases h0 : c = st.OK <;> simp [worst, h0]
  simp [State.write, hlen, State.writeAll, h, hw, writeReply]

/-- A number written to an object that passes its checks, where no save can fall due. -/
theorem State.writeElem_num {r : ObjRow} {i j : Nat} {v : Int} {e : Extra} (h : s.Writes t m r i j (.num v))
    (ha : r.acc ≠ .rw) (hd : r ≠ Obj.PERSIST_DEFAULTS) :
    (s.taken t m).writeElem m.session m.transport (r.base + r.stride * i) (r.s0 + j) (.num v) e =
      (s.taken t m).writeNum m.session m.transport r i j v e := by
  simp [State.writeElem, h.2.1, h.2.2, ha, hd]

/-- A window written to an object that passes its checks, where no save can fall due. -/
theorem State.writeElem_window {r : ObjRow} {i j off : Nat} {b : List Byte} {e : Extra}
    (h : s.Writes t m r i j (.window off b)) (ha : r.acc ≠ .rw) (hd : r ≠ Obj.PERSIST_DEFAULTS) :
    (s.taken t m).writeElem m.session m.transport (r.base + r.stride * i) (r.s0 + j) (.window off b) e =
      (s.taken t m).writeWindow m.session m.transport r i j off b := by
  simp [State.writeElem, h.2.1, h.2.2, ha, hd]

/-- The command of one object: where its write answers at once and leaves the session as it found it, the next state is the
write's, answered. -/
theorem State.writeObj_answers {r : ObjRow} {i j c : Nat} {v : WVal} {e : Extra} (h : s.Writes t m r i j v)
    (hj : r.s0 + j < 256)
    (he : (s.taken t m).writeElem m.session m.transport (r.base + r.stride * i) (r.s0 + j) v e = { s := q, status := c })
    (hs : q.session m.session = (s.taken t m).session m.session) (hn : q.now = max s.now t)
    (hq : q.upd.svc = s.upd.svc) :
    ∃ u, s.run t (State.writeObj m r i j v e) = .next u ∧ State.Answers u q m 0x11 (writeReply c) ∧ u.role = s.role := by
  unfold State.writeObj State.writeMsg
  exact State.answers_of_run (m := { m with index := r.base + r.stride * i, sub := r.s0 + j, count := 1 }) h.1
    (State.write_runs he hj) hs hn hq

end Sys2Proof.Machine
end

