-- ==== Sys2Proof/Tests/Slice0.lean ====
section
/-! SUPPORT. The model's own tests: commands on small states, terms that WellFormed refuses, and for every statement of
Obligations.lean with hypotheses the states and operands that meet them, clause by clause. -/

namespace Sys2Proof.Tests

set_option Elab.async false

open Sys2Proof Sys2Proof.Machine

/-! ### Small states and operands -/

/-- An open session of a role, at epoch 7. -/
def sess (r : SessRole) : Session := { st := 2, role := r, transport := .svc, epoch := 7 }

/-- A device that runs its configuration, with session 2 of an Integrator and session 3 of a Vendor. -/
def dev (role : DevRole) : State :=
  let s : State := { State.reset with role := role, sys := { State.reset.sys with
    phase := .running, porstLow := false, configAt := some 0, dataPlane := true } }
  (((s.wr Obj.DEV_PAIR_M_STATE 0).wr Obj.DEV_PAIR_C_STATE 0).setSession 2 (sess .integrator)).setSession 3 (sess .vendor)

def tileDev : State := dev .tile
def senderDev : State := dev .sender

/-- A tile whose address is 128 and whose A port is 0. -/
def tileAt : State := (tileDev.wr Obj.TILE_ADDRESS 128).wr Obj.TILE_A_PORT 0

/-- A sender whose chimney 7 uses ports 14 and 15 and maps tile 128 alone. -/
def chimDev : State :=
  (((senderDev.wrAt Obj.CHIM_PORT_A 0 7 14).wrAt Obj.CHIM_PORT_B 0 7 15).wrAt Obj.WALL_CHIM_TILES 0 7 128).wrAt
    Obj.WALL_TILE_MAP 7 127 268697856

/-- A device in reset with given causes. -/
def held (porst rail : Bool) : State :=
  { State.reset with sys := { State.reset.sys with porstLow := porst, railLow := rail } }

def pon : PowerOn := { roleSel := .low, straps := 0, failing := [], channels := [some (2 ^ 30), none] }

/-- A message of session 2 over the service port. -/
def msg : Msg := { transport := .svc, version := 1, route := .device, session := 2, epoch := 7, seq := 1, flags := 0,
                   index := 0, sub := 0, count := 1, tagOk := true }
def vend : Msg := { msg with session := 3 }
def flueMsg : Msg := { msg with transport := .flue }
/-- The address of element `j` of instance `i` of an object. -/
def ask (m : Msg) (r : ObjRow) (i j : Nat) : Msg := { m with index := r.base + r.stride * i, sub := r.s0 + j }

def withSys (s : State) (f : Sys → Sys) : State := { s with sys := f s.sys }
def withSess (s : State) (f : Sess → Sess) : State := { s with sess := f s.sess }
def withFlt (s : State) (f : Flt → Flt) : State := { s with flt := f s.flt }
def withNv (s : State) (f : Nv → Nv) : State := { s with nv := f s.nv }
def withUpd (s : State) (f : Upd → Upd) : State := { s with upd := f s.upd }
def withVideo (s : State) (f : Video → Video) : State := { s with video := f s.video }
def withFlue (s : State) (f : Flue → Flue) : State := { s with flue := f s.flue }
def withPaths (s : State) (f : Paths → Paths) : State := withFlue s fun x => { x with paths := f x.paths }
def withTime (s : State) (f : Time → Time) : State := { s with time := f s.time }
def withPtp (s : State) (f : Ptp → Ptp) : State := withTime s fun x => { x with ptp := f x.ptp }
def withLamp (s : State) (f : LampSt → LampSt) : State := { s with lamp := f s.lamp }
def withSeq (s : State) (f : Scan → Scan) : State := { s with seq := f s.seq }
def withPower (s : State) (f : Power → Power) : State := { s with power := f s.power }
def withMods (s : State) (f : Mods → Mods) : State := { s with mods := f s.mods }
def withCal (s : State) (f : Cal → Cal) : State := withMods s fun x => { x with cal := f x.cal }

def aWall : WallCommit := ⟨9, 2, 128, 4, 3, true, [(7, 128)], [], []⟩
def aStatus : StatusPkt := ⟨128, 1, false, 5, 1, 0, 0, 1, true, false⟩
def aFrame : RxFrame := { k := 256, closeAt := 90000 }

/-- A sender whose slot 7 takes port 0, streaming 16 x 16 pixels of 4:4:4 at 8 bits into buffer 3. -/
def ingDev (x : IngSlot) : State :=
  (((((senderDev.wrAt Obj.ING_PORT 7 0 0).wrAt Obj.ING_WIDTH 7 0 16).wrAt Obj.ING_HEIGHT 7 0 16).wrAt Obj.ING_SAMPLING 7 0 2).wrAt
    Obj.ING_DEPTH 7 0 0).setSlot 7 x
def fmt16 : PlaneFormat := ⟨16, 16, 2, 0, false⟩
def stream : IngSlot := { streaming := true, opened := some 3 }
def hdr : IngHdr := ⟨0, 1, 1, 64, 0, 3, 0, 0, 0, false⟩
def aHeld : HeldData := ⟨1, 3, 0, 0, 0, 0, [1]⟩
def aWait : PubWait := ⟨0, 1, 3, 0, 5⟩
def withHearth (s : State) (f : Hearth → Hearth) : State := withVideo s fun x => { x with hearth := f x.hearth }
def rxIdle : RxProgress := ⟨false, false, 0, false, 0, [], []⟩
/-- A training block with its check byte. -/
def block (v : Nat) : Nat := v * 256 + trainingCrc (v * 256)
def aSeg : CtrlSeg := ⟨0, 128, false, 1, 0, true, [1, 2], true⟩
def aPkt : OutPkt := { cls := 6, blocks := 3, dst := 1, at_ := 0, typ := 0x48, words := [] }
/-- The wall clock stands at `w` (2^-18 ns) now. -/
def clockAt (s : State) (w : Nat) : State := { s with clock := { base := w * 2 ^ 28 } }
def ann (m : Nat) : PtpAnnounce := ⟨0, m, 128, 6, 0, 0, 128, 0, 37, 0⟩
def sync1 : PtpSync := ⟨0, 9, 1, true, 0, 0, 0⟩
def ptpDev (p : Ptp) : State := withPtp (senderDev.wr Obj.TIME_SOURCE 1) fun _ => p
def frefDev (f : Time → Time) : State := withTime (senderDev.wr Obj.TIME_SOURCE 2) f
def sch : Schedule := ⟨0, 0, 8⟩
def tpkt : TimePkt := ⟨0, false, 1, 127, 0, 0, 0⟩
def anc : AnchorPkt := ⟨3, 8, 128, 0, true, true, 0⟩
def anEntry : AshEntry := ⟨0, 0, 0, false, 0x40, false, true, false, true, false, true, 0, 128, 1, 0, 0⟩
def aReport : Report := { entry := anEntry, at_ := 0 }
/-- A sender with a still image of 16 x 16 on layer 14. -/
def still14 (x : Still) : State :=
  ((senderDev.wrAt Obj.LAYER_STILL_WIDTH 14 0 16).wrAt Obj.LAYER_STILL_HEIGHT 14 0 16).setStill 14 x
/-- A sender with a Hearth image of 16 x 16 and a Safety session 2. -/
def hearthDev : State :=
  ((((senderDev.wr Obj.HEARTH_WIDTH 16).wr Obj.HEARTH_HEIGHT 16).setShAt Obj.HEARTH_WIDTH 0 0 16).setShAt Obj.HEARTH_HEIGHT 0 0 16).setSession 2
    (sess .safety)
def aLatch : Latch := { frame := 3, at_ := 0, ceil := [], grants := [], tileGrant := 0, gseq := 0, conf := [] }
def noRes : LampRes := ⟨[], [], [], [], 0⟩
def aJob : LampJob := ⟨aLatch, 0, [], noRes, none, false, false⟩
def aSet : TempSet := ⟨200, [], [], [], []⟩
def modDev (m : Module) : State := (tileAt.wr Obj.MOD_ENABLE 32768).setModule 15 m
/-- The package of serial 5: three lamps, 16 x 16 pixels, 100 rated hours; its sets read as zeros. -/
def pkg0 : List Byte := [0x58, 0x50, 0x4B, 0x31, 0, 1, 3, 0, 0, 0, 0, 0, 0, 0, 0, 5, 0, 16, 0, 16, 0, 0, 0, 100]
def found0 : ModuleFound := ⟨true, true, true, 5, 77, pkg0, []⟩
/-- A tile whose module 15 is bound: 16 x 16 pixels. -/
def boundDev : State := modDev { found := some found0, bound := true, polled := true, serial := 5, digest := 77, sets := [aSet] }
/-- A cell as its sender shapes it (R259). -/
def sampled (l : List Cell) : List CellSample := l.map fun c => ⟨decide (2 ≤ c.highTicks), decide (3 ≤ c.highTicks)⟩
def aReturn : StrandReturn := ⟨sampled (symbolCells 1 60 (frameHeader 5 0 3 448 1)), 100⟩
def aPowerReport : PowerReport := ⟨1, 1, 100, 0, 200, 0⟩
def s0Msg : Msg := { flueMsg with session := 0 }
def s0Dev : State := tileAt.setSession 0 (sess .integrator)
def aCert : Cert := ⟨true, [.vendor], 5, 6, true, true, true, 1, 99⟩
def anOpen : OpenMsg := ⟨.svc, 1, .device, true, aCert, true, 1, false⟩
def ev1 : FEvent := ⟨0x40, 1, 2, 0, 0, false⟩
def aFrame0 : SvcFrame := ⟨0, 2, [1, 2], crc32 [0, 0, 0, 2, 1, 2]⟩
def aStore : Store := ⟨1, none, .boot [(0, 0, 0), (0, 0, 0), (0, 0, 0)]⟩
/-- A run open for module 15, bound, by session 2. -/
def calOpened : State := withCal (boundDev.wr Obj.CAL_STATE 1) fun x => { x with opener := some (2, 7), module := 15 }
def opOpen : OpenMsg := { anOpen with cert := { aCert with roles := [.operator], issuer := 5 } }
def claimOpen : OpenMsg := { anOpen with cert := { aCert with roles := [.integrator], issuer := 6 } }
/-- A tile whose 63 client slots are all open. -/
def fullDev : State := withSess (tileDev.setAnchor Obj.SEC_CLIENT_ANCHOR 1 (List.replicate 96 0 ++ [5])) fun x =>
  { x with slots := (List.range 64).map fun k => (k, sess .operator) }
def twinDev : State := ((modDev {}).wr Obj.TILE_LAMPS 3).setModule 14 { bound := true, serial := 5 }
def alarmDev : State := withFlt (tileAt.setSide false 0x40 { state := 2, acts := true }) fun x =>
  { x with lastAlarm := [(0x40, anEntry)] }
def litDev : State := withMods (withPaths (withTime (tileAt.wr Obj.TIME_STATE 3) fun x => { x with sched := some sch }) fun x =>
  { x with aAddr := some 128, aOn := true }) fun x => { x with lineSeen := true }

def aLine8 : LinePkt := ⟨128, 0, 1, 0, false, [(0, 7)], true, List.replicate 8 (1, 2, 3), true⟩
/-- Its copy as it arrives. -/
def aCopy : LineCopy := ⟨lineWords aLine8, true⟩
def aSlot (v : Nat) : Nat := block (0xD2 * 2 ^ 48 + v)

def aLateSeq (s : State) : State := withSeq (s.wr Obj.TILE_STATE 2) fun x => { x with boundary := some 5 }

/-! ### WellFormed: each command of these lists is well formed, or breaks exactly one check -/

def aLinkFrame : LinkFrame := ⟨List.replicate 4 (List.replicate 8 ⟨true, false, 0⟩), [], 0, []⟩

theorem test_wf_accepts_1 : ([.porstRelease 0 pon, .brownOutRecover 0 pon, .pllRelockTimeout 0 .core pon, .bootReset 0 msg pon,
    .pairMRestart 0 msg, .pairCRestart 0 msg, .engineUe 0 1, .engineHealthCheck 0 1 true, .engineCorrectedError 0 1 1,
    .devEngRetiredClear 0 msg, .arbiterGrant 0 .ws [], .close 0 msg, .keepalive 0 msg, .read 0 msg none,
    .write 0 msg [], .describe 0 msg, .commit 0 msg 1 1 1 1, .commitGo 0 msg, .arm 0 msg 1 1 1 1,
    .armReply 0 1 1 1 true, .abort 0 msg 1, .commitDivergenceTimeout 0 1 1, .lock 0 msg 1, .unlock 0 msg 1,
    .lockAcquire 0 msg 1, .lockRelease 0 msg 1, .lockClearSuspect 0 msg 1, .sessionTimeout 0 1, .persistSave 0 msg,
    .persistDefaults 0 msg 1, .flashStoreDone 0 .boot true true, .setup 0 hdr fmt16, .frameReq 0 hdr, .data 0 hdr [],
    .ingestCreditTimer 0 1, .publish 0 hdr 1, .publishCheck 0 1, .sourceStaleTimeout 0 1,
    .layerStillData 0 msg 1 1 [], .layerStillPublish 0 msg 1, .compositorDeadlineMiss 0 1, .layerFetchError 0 1 1 1 1,
    .hearthImage 0 msg 1 [], .hearthSizeWrite 0 msg true 1, .chimneyBringUp 0 1, .assign 0 1 1 true 1,
    .assignReturn 0 1 1 true, .assignPeriodic 0 1, .ringCloseTimeout 0 1, .phaseTrackStep 0 1 1 0,
    .clockLaneLoss 0 1 [], .fwdClockReturn 0 1 [], .trainingBlock 0 1 [] rxIdle, .trainingStageLimit 0 1,
    .trainingRetry 0 1, .linkFramesStart 0 1, .blockLockGained 0 1 1, .blockLockLost 0 1 ⟨1, 0⟩, .wakeTimeout 0 1,
    .eyeMeasurementDone 0 1 1 1] : List Instr).all Instr.wf = true := by decide +kernel

theorem test_wf_accepts_2 : ([.eyeMeasureTimeout 0 1 1, .phyRetrainInFrame 0 msg 1, .phyRetrainOpen 0 msg 1, .phyLoop 0 msg 1 1,
    .phyTestPattern 0 msg 1 1, .linkFrame 0 1 aLinkFrame, .linkAlignAcquired 0 1, .linkAlignLost 0 1, .ctrl 0 1 aSeg,
    .ctrlReassemblyTimeout 0 1 true 1, .credit 0 1 1 1 1 1 1 1 1, .insertionGap 0 1, .allowanceTick 0 1,
    .ownPacketInsert 0 1 1 true, .ctrlForwardSend 0 1, .line 0 1 ⟨[0], true⟩, .pathForce 0 msg 1, .status 0 1 aStatus,
    .reachTimeout 0 1 1, .firstStatusTimeout 0 1 1, .timeStep 0 msg 0, .timePtpRestep 0 msg, .timeRealign 0 msg,
    .syncInterval 0 1, .delayReq 0 1 tpkt, .anchorInterval 0 1, .sync 0 1 tpkt, .delayResp 0 1 tpkt, .anchor 0 1 anc,
    .tpoEdge 0 1, .workingSetBuildStart 0 1, .workingSetBuildDone 0 1, .workingSetAgeTimeout 0 1,
    .storedSetError 0 1 1, .strandFrameReturn 0 1 aReturn, .breakSym 0 1 [], .strandReturnTimeout 0 1, .strEnum 0 msg,
    .enumReturn 0 1 [], .strDrvRead 0 msg, .strDrvWrite 0 msg, .cmdReturn 0 1 [], .driverCmdTimeout 0 1,
    .scanOpenClearEntry 0 msg 1, .scanOpenClearAll 0 msg, .loopSample 0 1, .damperStagingWrite 0 1, .loopSwap 0 msg 1,
    .powerGrant 0 msg 1 1 [], .powerReport 0 msg 1 1 aPowerReport, .powerReportMissing 0 1 1, .calOpen 0 msg,
    .calRun 0 msg, .calAbort 0 msg, .calPatternShow 0 msg 1, .calPatternEnd 0 msg, .calMeasClear 0 msg,
    .calMeasData 0 msg 1 1 [], .calBulkData 0 msg 1 [], .calFieldRevert 0 msg 1] : List Instr).all Instr.wf = true := by decide +kernel

theorem test_wf_accepts_3 : ([.calLinkRun 0 msg 1, .linkRunEnd 0 1, .linkRunAutoStart 0 1, .calLinkClear 0 msg 1, .calTrimRun 0 msg,
    .anchorWrite 0 msg .client 1 [], .secFwRevoke 0 msg 1, .modulePoll 0 1 none, .modServiceEnter 0 msg 1,
    .modServiceLeave 0 msg 1, .moduleTempStale 0 1, .faultQuietExpiry 0 1, .fltClearSource 0 msg 1,
    .fltClearAll 0 msg, .fltInject 0 msg 1, .fltInjectClear 0 msg, .fault 0 1 1 1, .wallAlarmTimeout 0 1 1,
    .svcFrame 0 aFrame0, .bootReleaseM 0 msg, .updBegin 0 msg, .updImage 0 msg 1 [], .updVerify 0 msg [],
    .updActivate 0 msg 1 1, .updFallback 0 msg, .trimPwmPeriod 0 1, .tpoPulseEnd 0 1, .openMsg 0 anOpen, .bulk 0 ⟨1, true⟩ 1 [],
    .modulePoll 0 1 (some found0), .arbiterGrant 0 .ws [⟨1, 0, 4096, none⟩]] : List Instr).all Instr.wf = true := by decide +kernel

theorem test_wf_refuses_1 : ([.porstRelease 0 { pon with straps := 16 }, .brownOutRecover 0 { pon with straps := 16 },
    .pllRelockTimeout 0 .core { pon with straps := 16 }, .bootReset 0 { msg with version := 256 } pon,
    .bootReset 0 msg { pon with straps := 16 }, .pairMRestart 0 { msg with version := 256 },
    .pairCRestart 0 { msg with version := 256 }, .engineUe 0 544, .engineHealthCheck 0 544 true,
    .engineCorrectedError 0 544 1, .devEngRetiredClear 0 { msg with version := 256 }, .arbiterGrant 0 (.mem 8) [],
    .arbiterGrant 0 (.egress 16) [], .close 0 { msg with version := 256 }, .keepalive 0 { msg with version := 256 },
    .read 0 { msg with version := 256 } none, .write 0 { msg with version := 256 } [],
    .describe 0 { msg with version := 256 }, .commit 0 { msg with version := 256 } 1 1 1 1,
    .commit 0 msg (2 ^ 32) 1 1 1, .commit 0 msg 1 256 1 1, .commit 0 msg 1 1 256 1,
    .commitGo 0 { msg with version := 256 }, .arm 0 { msg with version := 256 } 1 1 1 1, .arm 0 msg (2 ^ 32) 1 1 1,
    .arm 0 msg 1 (2 ^ 32) 1 1, .arm 0 msg 1 1 1 (2 ^ 32), .armReply 0 8 1 1 true, .armReply 0 1 129 1 true,
    .armReply 0 1 0 1 true, .armReply 0 1 1 (2 ^ 32) true, .abort 0 { msg with version := 256 } 1,
    .abort 0 msg (2 ^ 32), .commitDivergenceTimeout 0 8 1, .commitDivergenceTimeout 0 1 129,
    .commitDivergenceTimeout 0 1 0, .lock 0 { msg with version := 256 } 1, .lock 0 msg 256,
    .unlock 0 { msg with version := 256 } 1, .unlock 0 msg 256, .lockAcquire 0 { msg with version := 256 } 1,
    .lockAcquire 0 msg 256, .lockRelease 0 { msg with version := 256 } 1, .lockRelease 0 msg 256,
    .lockClearSuspect 0 { msg with version := 256 } 1, .lockClearSuspect 0 msg 256, .sessionTimeout 0 64,
    .persistSave 0 { msg with version := 256 }, .persistDefaults 0 { msg with version := 256 } 1,
    .flashStoreDone 0 (.module 16) true true, .setup 0 { hdr with buf := 8 } fmt16, .frameReq 0 { hdr with buf := 8 },
    .data 0 { hdr with buf := 8 } [], .ingestCreditTimer 0 8, .publish 0 { hdr with buf := 8 } 1, .publishCheck 0 8,
    .sourceStaleTimeout 0 8, .layerStillData 0 { msg with version := 256 } 1 1 [], .layerStillData 0 msg 15 1 [],
    .layerStillPublish 0 { msg with version := 256 } 1] : List Instr).any Instr.wf = false := by decide +kernel

theorem test_wf_refuses_2 : ([.layerStillPublish 0 msg 15, .compositorDeadlineMiss 0 8, .layerFetchError 0 15 1 1 1,
    .hearthImage 0 { msg with version := 256 } 1 [], .hearthSizeWrite 0 { msg with version := 256 } true 1,
    .chimneyBringUp 0 8, .assign 0 16 1 true 1, .assignReturn 0 8 1 true, .assignPeriodic 0 8, .ringCloseTimeout 0 8,
    .phaseTrackStep 0 16 1 0, .phaseTrackStep 0 1 4 0, .clockLaneLoss 0 16 [], .fwdClockReturn 0 16 [],
    .trainingBlock 0 16 [] rxIdle, .trainingStageLimit 0 16, .trainingRetry 0 16, .linkFramesStart 0 16,
    .blockLockGained 0 16 1, .blockLockGained 0 1 4, .blockLockLost 0 16 ⟨1, 0⟩, .blockLockLost 0 1 ⟨4, 0⟩, .blockLockLost 0 1 ⟨1, 2 ^ 32⟩, .wakeTimeout 0 16,
    .eyeMeasurementDone 0 16 1 1, .eyeMeasurementDone 0 1 4 1, .eyeMeasureTimeout 0 16 1, .eyeMeasureTimeout 0 1 4,
    .phyRetrainInFrame 0 { msg with version := 256 } 1, .phyRetrainInFrame 0 msg 16,
    .phyRetrainOpen 0 { msg with version := 256 } 1, .phyRetrainOpen 0 msg 16,
    .phyLoop 0 { msg with version := 256 } 1 1, .phyLoop 0 msg 16 1,
    .phyTestPattern 0 { msg with version := 256 } 1 1, .phyTestPattern 0 msg 16 1, .linkFrame 0 16 aLinkFrame,
    .linkFrame 0 1 { aLinkFrame with lanes := [] }, .linkFrame 0 1 { aLinkFrame with slip := 32 },
    .linkFrame 0 1 { aLinkFrame with lanes := List.replicate 4 [] },
    .linkFrame 0 1 { aLinkFrame with lanes := List.replicate 4 (List.replicate 8 ⟨true, false, 2 ^ 64⟩) }, .linkAlignAcquired 0 16, .linkAlignLost 0 16, .ctrl 0 16 aSeg,
    .ctrl 0 1 { aSeg with src := 256 }, .ctrl 0 1 { aSeg with dst := 256 }, .ctrl 0 1 { aSeg with msgId := 65536 },
    .ctrlReassemblyTimeout 0 256 true 1, .credit 0 8 1 1 1 1 1 1 1, .credit 0 1 129 1 1 1 1 1 1,
    .credit 0 1 0 1 1 1 1 1 1, .insertionGap 0 16, .allowanceTick 0 16, .ownPacketInsert 0 16 1 true,
    .ctrlForwardSend 0 8, .line 0 16 ⟨[0], true⟩, .line 0 1 ⟨[], true⟩,
    .line 0 1 ⟨[2 ^ 64], true⟩, .pathForce 0 { msg with version := 256 } 1, .status 0 8 aStatus,
    .status 0 1 { aStatus with src := 256 }, .reachTimeout 0 8 1, .reachTimeout 0 1 129, .reachTimeout 0 1 0] : List Instr).any Instr.wf = false := by decide +kernel

theorem test_wf_refuses_3 : ([.firstStatusTimeout 0 8 1, .firstStatusTimeout 0 1 129, .firstStatusTimeout 0 1 0,
    .timeStep 0 { msg with version := 256 } 0, .timePtpRestep 0 { msg with version := 256 },
    .timeRealign 0 { msg with version := 256 }, .syncInterval 0 16, .delayReq 0 16 tpkt, .anchorInterval 0 8,
    .sync 0 16 tpkt, .delayResp 0 16 tpkt, .anchor 0 16 anc, .tpoEdge 0 4, .workingSetBuildStart 0 16,
    .workingSetBuildDone 0 16, .workingSetAgeTimeout 0 16, .storedSetError 0 16 1, .strandFrameReturn 0 256 aReturn,
    .breakSym 0 256 [], .strandReturnTimeout 0 256, .strEnum 0 { msg with version := 256 }, .enumReturn 0 256 [],
    .strDrvRead 0 { msg with version := 256 }, .strDrvWrite 0 { msg with version := 256 }, .cmdReturn 0 256 [],
    .driverCmdTimeout 0 256, .scanOpenClearEntry 0 { msg with version := 256 } 1,
    .scanOpenClearAll 0 { msg with version := 256 }, .loopSample 0 32, .damperStagingWrite 0 8,
    .loopSwap 0 { msg with version := 256 } 1, .powerGrant 0 { msg with version := 256 } 1 1 [],
    .powerReport 0 { msg with version := 256 } 1 1 aPowerReport, .powerReport 0 msg 8 1 aPowerReport,
    .powerReport 0 msg 1 129 aPowerReport, .powerReport 0 msg 1 0 aPowerReport, .powerReportMissing 0 8 1,
    .powerReportMissing 0 1 129, .powerReportMissing 0 1 0, .calOpen 0 { msg with version := 256 },
    .calRun 0 { msg with version := 256 }, .calAbort 0 { msg with version := 256 },
    .calPatternShow 0 { msg with version := 256 } 1, .calPatternShow 0 msg 65536,
    .calPatternEnd 0 { msg with version := 256 }, .calMeasClear 0 { msg with version := 256 },
    .calMeasData 0 { msg with version := 256 } 1 1 [], .calMeasData 0 msg 33 1 [],
    .calBulkData 0 { msg with version := 256 } 1 [], .calFieldRevert 0 { msg with version := 256 } 1,
    .calLinkRun 0 { msg with version := 256 } 1, .calLinkRun 0 msg 16, .linkRunEnd 0 16, .linkRunAutoStart 0 16,
    .calLinkClear 0 { msg with version := 256 } 1, .calLinkClear 0 msg 16, .calTrimRun 0 { msg with version := 256 },
    .anchorWrite 0 { msg with version := 256 } .client 1 [], .secFwRevoke 0 { msg with version := 256 } 1,
    .modulePoll 0 16 none] : List Instr).any Instr.wf = false := by decide +kernel

theorem test_wf_refuses_4 : ([.modServiceEnter 0 { msg with version := 256 } 1, .modServiceEnter 0 msg 16,
    .modServiceLeave 0 { msg with version := 256 } 1, .modServiceLeave 0 msg 16, .moduleTempStale 0 16,
    .faultQuietExpiry 0 128, .fltClearSource 0 { msg with version := 256 } 1, .fltClearSource 0 msg 65536,
    .fltClearAll 0 { msg with version := 256 }, .fltInject 0 { msg with version := 256 } 1,
    .fltInjectClear 0 { msg with version := 256 }, .fault 0 8 1 1, .fault 0 1 256 1, .fault 0 1 1 (2 ^ 128),
    .wallAlarmTimeout 0 8 1, .wallAlarmTimeout 0 1 129, .wallAlarmTimeout 0 1 0,
    .svcFrame 0 { aFrame0 with hop := 65536 }, .svcFrame 0 { aFrame0 with len := 65536 },
    .bootReleaseM 0 { msg with version := 256 }, .updBegin 0 { msg with version := 256 },
    .updImage 0 { msg with version := 256 } 1 [], .updVerify 0 { msg with version := 256 } [],
    .updActivate 0 { msg with version := 256 } 1 1, .updFallback 0 { msg with version := 256 }, .trimPwmPeriod 0 8,
    .tpoPulseEnd 0 4, .openMsg 0 { anOpen with version := 256 }, .bulk 0 ⟨256, true⟩ 1 [], .bulk 0 ⟨1, true⟩ (2 ^ 25) [],
    .bulk 0 ⟨1, true⟩ 1 (List.replicate 57 0), .modulePoll 0 1 (some { found0 with certSerial := 2 ^ 64 }),
    .arbiterGrant 0 .ws [⟨8, 0, 0, none⟩], .arbiterGrant 0 .ws [⟨1, 0, 4097, none⟩], .ownPacketInsert 0 1 63 true,
    .porstRelease 0 { pon with channels := List.replicate 9 none }, .close 0 { msg with session := 256 }, .close 0 { msg with epoch := 65536 },
    .close 0 { msg with seq := 2 ^ 32 }, .close 0 { msg with flags := 65536 }, .close 0 { msg with index := 65536 },
    .close 0 { msg with sub := 256 }, .close 0 { msg with count := 256 }, .frameReq 0 { hdr with port := 16 },
    .frameReq 0 { hdr with version := 16 }, .frameReq 0 { hdr with len := 65536 },
    .frameReq 0 { hdr with seq := 2 ^ 32 }, .frameReq 0 { hdr with gen := 65536 },
    .frameReq 0 { hdr with plane := 4 }, .frameReq 0 { hdr with line := 8192 },
    .frameReq 0 { hdr with offset := 8192 }] : List Instr).any Instr.wf = false := by decide +kernel

/-! ### Worked examples and tables of the spec -/

/-- The state after a command. -/
def after (i : Instr) (s : State) : State :=
  match exec i s with
  | .next t => t
  | _ => s

def setAll (s : State) (l : List (ObjRow × Int)) : State := l.foldl (fun s p => s.wr p.1 p.2) s

/- Chapter 4, "a caption pixel under a Hearth sign". -/
theorem test_caption_input : toLinearInput 0 false 1 60160 32768 32768 = (2 ^ 24, 2 ^ 24, 2 ^ 24) := by decide +kernel
theorem test_caption_blend : blend1 49345 0 16777215 = 12632319 := by decide +kernel
theorem test_caption_encode : encodeLinear 12632319 = 51224 := by decide +kernel
theorem test_caption_expand : expandCode 51224 = 12632064 := by decide +kernel
theorem test_caption_post_lut : lutPost (fun i => i * 16) 12632319 = 51224 := by decide +kernel

/- Chapter 3, "a two-deep ring": Table 3-5 and the sizes before it. -/
def fmtRing : PlaneFormat := ⟨7680, 2160, 1, 1, false⟩
theorem test_ring_frame_bytes : packedSize fmtRing = 41472000 := by decide +kernel
theorem test_alpha_frame_bytes : packedSize ⟨3840, 2160, 2, 2, true⟩ = 45619200 := by decide +kernel
theorem test_ring_link_bytes : (onLink fmtRing, onLink ⟨3840, 2160, 2, 2, true⟩) = (41679360, 45861120) := by
  decide +kernel
/-- B1 published last, B0 of generation 7 before it: the request is granted B0 with GEN 8. -/
theorem test_two_deep_ring_grant :
    let t := after (.frameReq 0 hdr) ((ingDev { streaming := true, gens := [(0, 7), (1, 7)], order := [0, 1] }).wrAt
      Obj.ING_RING_DEPTH 7 0 2)
    ((t.slot 7).opened, (t.egress 0).queue.map fun k => (k.typ, k.words)) = (some 0, [(0x05, [0, 8, 1])]) := by decide +kernel

/- Chapter 5, "four full chimneys at 59.94 Hz, 1:32". -/
def show5 : View := (setAll State.reset [(Obj.WALL_RATE, 7), (Obj.WALL_SCAN, 3)]).rdAt
theorem test_chimney_avail : chimneyAvail show5 = 23438317 := by decide +kernel
theorem test_chimney_need :
    chimneyNeed ((senderDev.wrAt Obj.WALL_CHIM_TILES 0 0 1).wrAt Obj.WALL_TILE_MAP 0 0
      ((512 * 1024 + 512) * 4096 + 256)).rdAt 0 = 198144 := by decide +kernel
theorem test_compositor_avail : (compositorAvail show5 512, compositorAvail show5 506) = (125065000, 123599394) := by
  decide +kernel
theorem test_departure : departure 7 60416 0 = 8277 := by decide +kernel
theorem test_strand_load :
    (strandNeed show5 [64, 32], strandAvail show5, permille 73888 1436800) = (73888, 1436800, 51) := by decide +kernel
theorem test_turned_tile : (⟨2048, 0, 512, 512, 1, true⟩ : MapEntry).canvas 10 0 = (2559, 10) := by decide +kernel

/- Chapter 9, "asymmetry on one fibre" and "epoch grid at 59.94 Hz". -/
theorem test_one_fibre_delay : ({ sums := [ns18 623500 / 1000 + ns18 476500 / 1000] } : TimePath).delay = ns18 550 := by
  decide +kernel
theorem test_epoch_grid :
    gridAfter 7 0 (ns18 1699999999990000000) = ns18 1699999999998300000
      ∧ gridAfter 7 0 (ns18 1699999999998300001) = (ns18 1699999999998300000 * 3 + ns18 50050000) / 3 := by decide +kernel

/- Chapter 10, "a dark grey at 60 Hz, 1:32". -/
theorem test_grey_mode : (passes 8 3, widthUnit 8 3, wMax 8 3) = (448, 1, 44800) := by decide +kernel
theorem test_grey_matrix : stage2 [-655, 15729, 328] [5120, 5120, 5120] = (4813, false) := by decide +kernel
theorem test_grey_comp : (compTerm 393 3600, compTerm (-131) 3900) = (43, -16) := by decide +kernel
def greyLamp : LampPar :=
  { gn := 2 ^ 24 * (wFs 8 3).2, gd := (wFs 8 3).1, h := fun k => if k = 7 then 36635 else 32768, kap := -33, b := 3 }
theorem test_grey_width : greyLamp.width 7 3768 = 1171 := by decide +kernel
/-- The probe of chapter 12 with H[G][3] = 1.0521: 4.9 % of the lamp's light, 186.22. -/
theorem test_probe_light :
    let y := { greyLamp with h := fun _ => 34475 }.light 4 1 3
    roundAway (y.1 * 100) y.2 = 18622 := by decide +kernel
/-- 1,171 at step 7: LAMP_IFS 2,000 gives 2,342,000 charge units. -/
theorem test_code_demand : codeDemand (State.reset.wrAt Obj.LAMP_IFS 0 1 2000).rdAt 1 ⟨1171, 7, false⟩ = 2342000 := by
  decide +kernel

/- Chapter 11, "one strand at 60 Hz, 1:32", and the SCN edges of Table 12-5. -/
theorem test_last_cell : cellTime 73887 = 856950 := by decide +kernel
theorem test_scn_edges :
    (passVisits State.reset.rdAt 8 3 0 false).head?.map (fun v => (v.rise, v.fall)) =
      some (some (640000 - 10000), some (640000 + 1000000 + 10000)) := by decide +kernel
/- R261 to R263: an ENUM of 16 cells wanted at cell 90 of a visit waits for the next visit; a HALT leaves in the slot. -/
theorem test_places : freePlace 16629760 900 16 = 1160 ∧ freePlace 16629760 840 16 = 840 ∧ slotAfter 840 = 1000 := by decide
/- R259 and R261: what the tile sends is read back; an invalid cell fails the check. -/
theorem test_symbols : readSymbol 4 12 (sampled enumSymbol) = some (withComplement 1) ∧
    (readSymbol 4 12 (sampled (enumSymbol.take 15) ++ [⟨false, true⟩])).bind checkComplement = none ∧
    strandHeaderOk aReturn.cells = true := by decide +kernel

/- Chapter 13, "operator ramp against a warm zone" and "one feeder". -/
/-- 62.5 millionths of full scale an evaluation, in Q4.44. -/
theorem test_ramp_step : rampStep 32768 (1, 8000) 0 q44 = q44 - 1099511628 := by decide +kernel
def feeder3 : List ShareItem :=
  List.replicate 4 ⟨0, 0, 1400000, 1500000⟩ ++ List.replicate 5 ⟨0, 0, 300000, 1500000⟩ ++ [⟨0, 200000, 300000, 1500000⟩]
theorem test_feeder_shares :
    shareBudget 1 8700000 feeder3 = List.replicate 4 1400000 ++ List.replicate 6 516666 := by decide +kernel
theorem test_zone_shares : shareBudget 1 516666 [⟨0, 0, 150000, 1000000⟩, ⟨0, 0, 150000, 1000000⟩] = [258333, 258333] := by
  decide +kernel
/-- G_0 is about 1.18094 x 10^15 charge units. -/
theorem test_zone_grant :
    (((setAll tileDev [(Obj.WALL_RATE, 8), (Obj.WALL_SCAN, 3), (Obj.PWR_RAIL_EFF, 29491), (Obj.PWR_V_MARGIN, 0)]).setZone 0
      { vLast := 4200 }).wrAt Obj.ZONE_V_SCALE 0 0 4096 |>.grantUnits (8, 3) 0 258333).1 / 10 ^ 10 = 118094 := by decide +kernel

/- Chapter 2, "a wall-wide commit": COMMIT with target 0 at WFC 1,000,000 and lead 4 is for 1,000,004. -/
theorem test_commit_target :
    let t := after (.commit 0 msg 2 1 8 0) (setAll chimDev [(Obj.WFC, 1000000), (Obj.COMMIT_LEAD, 4)])
    t.sess.walls.map (·.target) = [1000004] := by decide +kernel

/- Chapter 7, "ARM under full picture load": 76 bytes travel as 2 segments. -/
theorem test_arm_segments : segments 76 = 2 := by decide +kernel

/- The CRC-32 of the Ethernet polynomial, reflected, of the nine digits (its published check value). -/
theorem test_crc32 : crc32 [0x31, 0x32, 0x33, 0x34, 0x35, 0x36, 0x37, 0x38, 0x39] = 0xCBF43926 := by decide +kernel

/- R9: a boundary adds 1 to WFC. -/
theorem test_boundary_counts :
    (after (.frameBoundary 30000000) (withTime ((tileDev.wr Obj.WFC 5).wr Obj.TILE_HEIGHT 2) fun x => { x with sched := some ⟨5, 0, 8⟩ })).nat
      Obj.WFC = 6 := by decide +kernel

/- R52: a wall-wide COMMIT under way at the sender, and one that a tile refuses. -/
theorem test_tile_has_no_wall : (after (.commit 0 msg 2 1 0 0) tileDev).sess.walls = [] := by decide +kernel

/-! ### Witnesses: one theorem per statement, one part per case; a part meets every hypothesis of the clauses it is for -/

theorem test_witness_StepRunsFrontCommand :
    (let s : State := tileDev
     s.pending = []) := by
  · ((try dsimp only [State.Writes, State.Fresh, State.Powered]); decide +kernel)

theorem test_witness_EveryCommandAnswers :
    (let c : Instr := .keepalive 5 msg
     let s : State := held true false
     let u : State := { held true false with now := 5 }
     exec c s = .next u ∧
     (∀ t p, c ≠ .porstRelease t p ∧ c ≠ .brownOutRecover t p)) := by
  · exact ⟨by rfl, by exact fun t p => ⟨nofun, nofun⟩⟩

theorem test_witness_PowerLossResets :
    (let c : Instr := .keepalive 5 msg
     let s : State := held true false
     s.live = false ∧
     (∀ t p, c ≠ .porstAssert t ∧ c ≠ .porstRelease t p ∧ c ≠ .brownOutRecover t p ∧ (∀ io, c ≠ .brownOut t io) ∧ ∀ k, c ≠ .jtagInstruction t k)) ∧
    (let s : State := tileDev
     let t : Cyc := 5
     let c : Instr := .brownOut 5 true
     let io : Bool := true
     (c = .porstAssert t ∧ io = s.sys.ioLow ∨ ∃ r, c = .brownOut t r ∧ io = (r || s.sys.ioLow))) := by
  refine ⟨?_, ?_⟩
  · exact ⟨by ((try dsimp only [State.Writes, State.Fresh, State.Powered]); decide +kernel), by exact fun t p => ⟨nofun, nofun, nofun, nofun, nofun⟩⟩
  · exact Or.inr ⟨true, rfl, rfl⟩

theorem test_witness_EveryStepKeepsPowered :
    (let s : State := { tileDev with pending := [.configLoadDone 5] }
     let u : State := { tileDev with now := 5 }
     s.Powered ∧
     step s = .next u) := by
  · exact ⟨by ((try dsimp only [State.Writes, State.Fresh, State.Powered]); decide +kernel), by rfl⟩

theorem test_witness_ObjectAddressesAreUnique :
    (let r : ObjRow := Obj.SEC_CLIENT_ANCHOR
     r ∈ objTable ∧
     let i : Nat := 0
     let j : Nat := 1
     i < r.ni ∧
     j < r.ns) := by
  · ((try dsimp only [State.Writes, State.Fresh, State.Powered]); decide +kernel)

theorem test_witness_StartsAndBootResets :
    (let s : State := held true false
     let p : PowerOn := pon
     s.live = false ∧
     p.testEn = false ∧
     s.sys.railLow = false ∧
     (s.sys.porstLow = true ∨ p.testEn = true) ∧
     s.sys.ioLow = false) ∧
    (let s : State := held false true
     let p : PowerOn := pon
     s.live = false ∧
     p.testEn = false ∧
     s.sys.porstLow = false ∧
     (s.sys.railLow = true ∨ p.testEn = true)) ∧
    (let s : State := withSys (held true true) (fun x => { x with ioLow := true })
     s.live = false ∧
     s.sys.porstLow = true ∧
     s.sys.ioLow = true) ∧
    (let s : State := tileDev
     let t : Cyc := 5
     let m : Msg := vend
     s.Writes t m Obj.BOOT_RESET 0 0 (.num 1)) := by
  refine ⟨?_, ?_, ?_, ?_⟩
  · ((try dsimp only [State.Writes, State.Fresh, State.Powered]) <;> decide +kernel)
  · ((try dsimp only [State.Writes, State.Fresh, State.Powered]) <;> decide +kernel)
  · ((try dsimp only [State.Writes, State.Fresh, State.Powered]) <;> decide +kernel)
  · ((try dsimp only [State.Writes, State.Fresh, State.Powered]) <;> decide +kernel)

theorem test_witness_PllLossIsReportedThenResets :
    (let s : State := tileDev
     let pll : Pll := .core
     s.live = true ∧
     (∀ (x : Pll × Cyc), x ∈ s.sys.pllLost → x.fst ≠ pll) ∧
     ¬(s.isSender = true ∧ pll = Pll.strd)) ∧
    (let s : State := withSys tileDev fun x => { x with pllLost := [(.core, 0)] }
     let pll : Pll := .core
     let t : Cyc := 0
     let t0 : Cyc := 0
     s.live = true ∧
     (∃ x, x ∈ s.sys.pllLost ∧ x.fst = pll) ∧
     (List.find? (fun x => x.fst == pll) s.sys.pllLost = some (pll, t0)) ∧
     max s.now t < t0 + ms 10) ∧
    (let s : State := withSys tileDev fun x => { x with pllLost := [(.time, 0)] }
     let t : Cyc := 15000000
     let t0 : Cyc := 0
     let pll : Pll := .time
     s.live = true ∧
     (List.find? (fun x => x.fst == pll) s.sys.pllLost = some (pll, t0)) ∧
     t0 + ms 10 ≤ max s.now t) := by
  refine ⟨?_, ?_, ?_⟩
  · ((try dsimp only [State.Writes, State.Fresh, State.Powered]) <;> decide +kernel)
  · ((try dsimp only [State.Writes, State.Fresh, State.Powered]) <;> decide +kernel)
  · ((try dsimp only [State.Writes, State.Fresh, State.Powered]) <;> decide +kernel)

theorem test_witness_PairsRestartAndResume :
    (let s : State := tileDev
     let t : Cyc := 5
     let c : Instr := .lockstepMismatch 5 .m
     s.live = true ∧
     s.sys.phase = Phase.running ∧
     s.nat Obj.DEV_PAIR_M_STATE ≠ 2 ∧
     s.activating = false ∧
     (c = Instr.lockstepMismatch t Pair.m ∨ c = Instr.pairWatchdogExpiry t Pair.m ∨ c = Instr.pairMemoryUe t Pair.m ∨ ∃ m, c = Instr.pairMRestart t m ∧ s.Writes t m Obj.DEV_PAIR_RESTART 0 0 (.num 1))) ∧
    (let s : State := tileDev
     let t : Cyc := 5
     let c : Instr := .pairMemoryUe 5 .c
     s.live = true ∧
     s.nat Obj.DEV_PAIR_C_STATE ≠ 2 ∧
     s.activating = false ∧
     (c = Instr.lockstepMismatch t Pair.c ∨ c = Instr.pairWatchdogExpiry t Pair.c ∨ c = Instr.pairMemoryUe t Pair.c ∨ ∃ m, c = Instr.pairCRestart t m ∧ s.Writes t m Obj.DEV_PAIR_RESTART 0 0 (.num 2))) ∧
    (let s : State := tileDev.wr Obj.DEV_PAIR_C_STATE 1
     s.live = true ∧
     s.nat Obj.UPD_STATE ≠ 3 ∧
     s.nat Obj.DEV_PAIR_C_STATE = 1) ∧
    (let s : State := tileDev.wr Obj.DEV_PAIR_M_STATE 1
     s.live = true ∧
     s.nat Obj.UPD_STATE ≠ 3 ∧
     s.sys.phase = Phase.running ∧
     s.nat Obj.DEV_PAIR_M_STATE = 1 ∧
     s.sys.loading = false) := by
  refine ⟨?_, ?_, ?_, ?_⟩
  · exact ⟨by decide +kernel, by decide +kernel, by decide +kernel, by decide +kernel, .inl rfl⟩
  · exact ⟨by decide +kernel, by decide +kernel, by decide +kernel, .inr (.inr (.inl rfl))⟩
  · ((try dsimp only [State.Writes, State.Fresh, State.Powered]) <;> decide +kernel)
  · ((try dsimp only [State.Writes, State.Fresh, State.Powered]) <;> decide +kernel)

theorem test_witness_EnginesRetire :
    (let s : State := tileDev
     let t : Cyc := 5
     let pe : Nat := 543
     let c : Instr := .engineUe 5 543
     let word : Nat := 0
     s.live = true ∧
     s.activating = false ∧
     pe < 544 ∧
     ¬pe ∈ s.nv.retired ∧
     (c = Instr.engineUe t pe ∨ c = Instr.engineHealthCheck t pe false) ∧
     s.engine pe < 2 ∧
     s.rd Obj.DEV_ENG_CE_COUNT < 4294967295 ∧
     ¬(pe, word) ∈ s.sys.engineCe) ∧
    (let s : State := withSys tileDev fun x => { x with engineCe := [(0, 1)] }
     let pe : Nat := 0
     let word : Nat := 1
     s.live = true ∧
     pe < 544 ∧
     s.engine pe < 2 ∧
     s.rd Obj.DEV_ENG_CE_COUNT < 4294967295 ∧
     (pe, word) ∈ s.sys.engineCe ∧
     ¬pe ∈ s.nv.retired) ∧
    (let s : State := tileDev
     let t : Cyc := 5
     let m : Msg := vend
     s.Writes t m Obj.DEV_ENG_RETIRED_CLEAR 0 0 (.num 1)) := by
  refine ⟨?_, ?_, ?_⟩
  · ((try dsimp only [State.Writes, State.Fresh, State.Powered]) <;> decide +kernel)
  · ((try dsimp only [State.Writes, State.Fresh, State.Powered]) <;> decide +kernel)
  · ((try dsimp only [State.Writes, State.Fresh, State.Powered]) <;> decide +kernel)

theorem test_witness_ArbiterGrants :
    (let s : State := tileDev.setArb 0 { owner := some 4, count := 3 }
     let id : ArbId := .mem 0
     let raised : List ArbReq := [⟨4, 0, 64, none⟩]
     s.live = true ∧
     (∀ (p : Nat), id ≠ ArbId.egress p) ∧
     (∀ (c : Nat), id = ArbId.mem c → s.isTile = true → c < 2) ∧
     (∃ o, (s.arb (arbKey id)).owner = some o ∧ arbStream id o = true ∧ ∃ q, q ∈ List.filter (s.arbAdmits id) raised ∧
        q.input = o)) ∧
    (let s : State := tileDev.setArb 100 { owner := some 2, count := 7 }
     let id : ArbId := .ws
     let raised : List ArbReq := [⟨7, 4, 64, none⟩, ⟨1, 0, 1, none⟩]
     s.live = true ∧
     (∀ (p : Nat), id ≠ ArbId.egress p) ∧
     (∀ (c : Nat), id = ArbId.mem c → s.isTile = true → c < 2) ∧
     List.filter (s.arbAdmits id) raised ≠ [] ∧
     (∀ (o : Nat), (s.arb (arbKey id)).owner = some o → arbStream id o = false ∨ ∀ (q : ArbReq),
        q ∈ List.filter (s.arbAdmits id) raised → q.input ≠ o)) ∧
    (let s : State := tileDev
     s.live = true ∧
     s.isTile = true) := by
  refine ⟨?_, ?_, ?_⟩
  · exact ⟨by decide +kernel, fun _ => nofun, fun c h _ => by cases h; decide, 4, by decide +kernel, rfl, ⟨4, 0, 64, none⟩, by decide +kernel, rfl⟩
  · exact ⟨by decide +kernel, fun _ => nofun, fun _ => nofun, by decide +kernel,
      fun o h => .inl (by rw [show (tileDev.setArb 100 { owner := some 2, count := 7 }).arb (arbKey .ws) = { owner := some 2, count := 7 } from by
        decide +kernel] at h; cases h; rfl)⟩
  · ((try dsimp only [State.Writes, State.Fresh, State.Powered]) <;> decide +kernel)

theorem test_witness_RequestsRunOnce :
    (let s : State := tileDev
     let t : Cyc := 5
     let m : Msg := { msg with tagOk := false }
     let c : Instr := .keepalive 5 { msg with tagOk := false }
     s.live = true ∧
     s.pairMUp = true ∧
     s.hears m.transport = true ∧
     m.route = Route.device ∧
     s.genuine m = false ∧
     s.rd Obj.DICT_AUTH_FAILS < 4294967295 ∧
     (c = Instr.keepalive t m ∨ c = Instr.close t m ∨ (∃ w, c = Instr.read t m w) ∨ (∃ v, c = Instr.write t m v) ∨ c =
        Instr.describe t m ∨ (∃ a, c = Instr.lock t m a ∨ c = Instr.unlock t m a) ∨ (∃ a b d e, c =
        Instr.commit t m a b d e) ∨ ∃ a, c = Instr.abort t m a)) ∧
    (let s : State := tileDev.setSession 2 { sess .integrator with seq := 1, cached := some (3, { status := 0 }) }
     let t : Cyc := 5
     let m : Msg := flueMsg
     let c : Instr := .keepalive 5 flueMsg
     let op : Nat := 3
     let r : Reply := { status := 0 }
     s.live = true ∧
     s.pairMUp = true ∧
     s.hears m.transport = true ∧
     m.transport ≠ Transport.svc ∧
     m.route = Route.device ∧
     s.genuine m = true ∧
     (s.session m.session).busy = none ∧
     (c = Instr.keepalive t m ∨ c = Instr.close t m ∨ (∃ w, c = Instr.read t m w) ∨ (∃ v, c = Instr.write t m v) ∨ c =
        Instr.describe t m ∨ (∃ a, c = Instr.lock t m a ∨ c = Instr.unlock t m a) ∨ ∃ a b d e, c =
        Instr.commit t m a b d e) ∧
     (s.session m.session).cached = some (op, r) ∧
     m.seq = (s.session m.session).seq) ∧
    (let s : State := tileDev.setSession 2 { sess .integrator with seq := 2 }
     let t : Cyc := 5
     let m : Msg := flueMsg
     let c : Instr := .keepalive 5 flueMsg
     s.live = true ∧
     s.pairMUp = true ∧
     s.hears m.transport = true ∧
     m.transport ≠ Transport.svc ∧
     m.route = Route.device ∧
     s.genuine m = true ∧
     (s.session m.session).busy = none ∧
     (c = Instr.keepalive t m ∨ c = Instr.close t m ∨ (∃ w, c = Instr.read t m w) ∨ (∃ v, c = Instr.write t m v) ∨ c =
        Instr.describe t m ∨ (∃ a, c = Instr.lock t m a ∨ c = Instr.unlock t m a) ∨ ∃ a b d e, c =
        Instr.commit t m a b d e) ∧
     m.seq < (s.session m.session).seq ∧
     s.rd Obj.DICT_REPLAYS < 4294967295) := by
  refine ⟨?_, ?_, ?_⟩
  · exact ⟨by decide +kernel, by decide +kernel, by decide +kernel, by decide +kernel, by decide +kernel, by decide +kernel, .inl rfl⟩
  · exact ⟨by decide +kernel, by decide +kernel, by decide +kernel, by decide +kernel, by decide +kernel, by decide +kernel, by decide +kernel, .inl rfl, by decide +kernel, by decide +kernel⟩
  · exact ⟨by decide +kernel, by decide +kernel, by decide +kernel, by decide +kernel, by decide +kernel, by decide +kernel, by decide +kernel, .inl rfl, by decide +kernel, by decide +kernel⟩

theorem test_witness_SessionsEnd :
    (let s : State := tileDev
     let t : Cyc := 5
     let m : Msg := msg
     let slot : Nat := 2
     s.Fresh t m true ∧
     s.live = true ∧
     (s.session slot).isOpen = true ∧
     max s.now t < (s.session slot).lastMsg + seconds (s.nat Obj.DICT_SESSION_TIMEOUT)) ∧
    (let s : State := tileDev
     let t : Cyc := 45000000000
     let slot : Nat := 2
     s.live = true ∧
     (s.session slot).isOpen = true ∧
     (s.session slot).lastMsg + seconds (s.nat Obj.DICT_SESSION_TIMEOUT) ≤ max s.now t) := by
  refine ⟨?_, ?_⟩
  · ((try dsimp only [State.Writes, State.Fresh, State.Powered]) <;> decide +kernel)
  · ((try dsimp only [State.Writes, State.Fresh, State.Powered]) <;> decide +kernel)

theorem test_witness_ReadsAndDescribes :
    (let s : State := tileDev
     let t : Cyc := 5
     let m : Msg := { msg with index := 0xFFFF, sub := 255 }
     s.Fresh t m true ∧
     m.count = 1 ∧
     m.sub < 256 ∧
     (s.taken t m).objAt m.index m.sub = none ∧
     s.Fresh t m false) ∧
    (let s : State := tileDev
     let t : Cyc := 5
     let m : Msg := ask msg Obj.BOOT_RESET 0 0
     let r : ObjRow := Obj.BOOT_RESET
     let i : Nat := 0
     let j : Nat := 0
     s.Fresh t m true ∧
     m.count = 1 ∧
     m.sub < 256 ∧
     (s.taken t m).objAt m.index m.sub = some (r, i, j) ∧
     (r.acc = Acc.wo ∨ r.acc = Acc.cmd) ∧
     s.Fresh t m false) ∧
    (let s : State := tileDev
     let t : Cyc := 5
     let m : Msg := ask msg Obj.DICT_SESSION_TIMEOUT 0 0
     let r : ObjRow := Obj.DICT_SESSION_TIMEOUT
     let i : Nat := 0
     let j : Nat := 0
     s.Fresh t m true ∧
     m.count = 1 ∧
     m.sub < 256 ∧
     (s.taken t m).objAt m.index m.sub = some (r, i, j) ∧
     r.acc ≠ Acc.wo ∧
     r.acc ≠ Acc.cmd ∧
     r.ty ≠ Ty.blob ∧
     r.ty ≠ Ty.str ∧
     r ≠ Obj.DEV_CLOCK_STATUS ∧
     (s.taken t m).liveValue m.session r i j = none) := by
  refine ⟨?_, ?_, ?_⟩
  · refine ⟨?_, ?_, ?_, ?_, ?_⟩ <;> ((try dsimp only [State.Writes, State.Fresh, State.Powered]) <;> decide +kernel)
  · refine ⟨?_, ?_, ?_, ?_, ?_, ?_⟩ <;> ((try dsimp only [State.Writes, State.Fresh, State.Powered]) <;> decide +kernel)
  · refine ⟨?_, ?_, ?_, ?_, ?_, ?_, ?_, ?_, ?_, ?_⟩ <;> ((try dsimp only [State.Writes, State.Fresh, State.Powered]) <;> decide +kernel)

theorem test_witness_WritesAreCheckedInOrder :
    (let s : State := tileDev
     let t : Cyc := 5
     let m : Msg := { msg with index := 0xFFFF, sub := 255 }
     s.Fresh t m true ∧
     m.count = 1 ∧
     m.sub < 256 ∧
     (s.taken t m).objAt m.index m.sub = none) ∧
    (let s : State := tileDev
     let t : Cyc := 5
     let m : Msg := ask msg Obj.DEV_ENG_RETIRED_CLEAR 0 0
     let r : ObjRow := Obj.DEV_ENG_RETIRED_CLEAR
     let i : Nat := 0
     let j : Nat := 0
     s.Fresh t m true ∧
     m.count = 1 ∧
     m.sub < 256 ∧
     (s.taken t m).objAt m.index m.sub = some (r, i, j) ∧
     mayWrite (s.session m.session).role r m.index = false) ∧
    (let s : State := tileDev
     let t : Cyc := 5
     let m : Msg := ask msg Obj.DEV_CLOCK_STATUS 0 0
     let r : ObjRow := Obj.DEV_CLOCK_STATUS
     let i : Nat := 0
     let j : Nat := 0
     s.Fresh t m true ∧
     m.count = 1 ∧
     m.sub < 256 ∧
     (s.taken t m).objAt m.index m.sub = some (r, i, j) ∧
     mayWrite (s.session m.session).role r m.index = true ∧
     r.acc = Acc.ro) ∧
    (let s : State := tileDev.wrAt Obj.LOCK_CTRL 0 1 (3 * 65536 + 7)
     let t : Cyc := 5
     let m : Msg := ask msg Obj.DICT_SESSION_TIMEOUT 0 0
     let r : ObjRow := Obj.DICT_SESSION_TIMEOUT
     let i : Nat := 0
     let j : Nat := 0
     s.Fresh t m true ∧
     m.count = 1 ∧
     m.sub < 256 ∧
     (s.taken t m).objAt m.index m.sub = some (r, i, j) ∧
     mayWrite (s.session m.session).role r m.index = true ∧
     r.acc ≠ Acc.ro ∧
     (s.taken t m).lockedFor m.session (areaOf m.index) = true) ∧
    (let s : State := tileDev
     let t : Cyc := 5
     let m : Msg := ask msg Obj.DICT_SESSION_TIMEOUT 0 0
     let v : WVal := .bad
     let r : ObjRow := Obj.DICT_SESSION_TIMEOUT
     let i : Nat := 0
     let j : Nat := 0
     s.Fresh t m true ∧
     m.count = 1 ∧
     m.sub < 256 ∧
     (s.taken t m).objAt m.index m.sub = some (r, i, j) ∧
     mayWrite (s.session m.session).role r m.index = true ∧
     r.acc ≠ Acc.ro ∧
     (s.taken t m).lockedFor m.session (areaOf m.index) = false ∧
     fitsType r.ty v = false) ∧
    (let s : State := tileDev
     let t : Cyc := 5
     let m : Msg := ask msg Obj.DICT_SESSION_TIMEOUT 0 0
     let v : WVal := .num 4
     let r : ObjRow := Obj.DICT_SESSION_TIMEOUT
     let i : Nat := 0
     let j : Nat := 0
     s.Fresh t m true ∧
     m.count = 1 ∧
     m.sub < 256 ∧
     (s.taken t m).objAt m.index m.sub = some (r, i, j) ∧
     mayWrite (s.session m.session).role r m.index = true ∧
     r.acc ≠ Acc.ro ∧
     (s.taken t m).lockedFor m.session (areaOf m.index) = false ∧
     fitsType r.ty v = true ∧
     (s.taken t m).valueOk r i v = false) ∧
    (let s : State := tileDev.wr Obj.TILE_STATE 1
     let t : Cyc := 5
     let m : Msg := ask msg Obj.PHY_LOOP 0 0
     let v : WVal := .num 3
     let r : ObjRow := Obj.PHY_LOOP
     let i : Nat := 0
     let j : Nat := 0
     s.Fresh t m true ∧
     m.count = 1 ∧
     m.sub < 256 ∧
     (s.taken t m).objAt m.index m.sub = some (r, i, j) ∧
     mayWrite (s.session m.session).role r m.index = true ∧
     r.acc ≠ Acc.ro ∧
     (s.taken t m).lockedFor m.session (areaOf m.index) = false ∧
     fitsType r.ty v = true ∧
     (s.taken t m).valueOk r i v = true ∧
     r.stopped = true ∧
     (s.taken t m).portRuns i = true) ∧
    (let s : State := tileDev
     let t : Cyc := 5
     let m : Msg := msg
     let r : ObjRow := Obj.DEV_ARB_WS_N
     let i : Nat := 0
     let j : Nat := 0
     let v : Int := 64
     s.Writes t { m with index := r.base + r.stride * i, sub := r.s0 + j, count := 1 } r i j (.num v) ∧
     r.s0 + j < 256 ∧
     r.acc = Acc.rws ∧
     r ≠ Obj.HEARTH_WIDTH ∧
     r ≠ Obj.HEARTH_HEIGHT) := by
  refine ⟨?_, ?_, ?_, ?_, ?_, ?_, ?_, ?_⟩
  · ((try dsimp only [State.Writes, State.Fresh, State.Powered]) <;> decide +kernel)
  · ((try dsimp only [State.Writes, State.Fresh, State.Powered]) <;> decide +kernel)
  · ((try dsimp only [State.Writes, State.Fresh, State.Powered]) <;> decide +kernel)
  · ((try dsimp only [State.Writes, State.Fresh, State.Powered]) <;> decide +kernel)
  · ((try dsimp only [State.Writes, State.Fresh, State.Powered]) <;> decide +kernel)
  · ((try dsimp only [State.Writes, State.Fresh, State.Powered]) <;> decide +kernel)
  · refine ⟨?_, ?_, ?_, ?_, ?_, ?_, ?_, ?_, ?_, ?_, ?_⟩ <;> ((try dsimp only [State.Writes, State.Fresh, State.Powered]) <;> decide +kernel)
  · ((try dsimp only [State.Writes, State.Fresh, State.Powered]) <;> decide +kernel)

theorem test_witness_LocksAreTakenAndFreed :
    (let s : State := senderDev
     let t : Cyc := 5
     let m : Msg := msg
     let area : Nat := 2
     s.Fresh t m false ∧
     (area = 2 ∨ area = 31) ∧
     s.Writes t m Obj.LOCK_CTRL 0 area (.num 1) ∧
     s.Writes t m Obj.LOCK_CTRL 0 area (.num 2)) ∧
    (let s : State := senderDev
     let t : Cyc := 5
     let m : Msg := msg
     let area : Nat := 22
     s.Fresh t m false ∧
     22 ≤ area ∧ area ≠ 31 ∧
     s.Writes t m Obj.LOCK_CTRL 0 area (.num 1) ∧
     22 ≤ area ∧
     area ≠ 31 ∧
     s.Writes t m Obj.LOCK_CTRL 0 area (.num 2)) ∧
    (let s : State := senderDev
     let t : Cyc := 5
     let m : Msg := msg
     let area : Nat := 21
     let role := (s.session m.session).role
     s.Fresh t m false ∧
     area < 22 ∧
     area ≠ 2 ∧
     mayLock (s.session m.session).role area = false ∧
     s.Writes t m Obj.LOCK_CTRL 0 area (.num 1) ∧
     s.Writes t m Obj.LOCK_CTRL 0 area (.num 2)) ∧
    (let s : State := tileDev
     let t : Cyc := 5
     let m : Msg := msg
     let area : Nat := 20
     let role := (s.session m.session).role
     s.Fresh t m false ∧
     area < 22 ∧
     area ≠ 2 ∧
     mayLock (s.session m.session).role area = true ∧
     s.isTile = true ∧ m.transport = Transport.svc ∧
     s.lockOwner area = 255 ∧
     s.Writes t m Obj.LOCK_CTRL 0 area (.num 1) ∧
     s.Writes t m Obj.LOCK_CTRL 0 area (.num 2) ∧
     s.Writes t m Obj.LOCK_CTRL 0 area (.num 3) ∧
     (area = 21 ∧ (s.session m.session).role = SessRole.safety ∨ area ≠ 21 ∧ ((s.session m.session).role =
        SessRole.integrator ∨ (s.session m.session).role = SessRole.vendor))) ∧
    (let s : State := senderDev.wrAt Obj.LOCK_CTRL 0 20 (3 * 65536 + 7)
     let t : Cyc := 5
     let m : Msg := msg
     let area : Nat := 20
     let role := (s.session m.session).role
     s.Fresh t m false ∧
     area < 22 ∧
     area ≠ 2 ∧
     mayLock (s.session m.session).role area = true ∧
     ¬(s.isTile = true ∧ m.transport = Transport.svc) ∧
     s.lockOwner area ≠ 255 ∧
     s.lockOwner area ≠ m.session ∧
     s.Writes t m Obj.LOCK_CTRL 0 area (.num 1) ∧
     s.Writes t m Obj.LOCK_CTRL 0 area (.num 2)) ∧
    (let s : State := senderDev
     let t : Cyc := 5
     let m : Msg := msg
     let area : Nat := 20
     let role := (s.session m.session).role
     s.Fresh t m false ∧
     area < 22 ∧
     area ≠ 2 ∧
     mayLock (s.session m.session).role area = true ∧
     ¬(s.isTile = true ∧ m.transport = Transport.svc) ∧
     s.lockOwner area = 255 ∧
     s.sess.fwd = [] ∧
     s.Writes t m Obj.LOCK_CTRL 0 area (.num 1)) ∧
    (let s : State := senderDev.wrAt Obj.LOCK_CTRL 0 20 (2 * 65536 + 7)
     let t : Cyc := 5
     let m : Msg := msg
     let area : Nat := 20
     let role := (s.session m.session).role
     s.Fresh t m false ∧
     area < 22 ∧
     area ≠ 2 ∧
     mayLock (s.session m.session).role area = true ∧
     s.lockOwner area = m.session ∧
     s.lockOwner area ≠ 255 ∧
     s.Writes t m Obj.LOCK_CTRL 0 area (.num 2)) := by
  refine ⟨?_, ?_, ?_, ?_, ?_, ?_, ?_⟩
  · refine ⟨?_, ?_, ?_, ?_⟩ <;> ((try dsimp only [State.Writes, State.Fresh, State.Powered]) <;> decide +kernel)
  · refine ⟨?_, ?_, ?_, ?_, ?_, ?_⟩ <;> ((try dsimp only [State.Writes, State.Fresh, State.Powered]) <;> decide +kernel)
  · refine ⟨?_, ?_, ?_, ?_, ?_, ?_⟩ <;> ((try dsimp only [State.Writes, State.Fresh, State.Powered]) <;> decide +kernel)
  · refine ⟨?_, ?_, ?_, ?_, ?_, ?_, ?_, ?_, ?_, ?_⟩ <;> ((try dsimp only [State.Writes, State.Fresh, State.Powered]) <;> decide +kernel)
  · refine ⟨?_, ?_, ?_, ?_, ?_, ?_, ?_, ?_, ?_⟩ <;> ((try dsimp only [State.Writes, State.Fresh, State.Powered]) <;> decide +kernel)
  · refine ⟨?_, ?_, ?_, ?_, ?_, ?_, ?_, ?_⟩ <;> ((try dsimp only [State.Writes, State.Fresh, State.Powered]) <;> decide +kernel)
  · refine ⟨?_, ?_, ?_, ?_, ?_, ?_, ?_⟩ <;> ((try dsimp only [State.Writes, State.Fresh, State.Powered]) <;> decide +kernel)

theorem test_witness_CommitArmsTheShadows :
    (let s : State := tileDev
     let t : Cyc := 5
     let m : Msg := msg
     let scope : Nat := 4
     let chims : Nat := 0
     let target : Nat := 0
     s.Fresh t m false ∧
     (badScope scope = true ∨ s.isTile = true ∧ chims % 256 ≠ 0) ∧
     s.Writes t m Obj.COMMIT_GO 0 0 (.num 1) ∧
     (s.session m.session).chims % 256 = 0 ∧
     badScope (s.session m.session).scope = false ∧
     mayCommit (s.session m.session).role (s.session m.session).scope = true ∧
     (s.taken t m).scopeLocked m.session (s.session m.session).scope = false ∧
     (s.nat Obj.WFC + s.nat Obj.COMMIT_LEAD ≤ if (s.session m.session).target % 2 ^ 48 = 0 then s.nat Obj.WFC +
        s.nat Obj.COMMIT_LEAD else (s.session m.session).target % 2 ^ 48) ∧
     (s.taken t m).vetSet (s.session m.session).scope (if (s.session m.session).target % 2 ^ 48 =
        0 then s.nat Obj.WFC + s.nat Obj.COMMIT_LEAD else (s.session m.session).target % 2 ^ 48) = none) ∧
    (let s : State := tileDev
     let t : Cyc := 5
     let m : Msg := msg
     let scope : Nat := 2 ^ 21
     let chims : Nat := 0
     let role := (s.session m.session).role
     s.Fresh t m false ∧
     badScope scope = false ∧
     (s.isTile = true → chims % 256 = 0) ∧
     mayCommit (s.session m.session).role scope = false) ∧
    (let s : State := tileDev.wrAt Obj.LOCK_CTRL 0 1 (3 * 65536 + 7)
     let t : Cyc := 5
     let m : Msg := msg
     let scope : Nat := 2
     let chims : Nat := 0
     let role := (s.session m.session).role
     s.Fresh t m false ∧
     badScope scope = false ∧
     (s.isTile = true → chims % 256 = 0) ∧
     mayCommit (s.session m.session).role scope = true ∧
     (s.taken t m).scopeLocked m.session scope = true) ∧
    (let s : State := tileDev
     let t : Cyc := 5
     let m : Msg := msg
     let scope : Nat := 2
     let chims : Nat := 0
     let target : Nat := 1
     let role := (s.session m.session).role
     s.Fresh t m false ∧
     badScope scope = false ∧
     (s.isTile = true → chims % 256 = 0) ∧
     mayCommit (s.session m.session).role scope = true ∧
     (s.taken t m).scopeLocked m.session scope = false ∧
     (if target % 2 ^ 48 = 0 then s.nat Obj.WFC + s.nat Obj.COMMIT_LEAD else target % 2 ^ 48) < s.nat Obj.WFC +
        s.nat Obj.COMMIT_LEAD) ∧
    (let s : State := tileDev
     let t : Cyc := 5
     let m : Msg := msg
     let scope : Nat := 2
     let chims : Nat := 0
     let target : Nat := 4
     let role := (s.session m.session).role
     s.Fresh t m false ∧
     badScope scope = false ∧
     (s.isTile = true → chims % 256 = 0) ∧
     mayCommit (s.session m.session).role scope = true ∧
     (s.taken t m).scopeLocked m.session scope = false ∧
     (s.nat Obj.WFC + s.nat Obj.COMMIT_LEAD ≤ if target % 2 ^ 48 = 0 then s.nat Obj.WFC +
        s.nat Obj.COMMIT_LEAD else target % 2 ^ 48) ∧
     chims % 256 = 0 ∧
     (s.taken t m).vetSet scope (if target % 2 ^ 48 = 0 then s.nat Obj.WFC +
        s.nat Obj.COMMIT_LEAD else target % 2 ^ 48) = none) := by
  refine ⟨?_, ?_, ?_, ?_, ?_⟩
  · refine ⟨?_, ?_, ?_, ?_, ?_, ?_, ?_, ?_, ?_⟩ <;> ((try dsimp only [State.Writes, State.Fresh, State.Powered]) <;> decide +kernel)
  · ((try dsimp only [State.Writes, State.Fresh, State.Powered]) <;> decide +kernel)
  · ((try dsimp only [State.Writes, State.Fresh, State.Powered]) <;> decide +kernel)
  · ((try dsimp only [State.Writes, State.Fresh, State.Powered]) <;> decide +kernel)
  · ((try dsimp only [State.Writes, State.Fresh, State.Powered]) <;> decide +kernel)

theorem test_witness_WallCommitsArmAndAbort :
    (let s : State := (chimDev.setTileBit Obj.CHIM_REACH_A 7 128 true)
     let t : Cyc := 5
     let m : Msg := msg
     let scope : Nat := 2
     let chims : Nat := 128
     let flags : Nat := 4
     let target : Nat := 4
     s.Fresh t m false ∧
     s.isSender = true ∧
     chims % 256 ≠ 0 ∧
     badScope scope = false ∧
     mayCommit (s.session m.session).role scope = true ∧
     (s.taken t m).scopeLocked m.session scope = false ∧
     (s.nat Obj.WFC + s.nat Obj.COMMIT_LEAD ≤ if target % 2 ^ 48 = 0 then s.nat Obj.WFC +
        s.nat Obj.COMMIT_LEAD else target % 2 ^ 48) ∧
     (bit flags 2 = true → (s.taken t m).vetSet scope (if target % 2 ^ 48 = 0 then s.nat Obj.WFC +
        s.nat Obj.COMMIT_LEAD else target % 2 ^ 48) = none) ∧
     (∀ (q : Nat × Nat), q ∈ s.wallTiles (chims % 256) → s.unreachable q.fst q.snd = false) ∧
     s.live = true) ∧
    (let s : State := chimDev
     let t : Cyc := 5
     let m : Msg := msg
     let scope : Nat := 2
     let chims : Nat := 128
     let flags : Nat := 4
     let target : Nat := 4
     s.Fresh t m false ∧
     s.isSender = true ∧
     chims % 256 ≠ 0 ∧
     badScope scope = false ∧
     mayCommit (s.session m.session).role scope = true ∧
     (s.taken t m).scopeLocked m.session scope = false ∧
     (s.nat Obj.WFC + s.nat Obj.COMMIT_LEAD ≤ if target % 2 ^ 48 = 0 then s.nat Obj.WFC +
        s.nat Obj.COMMIT_LEAD else target % 2 ^ 48) ∧
     (bit flags 2 = true → (s.taken t m).vetSet scope (if target % 2 ^ 48 = 0 then s.nat Obj.WFC +
        s.nat Obj.COMMIT_LEAD else target % 2 ^ 48) = none) ∧
     (∃ q, q ∈ s.wallTiles (chims % 256) ∧ s.unreachable q.fst q.snd = true) ∧
     bit flags 3 = false) ∧
    (let s : State := withSess chimDev fun x => { x with walls := [aWall] }
     let id : Nat := 9
     let w : WallCommit := aWall
     let c : Nat := 0
     let a : Nat := 0
     s.live = true ∧
     s.isSender = true ∧
     (List.find? (fun x => x.id == id) s.sess.walls = some w) ∧
     ¬(c, a) ∈ w.waiting) ∧
    (let s : State := withSess chimDev fun x => { x with walls := [aWall] }
     let id : Nat := 9
     let w : WallCommit := aWall
     let c : Nat := 7
     let a : Nat := 128
     s.live = true ∧
     s.isSender = true ∧
     (List.find? (fun x => x.id == id) s.sess.walls = some w) ∧
     w.live = true ∧
     (c, a) ∈ w.waiting) ∧
    (let s : State := withSess chimDev fun x => { x with aborts := [⟨9, [(7, 1)], 2, 5⟩] }
     let t : Cyc := 5
     let r : AbortRun := ⟨9, [(7, 1)], 2, 5⟩
     s.live = true ∧
     s.isSender = true ∧
     s.sess.aborts = [r] ∧
     r.next ≤ max s.now t) := by
  refine ⟨?_, ?_, ?_, ?_, ?_⟩
  · refine ⟨?_, ?_, ?_, ?_, ?_, ?_, ?_, ?_, ?_, ?_⟩ <;> ((try dsimp only [State.Writes, State.Fresh, State.Powered]) <;> decide +kernel)
  · refine ⟨?_, ?_, ?_, ?_, ?_, ?_, ?_, ?_, ?_, ?_⟩ <;> ((try dsimp only [State.Writes, State.Fresh, State.Powered]) <;> decide +kernel)
  · ((try dsimp only [State.Writes, State.Fresh, State.Powered]) <;> decide +kernel)
  · ((try dsimp only [State.Writes, State.Fresh, State.Powered]) <;> decide +kernel)
  · ((try dsimp only [State.Writes, State.Fresh, State.Powered]) <;> decide +kernel)

theorem test_witness_TilesArmAndAbort :
    (let s : State := tileDev.setSession 0 (sess .integrator)
     let t : Cyc := 5
     let m : Msg := { flueMsg with session := 0 }
     let target : Nat := 1
     m.session = 0 ∧
     s.isTile = true ∧
     s.Fresh t m false ∧
     target % 2 ^ 48 ≤ s.nat Obj.WFC + 1 ∧
     s.live = true ∧
     s.pairMUp = true ∧
     s.hears m.transport = true ∧
     s.genuine m = true ∧
     max (s.session 0).seq (s.session 0).oneWay < m.seq ∧
     (s.session 0).closing = false) ∧
    (let s : State := tileDev.setSession 0 (sess .integrator)
     let t : Cyc := 5
     let m : Msg := { flueMsg with session := 0 }
     let id : Nat := 9
     let scope : Nat := 2
     let target : Nat := 2
     m.session = 0 ∧
     s.isTile = true ∧
     s.Fresh t m false ∧
     s.nat Obj.WFC + 1 < target % 2 ^ 48 ∧
     ((s.taken t m).wr Obj.COMMIT_ID ↑id).vetSet scope (target % 2 ^ 48) = none) := by
  refine ⟨?_, ?_⟩
  · refine ⟨?_, ?_, ?_, ?_, ?_, ?_, ?_, ?_, ?_, ?_⟩ <;> ((try dsimp only [State.Writes, State.Fresh, State.Powered]) <;> decide +kernel)
  · ((try dsimp only [State.Writes, State.Fresh, State.Powered]) <;> decide +kernel)

theorem test_witness_AddressesAreAssigned :
    (let s : State := chimDev
     let c : Nat := 7
     s.live = true ∧
     s.isSender = true ∧
     chimneyOn s.rdAt c = true ∧
     s.pairMUp = true) ∧
    (let s : State := chimDev.setChim 7 { lastAssign := some 0 }
     let t : Cyc := 1500000000
     let c : Nat := 7
     let t0 : Cyc := 0
     s.live = true ∧
     s.isSender = true ∧
     chimneyOn s.rdAt c = true ∧
     (s.chim c).lastAssign = some t0 ∧
     t0 + seconds 1 ≤ max s.now t) ∧
    (let s : State := chimDev.setChim 7 { lastAssign := some 0 }
     let t : Cyc := 1499999999
     let c : Nat := 7
     let t0 : Cyc := 0
     s.live = true ∧
     s.isSender = true ∧
     chimneyOn s.rdAt c = true ∧
     (s.chim c).lastAssign = some t0 ∧
     max s.now t < t0 + seconds 1) ∧
    (let s : State := tileDev
     let port : Nat := 1
     s.live = true ∧
     s.isTile = true ∧
     port < 2) := by
  refine ⟨?_, ?_, ?_, ?_⟩
  · ((try dsimp only [State.Writes, State.Fresh, State.Powered]) <;> decide +kernel)
  · ((try dsimp only [State.Writes, State.Fresh, State.Powered]) <;> decide +kernel)
  · ((try dsimp only [State.Writes, State.Fresh, State.Powered]) <;> decide +kernel)
  · ((try dsimp only [State.Writes, State.Fresh, State.Powered]) <;> decide +kernel)

theorem test_witness_SessionZeroOpensWithTheReply :
    (let s : State := withFlue chimDev fun x => { x with asm := [⟨7 * 256 + 128, false, 1, 1, 0, 0 :: 0x81 :: List.replicate 155 0⟩] }
     let t : Cyc := 5
     let c : Nat := 7
     let p : Nat := 14
     let pathB : Bool := false
     let g : CtrlSeg := { aSeg with src := 128, dst := 0, seg := 1, last := true, bytes := [1, 2] }
     let x : Asm := ⟨7 * 256 + 128, false, 1, 1, 0, 0 :: 0x81 :: List.replicate 155 0⟩
     s.live = true ∧
     s.isSender = true ∧
     s.chimneyOf p = some (c, pathB) ∧
     g.src ∈ s.mapped c ∧
     g.dst = 0 ∧
     g.complete = true ∧
     g.last = true ∧
     g.seg ≠ 0 ∧
     (List.find? (fun y => y.is (c * 256 + g.src) g.pathB g.msgId) s.flue.asm = some x) ∧
     x.next = g.seg ∧
     (s.upTo t).wasPassed (c * 256 + g.src) g.msgId = false ∧
     s.flue.refused.contains (c * 256 + g.src, g.pathB, g.msgId) = false ∧
     byteAt (x.bytes ++ g.bytes) 1 = 129 ∧
     byteAt (x.bytes ++ g.bytes) 18 = st.OK ∧
     byteAt (x.bytes ++ g.bytes) (24 + 131 + (byteAt (x.bytes ++ g.bytes) 24 * 256 + byteAt (x.bytes ++ g.bytes) 25)) = 0) := by
  · refine ⟨?_, ?_, ?_, ?_, ?_, ?_, ?_, ?_, ?_, ?_, ?_, ?_, ?_, ?_, ?_⟩ <;> ((try dsimp only [State.Writes, State.Fresh, State.Powered]) <;> decide +kernel)

theorem test_witness_RingsAndCreditsAreKept :
    (let s : State := chimDev
     let c : Nat := 7
     s.live = true ∧
     s.isSender = true ∧
     c < 8 ∧
     chimneyOn s.rdAt c = true) ∧
    (let s : State := chimDev.setChim 7 { left := some 0 }
     let t : Cyc := 15000000
     let c : Nat := 7
     let t0 : Cyc := 0
     s.live = true ∧
     s.isSender = true ∧
     c < 8 ∧
     (s.chim c).left = some t0 ∧
     t0 + ms 10 ≤ max s.now t) ∧
    (let s : State := withTime chimDev fun x => { x with boundary := 0 }
     let t : Cyc := 45000000
     let c : Nat := 7
     let q : Nat × Nat := ((lineSequence s.rdAt 7).zipIdx.getD 0 ((0, 0), 0)).1
     let i : Nat := 0
     s.live = true ∧
     s.isSender = true ∧
     c < 8 ∧
     chimneyOn s.rdAt c = true ∧
     s.activating = false ∧
     s.rd Obj.COMP_LATE_PACKETS < 4294967295 ∧
     (List.find? (fun x => !(s.chim c).skip.contains x.fst) (List.drop (max (s.egress (s.natAt Obj.CHIM_PORT_A 0
        c)).lineAt (s.egress (s.natAt Obj.CHIM_PORT_B 0 c)).lineAt) (lineSequence s.rdAt c).zipIdx) = some (q, i)) ∧
     s.deadline c i ≤ (s.upTo t).wall18) ∧
    (let s : State := chimDev
     let t : Cyc := 0
     let c : Nat := 7
     let q : Nat × Nat := ((lineSequence s.rdAt 7).zipIdx.getD 0 ((0, 0), 0)).1
     let i : Nat := 0
     s.live = true ∧
     s.isSender = true ∧
     c < 8 ∧
     chimneyOn s.rdAt c = true ∧
     s.activating = false ∧
     s.rd Obj.COMP_LATE_PACKETS < 4294967295 ∧
     (List.find? (fun x => !(s.chim c).skip.contains x.fst) (List.drop (max (s.egress (s.natAt Obj.CHIM_PORT_A 0
        c)).lineAt (s.egress (s.natAt Obj.CHIM_PORT_B 0 c)).lineAt) (lineSequence s.rdAt c).zipIdx) = some (q, i)) ∧
     (s.upTo t).wall18 < s.deadline c i) ∧
    (let s : State := chimDev
     let c : Nat := 7
     let a : Nat := 128
     s.live = true ∧
     s.isSender = true ∧
     c < 8 ∧
     1 ≤ a ∧
     a ≤ 128) := by
  refine ⟨?_, ?_, ?_, ?_, ?_⟩
  · ((try dsimp only [State.Writes, State.Fresh, State.Powered]) <;> decide +kernel)
  · ((try dsimp only [State.Writes, State.Fresh, State.Powered]) <;> decide +kernel)
  · ((try dsimp only [State.Writes, State.Fresh, State.Powered]) <;> decide +kernel)
  · ((try dsimp only [State.Writes, State.Fresh, State.Powered]) <;> decide +kernel)
  · ((try dsimp only [State.Writes, State.Fresh, State.Powered]) <;> decide +kernel)

theorem test_witness_TilesAreMonitored :
    (let s : State := chimDev
     let c : Nat := 7
     let a : Nat := 128
     let p : StatusPkt := aStatus
     s.live = true ∧
     s.isSender = true ∧
     c < 8 ∧
     a ∈ s.mapped c ∧
     p.src = a) ∧
    (let s : State := chimDev.setTile 7 128 { status := some aStatus }
     let t : Cyc := 150000000
     let c : Nat := 7
     let a : Nat := 128
     s.live = true ∧
     s.isSender = true ∧
     c < 8 ∧
     a ∈ s.mapped c ∧
     (s.tile c a).status.isSome = true ∧
     (s.tile c a).statusAt + ms 100 ≤ max s.now t) ∧
    (let s : State := chimDev.setTile 7 128 { entryAt := some 0 }
     let t : Cyc := 15000000000
     let c : Nat := 7
     let a : Nat := 128
     let t0 : Cyc := 0
     s.live = true ∧
     s.isSender = true ∧
     c < 8 ∧
     a ∈ s.mapped c ∧
     (s.tile c a).entryAt = some t0 ∧
     (s.tile c a).status = none ∧
     (s.tile c a).silent = false ∧
     t0 + seconds 10 ≤ max s.now t) ∧
    (let s : State := (chimDev.setTile 7 128 { status := some aStatus }).wr Obj.WFC 5
     let c : Nat := 7
     let a : Nat := 128
     let p : StatusPkt := aStatus
     s.live = true ∧
     s.isSender = true ∧
     c < 8 ∧
     a ∈ s.mapped c ∧
     (s.tile c a).status = some p ∧
     p.gen ≠ s.nat Obj.COMMIT_GENERATION ∧
     s.sess.genAt + s.nat Obj.COMMIT_LEAD < s.nat Obj.WFC) ∧
    (let s : State := (chimDev.setTile 7 128 { status := some aStatus }).wr Obj.WFC 4
     let c : Nat := 7
     let a : Nat := 128
     let p : StatusPkt := aStatus
     s.live = true ∧
     s.isSender = true ∧
     c < 8 ∧
     a ∈ s.mapped c ∧
     (s.tile c a).status = some p ∧
     p.gen ≠ s.nat Obj.COMMIT_GENERATION ∧
     s.nat Obj.WFC ≤ s.sess.genAt + s.nat Obj.COMMIT_LEAD) := by
  refine ⟨?_, ?_, ?_, ?_, ?_⟩
  · ((try dsimp only [State.Writes, State.Fresh, State.Powered]) <;> decide +kernel)
  · ((try dsimp only [State.Writes, State.Fresh, State.Powered]) <;> decide +kernel)
  · ((try dsimp only [State.Writes, State.Fresh, State.Powered]) <;> decide +kernel)
  · ((try dsimp only [State.Writes, State.Fresh, State.Powered]) <;> decide +kernel)
  · ((try dsimp only [State.Writes, State.Fresh, State.Powered]) <;> decide +kernel)

theorem test_witness_LinesAreSelected :
    (let p : LinePkt := aLine8
     1 ≤ p.addr ∧
     p.addr ≤ 128 ∧
     p.line < 512 ∧
     1 ≤ p.wq ∧
     p.wq < 128 ∧
     p.frame < 256 ∧
     p.pixels.length = 4 * (p.wq + 1) ∧
     (∀ (q : Nat × Nat × Nat), q ∈ p.pixels → q.fst < 65536 ∧ q.snd.fst < 65536 ∧ q.snd.snd < 65536) ∧
     p.spans.length ≤ 7 ∧
     (∀ (q : Nat × Nat), q ∈ p.spans → q.fst < 512 ∧ q.snd < 512) ∧
     p.unusedZero = true ∧
     p.complete = true) ∧
    (let s : State := withPaths ((tileAt.wr Obj.TILE_WIDTH 8).wr Obj.TILE_HEIGHT 1) fun x => { x with frames := [aFrame] }
     let port : Nat := 0
     let x : LineCopy := aCopy
     let f : RxFrame := aFrame
     let own : Nat := 128
     s.live = true ∧
     s.isTile = true ∧
     s.deadPort port = false ∧
     s.pathOf port = some (linePktOf x).pathB ∧
     s.nat Obj.TILE_ADDRESS = own ∧
     own ≠ 0 ∧
     (linePktOf x).addr = own ∧
     (linePktOf x).complete = true ∧
     (linePktOf x).unusedZero = true ∧
     4 * ((linePktOf x).wq + 1) = s.nat Obj.TILE_WIDTH ∧
     (linePktOf x).line < s.nat Obj.TILE_HEIGHT ∧
     validSpans (s.nat Obj.TILE_WIDTH) none (linePktOf x).spans = true ∧
     (linePktOf x).spans.length ≤ 7 ∧
     s.paths.frames = [f] ∧
     f.k % 256 = (linePktOf x).frame ∧
     s.prefers = (linePktOf x).pathB ∧
     (∀ (y : Nat), y < (linePktOf x).line → ((f.line y).copy (linePktOf x).pathB).st ≠ 0) ∧
     f.line (linePktOf x).line = { }) ∧
    (let s : State := tileAt
     let port : Nat := 1
     let x : LineCopy := aCopy
     s.live = true ∧
     s.isTile = true ∧
     s.deadPort port = false ∧
     s.pathOf port ≠ none ∧
     (linePktOf x).addr = s.nat Obj.TILE_ADDRESS ∧
     (linePktOf x).addr ≠ 0 ∧
     (linePktOf x).complete = true ∧
     s.paths.frames = [] ∧
     s.rd Obj.PATH_LATE < 4294967295) ∧
    (let s : State := chimDev
     let port : Nat := 15
     let c : Nat := 7
     let pathB : Bool := true
     s.live = true ∧
     s.isSender = true ∧
     s.chimneyOf port = some (c, pathB) ∧
     s.rdAt Obj.CHIM_LINES_RETURNED 0 c < 4294967295) ∧
    (let s : State := withPaths tileDev fun x => { x with holdoff := some (0, 10), prefB := true }
     let t : Cyc := 15000000000
     let t0 : Cyc := 0
     let h : Nat := 10
     s.live = true ∧
     s.isTile = true ∧
     s.paths.holdoff = some (t0, h) ∧
     s.paths.prefB = true ∧
     s.nat Obj.PATH_FORCE = 0 ∧
     s.rd Obj.PATH_RETURNS < 4294967295 ∧
     t0 + seconds h ≤ max s.now t) ∧
    (let s : State := withPaths tileDev fun x => { x with holdoff := some (0, 10), prefB := true }
     let t : Cyc := 14999999999
     let t0 : Cyc := 0
     let h : Nat := 10
     s.live = true ∧
     s.isTile = true ∧
     s.paths.holdoff = some (t0, h) ∧
     s.paths.prefB = true ∧
     s.nat Obj.PATH_FORCE = 0 ∧
     s.rd Obj.PATH_RETURNS < 4294967295 ∧
     max s.now t < t0 + seconds h) ∧
    (let s : State := withPaths ((tileAt.wr Obj.TILE_WIDTH 4).wr Obj.TILE_HEIGHT 1) fun x => { x with frames := [aFrame] }
     let t : Cyc := 0
     let m : Msg := Tests.msg
     let v : Nat := 0
     s.Writes t m Obj.PATH_FORCE 0 0 (.num ↑v)) := by
  refine ⟨?_, ?_, ?_, ?_, ?_, ?_, ?_⟩
  · refine ⟨?_, ?_, ?_, ?_, ?_, ?_, ?_, ?_, ?_, ?_, ?_, ?_⟩ <;> ((try dsimp only [State.Writes, State.Fresh, State.Powered]) <;> decide +kernel)
  · refine ⟨?_, ?_, ?_, ?_, ?_, ?_, ?_, ?_, ?_, ?_, ?_, ?_, ?_, ?_, ?_, ?_, ?_, ?_⟩ <;> ((try dsimp only [State.Writes, State.Fresh, State.Powered]) <;> decide +kernel)
  · ((try dsimp only [State.Writes, State.Fresh, State.Powered]) <;> decide +kernel)
  · ((try dsimp only [State.Writes, State.Fresh, State.Powered]) <;> decide +kernel)
  · ((try dsimp only [State.Writes, State.Fresh, State.Powered]) <;> decide +kernel)
  · ((try dsimp only [State.Writes, State.Fresh, State.Powered]) <;> decide +kernel)
  · ((try dsimp only [State.Writes, State.Fresh, State.Powered]) <;> decide +kernel)

theorem test_witness_TilesReport :
    (let s : State := withTime (withPaths tileAt fun x => { x with statusAt := some 0 }) fun x => { x with boundaryAt := some 30000000 }
     let t0 : Cyc := 0
     let b : Cyc := 30000000
     s.live = true ∧
     s.isTile = true ∧
     s.nat Obj.TILE_ADDRESS ≠ 0 ∧
     s.paths.statusAt = some t0 ∧
     s.time.boundaryAt = some b ∧
     t0 + ms 20 ≤ b) ∧
    (let s : State := withTime (withPaths tileAt fun x => { x with statusAt := some 0 }) fun x => { x with boundaryAt := some 29999999 }
     let t0 : Cyc := 0
     let b : Cyc := 29999999
     s.live = true ∧
     s.isTile = true ∧
     s.nat Obj.TILE_ADDRESS ≠ 0 ∧
     s.paths.statusAt = some t0 ∧
     s.time.boundaryAt = some b ∧
     b < t0 + ms 20) ∧
    (let s : State := withPaths tileAt fun x => { x with statusAt := some 0, statusDue := true }
     let t : Cyc := 1500000
     let t0 : Cyc := 0
     s.live = true ∧
     s.isTile = true ∧
     s.nat Obj.TILE_ADDRESS ≠ 0 ∧
     s.paths.statusAt = some t0 ∧
     s.paths.statusDue = true ∧
     t0 + ms 1 ≤ max s.now t) ∧
    (let s : State := withPaths tileAt fun x => { x with statusAt := some 0 }
     let t : Cyc := 30000000
     let t0 : Cyc := 0
     s.live = true ∧
     s.isTile = true ∧
     s.nat Obj.TILE_ADDRESS ≠ 0 ∧
     s.paths.statusAt = some t0 ∧
     (s.paths.statusDue = false ∨ max s.now t < t0 + ms 1)) ∧
    (let s : State := withPaths tileAt fun x => { x with creditDue := some 0 }
     let t : Cyc := 150000
     let t0 : Cyc := 0
     s.live = true ∧
     s.isTile = true ∧
     s.nat Obj.TILE_ADDRESS ≠ 0 ∧
     s.paths.creditDue = some t0 ∧
     t0 + us 100 ≤ max s.now t) ∧
    (let s : State := withPaths tileAt fun x => { x with creditDue := some 0 }
     let t : Cyc := 149999
     let t0 : Cyc := 0
     s.live = true ∧
     s.isTile = true ∧
     s.nat Obj.TILE_ADDRESS ≠ 0 ∧
     s.paths.creditDue = some t0 ∧
     max s.now t < t0 + us 100) ∧
    (let s : State := tileDev
     let t : Cyc := 5
     let c : Instr := .tileCreditTimer 5
     s.live = true ∧
     s.isTile = true ∧
     s.nat Obj.TILE_ADDRESS = 0 ∧
     (c = Instr.statusPeriodic t ∨ c = Instr.pathFlagsStatus t ∨ c = Instr.tileCreditTimer t)) ∧
    (let s : State := withPaths tileAt fun x => { x with bootUntil := some 5 }
     let t : Cyc := 5
     let t0 : Cyc := 5
     s.live = true ∧
     s.isTile = true ∧
     s.paths.bootUntil = some t0 ∧
     t0 ≤ max s.now t) ∧
    (let s : State := withPaths tileAt fun x => { x with bootUntil := some 5 }
     let t : Cyc := 4
     let t0 : Cyc := 5
     s.live = true ∧
     s.isTile = true ∧
     s.paths.bootUntil = some t0 ∧
     max s.now t < t0) := by
  refine ⟨?_, ?_, ?_, ?_, ?_, ?_, ?_, ?_, ?_⟩
  · ((try dsimp only [State.Writes, State.Fresh, State.Powered]) <;> decide +kernel)
  · ((try dsimp only [State.Writes, State.Fresh, State.Powered]) <;> decide +kernel)
  · ((try dsimp only [State.Writes, State.Fresh, State.Powered]) <;> decide +kernel)
  · ((try dsimp only [State.Writes, State.Fresh, State.Powered]) <;> decide +kernel)
  · ((try dsimp only [State.Writes, State.Fresh, State.Powered]) <;> decide +kernel)
  · ((try dsimp only [State.Writes, State.Fresh, State.Powered]) <;> decide +kernel)
  · ((try dsimp only [State.Writes, State.Fresh, State.Powered]) <;> decide +kernel)
  · ((try dsimp only [State.Writes, State.Fresh, State.Powered]) <;> decide +kernel)
  · ((try dsimp only [State.Writes, State.Fresh, State.Powered]) <;> decide +kernel)

theorem test_witness_SetupsAndFramesAreGranted :
    (let s : State := senderDev
     let h : IngHdr := hdr
     s.live = true ∧
     s.isSender = true ∧
     h.bad = false ∧
     s.slotOf h.port = none) ∧
    (let s : State := senderDev
     let t : Cyc := 5
     let h : IngHdr := hdr
     let no : Nat := 1
     let bytes : List Byte := [1]
     let c : Instr := .frameReq 5 hdr
     s.live = true ∧
     s.isSender = true ∧
     h.bad = false ∧
     s.slotOf h.port = none ∧
     (c = Instr.frameReq t h ∨ c = Instr.data t h bytes ∨ c = Instr.publish t h no)) ∧
    (let s : State := ingDev {}
     let h : IngHdr := { hdr with version := 2 }
     let i : Nat := 7
     s.live = true ∧
     s.isSender = true ∧
     h.bad = false ∧
     s.slotOf h.port = some i ∧
     h.version ≠ 1) ∧
    (let s : State := ingDev {}
     let h : IngHdr := hdr
     let f : PlaneFormat := { fmt16 with w := 17 }
     let i : Nat := 7
     s.live = true ∧
     s.isSender = true ∧
     h.bad = false ∧
     s.slotOf h.port = some i ∧
     h.version = 1 ∧
     f ≠ slotFormat s.rdAt i ∧
     (s.slot i).streaming = false) ∧
    (let s : State := ingDev {}
     let h : IngHdr := hdr
     let f : PlaneFormat := fmt16
     let i : Nat := 7
     s.live = true ∧
     s.isSender = true ∧
     h.bad = false ∧
     s.slotOf h.port = some i ∧
     h.version = 1 ∧
     f = slotFormat s.rdAt i) ∧
    (let s : State := ingDev { stream with opened := none }
     let h : IngHdr := hdr
     let i : Nat := 7
     s.live = true ∧
     s.isSender = true ∧
     h.bad = false ∧
     h.version = 1 ∧
     s.slotOf h.port = some i ∧
     (s.slot i).streaming = true ∧
     (s.slot i).opened = none) ∧
    (let s : State := ingDev stream
     let h : IngHdr := hdr
     let i : Nat := 7
     let o : Nat := 3
     s.live = true ∧
     s.isSender = true ∧
     h.bad = false ∧
     h.version = 1 ∧
     s.slotOf h.port = some i ∧
     (s.slot i).streaming = true ∧
     (s.slot i).opened = some o ∧
     (s.slot i).taken = false) ∧
    (let s : State := ingDev { stream with taken := true }
     let h : IngHdr := hdr
     let i : Nat := 7
     let o : Nat := 3
     s.live = true ∧
     s.isSender = true ∧
     h.bad = false ∧
     h.version = 1 ∧
     s.slotOf h.port = some i ∧
     (s.slot i).streaming = true ∧
     (s.slot i).opened = some o ∧
     (s.slot i).taken = true) := by
  refine ⟨?_, ?_, ?_, ?_, ?_, ?_, ?_, ?_⟩
  · ((try dsimp only [State.Writes, State.Fresh, State.Powered]) <;> decide +kernel)
  · ((try dsimp only [State.Writes, State.Fresh, State.Powered]) <;> decide +kernel)
  · ((try dsimp only [State.Writes, State.Fresh, State.Powered]) <;> decide +kernel)
  · ((try dsimp only [State.Writes, State.Fresh, State.Powered]) <;> decide +kernel)
  · ((try dsimp only [State.Writes, State.Fresh, State.Powered]) <;> decide +kernel)
  · ((try dsimp only [State.Writes, State.Fresh, State.Powered]) <;> decide +kernel)
  · ((try dsimp only [State.Writes, State.Fresh, State.Powered]) <;> decide +kernel)
  · ((try dsimp only [State.Writes, State.Fresh, State.Powered]) <;> decide +kernel)

theorem test_witness_DataIsStoredAndPublished :
    (let s : State := ingDev stream
     let h : IngHdr := { hdr with len := 16 }
     let bytes : List Byte := List.replicate 16 9
     let i : Nat := 7
     let off : Nat := 0
     s.live = true ∧
     s.isSender = true ∧
     h.bad = false ∧
     h.version = 1 ∧
     s.slotOf h.port = some i ∧
     (s.slot i).streaming = true ∧
     h.len = bytes.length ∧
     h.len % 8 = 0 ∧ 8 ≤ h.len ∧ h.len ≤ 4096 ∧
     seqCheck (s.slot i).consumed h.seq (ceilDiv h.len 64) = SeqCheck.inOrder ∧
     (s.slot i).opened = some h.buf ∧
     (s.slot i).gen h.buf = h.gen ∧
     dataPlace (slotFormat s.rdAt i) h bytes.length = some off ∧
     (s.slot i).fenced h.buf = false ∧
     (s.slot i).held = [] ∧
     (s.slot i).waiting = [] ∧
     (s.slot i).opened = some h.buf ∧ (s.slot i).gen h.buf = h.gen ∧
     ¬((s.slot i).fault = none ∧ (s.slot i).written = packedSize (slotFormat s.rdAt i))) ∧
    (let s : State := ingDev { stream with consumed := 1 }
     let h : IngHdr := { hdr with len := 8 }
     let i : Nat := 7
     s.live = true ∧
     s.isSender = true ∧
     h.bad = false ∧
     h.version = 1 ∧
     s.slotOf h.port = some i ∧
     (s.slot i).streaming = true ∧
     seqCheck (s.slot i).consumed h.seq (ceilDiv h.len 64) = SeqCheck.outOfOrder) ∧
    (let s : State := ingDev stream
     let h : IngHdr := { hdr with len := 8, seq := 2 }
     let i : Nat := 7
     s.live = true ∧
     s.isSender = true ∧
     h.bad = false ∧
     h.version = 1 ∧
     s.slotOf h.port = some i ∧
     (s.slot i).streaming = true ∧
     seqCheck (s.slot i).consumed h.seq (ceilDiv h.len 64) = SeqCheck.gap) ∧
    (let s : State := ingDev stream
     let h : IngHdr := { hdr with len := 4104, seq := 65 }
     let i : Nat := 7
     s.live = true ∧
     s.isSender = true ∧
     h.bad = false ∧
     h.version = 1 ∧
     s.slotOf h.port = some i ∧
     (s.slot i).streaming = true ∧
     ¬(h.len % 8 = 0 ∧ 8 ≤ h.len ∧ h.len ≤ 4096) ∧
     seqCheck (s.slot i).consumed h.seq (ceilDiv h.len 64) ≠ SeqCheck.outOfOrder) ∧
    (let s : State := ingDev { stream with written := 768 }
     let h : IngHdr := hdr
     let i : Nat := 7
     s.live = true ∧
     s.isSender = true ∧
     h.bad = false ∧
     h.version = 1 ∧
     s.slotOf h.port = some i ∧
     (s.slot i).streaming = true ∧
     (s.slot i).held = [] ∧
     (s.slot i).waiting = [] ∧
     (s.slot i).opened = some h.buf ∧ (s.slot i).gen h.buf = h.gen ∧
     (s.slot i).fault = none ∧ (s.slot i).written = packedSize (slotFormat s.rdAt i) ∧
     s.rdAt Obj.ING_FRAMES_PUBLISHED i 0 < 4294967295) ∧
    (let s : State := ingDev { stream with opened := none, accepted := [(3, 0)] }
     let h : IngHdr := hdr
     let i : Nat := 7
     s.live = true ∧
     s.isSender = true ∧
     h.bad = false ∧
     h.version = 1 ∧
     s.slotOf h.port = some i ∧
     (s.slot i).streaming = true ∧
     (s.slot i).held = [] ∧
     (s.slot i).waiting = [] ∧
     ¬((s.slot i).opened = some h.buf ∧ (s.slot i).gen h.buf = h.gen) ∧
     (h.buf, h.gen) ∈ (s.slot i).accepted) ∧
    (let s : State := ingDev { stream with opened := none }
     let h : IngHdr := hdr
     let i : Nat := 7
     s.live = true ∧
     s.isSender = true ∧
     h.bad = false ∧
     h.version = 1 ∧
     s.slotOf h.port = some i ∧
     (s.slot i).streaming = true ∧
     (s.slot i).held = [] ∧
     (s.slot i).waiting = [] ∧
     ¬((s.slot i).opened = some h.buf ∧ (s.slot i).gen h.buf = h.gen) ∧
     ¬(h.buf, h.gen) ∈ (s.slot i).accepted) ∧
    (let s : State := ingDev { stream with held := [aHeld] }
     let h : IngHdr := hdr
     let i : Nat := 7
     s.live = true ∧
     s.isSender = true ∧
     h.bad = false ∧
     h.version = 1 ∧
     s.slotOf h.port = some i ∧
     (s.slot i).streaming = true ∧
     (s.slot i).held ≠ []) := by
  refine ⟨?_, ?_, ?_, ?_, ?_, ?_, ?_, ?_⟩
  · refine ⟨?_, ?_, ?_, ?_, ?_, ?_, ?_, ?_, ?_, ?_, ?_, ?_, ?_, ?_, ?_, ?_, ?_⟩ <;> ((try dsimp only [State.Writes, State.Fresh, State.Powered]) <;> decide +kernel)
  · ((try dsimp only [State.Writes, State.Fresh, State.Powered]) <;> decide +kernel)
  · ((try dsimp only [State.Writes, State.Fresh, State.Powered]) <;> decide +kernel)
  · ((try dsimp only [State.Writes, State.Fresh, State.Powered]) <;> decide +kernel)
  · refine ⟨?_, ?_, ?_, ?_, ?_, ?_, ?_, ?_, ?_, ?_, ?_⟩ <;> ((try dsimp only [State.Writes, State.Fresh, State.Powered]) <;> decide +kernel)
  · refine ⟨?_, ?_, ?_, ?_, ?_, ?_, ?_, ?_, ?_, ?_⟩ <;> ((try dsimp only [State.Writes, State.Fresh, State.Powered]) <;> decide +kernel)
  · refine ⟨?_, ?_, ?_, ?_, ?_, ?_, ?_, ?_, ?_, ?_⟩ <;> ((try dsimp only [State.Writes, State.Fresh, State.Powered]) <;> decide +kernel)
  · ((try dsimp only [State.Writes, State.Fresh, State.Powered]) <;> decide +kernel)

theorem test_witness_IngestTimersRun :
    (let s : State := ingDev { stream with waiting := [aWait], written := 768 }
     let i : Nat := 7
     let w : PubWait := aWait
     let t : Cyc := 0
     let buf : Nat := 0
     let l : Nat := 0
     s.live = true ∧
     s.isSender = true ∧
     (s.slot i).waiting = [w] ∧
     (s.slot i).held = [] ∧
     (s.slot i).opened = some w.buf ∧
     (s.slot i).gen w.buf = w.gen ∧
     (s.slot i).fault = none ∧
     (s.slot i).written = packedSize (slotFormat s.rdAt i) ∧
     s.slotOn i = true ∧
     (s.slot i).freed = (s.slot i).creditSent ∧
     max s.now t < (s.slot i).creditAt + us 100 ∧
     (∀ (q : Nat × Nat), q ∈ (s.slot i).leaving → q.snd ≠ buf) ∧
     s.rdAt Obj.LAYER_FETCH_ERRORS l 0 < 4294967295) ∧
    (let s : State := ingDev stream
     let t : Cyc := 150000
     let i : Nat := 7
     s.live = true ∧
     s.isSender = true ∧
     s.slotOn i = true ∧
     ((s.slot i).freed ≠ (s.slot i).creditSent ∨ (s.slot i).streaming = true ∧ (s.slot i).creditAt + us 100 ≤ max s.now t)) ∧
    (let s : State := ingDev { stream with held := [aHeld] }
     let i : Nat := 7
     let buf : Nat := 3
     let d : HeldData := aHeld
     s.live = true ∧
     s.isSender = true ∧
     (∀ (q : Nat × Nat), q ∈ (s.slot i).leaving → q.snd ≠ buf) ∧
     (s.slot i).newest ≠ some buf ∧
     (s.slot i).opened = some buf ∧
     (s.slot i).waiting = [] ∧
     (s.slot i).held = [d] ∧
     d.buf = buf) ∧
    (let s : State := ingDev { stream with leaving := [(4, 3)], epoch := 5, fetching := [3] }
     let i : Nat := 7
     let buf : Nat := 3
     let q : Nat × Nat := (4, 3)
     s.live = true ∧
     s.isSender = true ∧
     (List.find? (fun r => r.snd == buf) (s.slot i).leaving = some q)) ∧
    (let s : State := ingDev { stream with lastPub := some 0 }
     let t : Cyc := 150000000
     let p0 : Cyc := 0
     let i : Nat := 7
     s.live = true ∧
     s.isSender = true ∧
     i < 8 ∧
     (s.slot i).lastPub = some p0 ∧
     s.slotOn i = true ∧
     (s.slot i).stale = false ∧
     p0 + ms (s.natAt Obj.ING_STALE_TIMEOUT i 0) ≤ max s.now t) ∧
    (let s : State := ingDev { stream with lastPub := some 0 }
     let t : Cyc := 149999999
     let p0 : Cyc := 0
     let i : Nat := 7
     s.live = true ∧
     s.isSender = true ∧
     i < 8 ∧
     (s.slot i).lastPub = some p0 ∧
     s.slotOn i = true ∧
     (s.slot i).stale = false ∧
     max s.now t < p0 + ms (s.natAt Obj.ING_STALE_TIMEOUT i 0)) := by
  refine ⟨?_, ?_, ?_, ?_, ?_, ?_⟩
  · refine ⟨?_, ?_, ?_, ?_, ?_, ?_, ?_, ?_, ?_, ?_, ?_, ?_, ?_⟩ <;> ((try dsimp only [State.Writes, State.Fresh, State.Powered]) <;> decide +kernel)
  · ((try dsimp only [State.Writes, State.Fresh, State.Powered]) <;> decide +kernel)
  · ((try dsimp only [State.Writes, State.Fresh, State.Powered]) <;> decide +kernel)
  · ((try dsimp only [State.Writes, State.Fresh, State.Powered]) <;> decide +kernel)
  · ((try dsimp only [State.Writes, State.Fresh, State.Powered]) <;> decide +kernel)
  · ((try dsimp only [State.Writes, State.Fresh, State.Powered]) <;> decide +kernel)

theorem test_witness_StillLayersAreWritten :
    (let s : State := still14 {}
     let t : Cyc := 5
     let m : Msg := msg
     let l : Nat := 14
     let off : Nat := 0
     let bytes : List Byte := [1, 2]
     l < 15 ∧
     s.Writes t m Obj.LAYER_STILL_DATA l 0 (.window off bytes) ∧
     (s.still l).fetching.contains (s.still l).target = false ∧
     s.Writes t m Obj.LAYER_STILL_PUBLISH l 0 (.num 1) ∧
     (s.still l).publish = false) ∧
    (let s : State := still14 { fetching := [0, 1] }
     let t : Cyc := 5
     let m : Msg := msg
     let l : Nat := 14
     let off : Nat := 0
     let bytes : List Byte := [1, 2]
     l < 15 ∧
     s.Writes t m Obj.LAYER_STILL_DATA l 0 (.window off bytes) ∧
     (s.still l).fetching.contains (s.still l).target = true) ∧
    (let s : State := still14 { publish := true }
     let t : Cyc := 5
     let m : Msg := msg
     let l : Nat := 14
     l < 15 ∧
     s.Writes t m Obj.LAYER_STILL_PUBLISH l 0 (.num 1) ∧
     (s.still l).publish = true) ∧
    (let s : State := (still14 { held := [(2, 1, 5, [9])], fetching := [1] }).setSession 2 { sess .integrator with transport := .mgmt, busy := some (0x11, writeReply 0) }
     let l : Nat := 14
     let buf : Nat := 1
     let k : Nat := 2
     let off : Nat := 5
     let op : Nat := 0x11
     let b : Byte := 9
     let r : Reply := writeReply 0
     s.live = true ∧
     (s.still l).held = [(k, buf, off, [b])] ∧
     (s.session k).isOpen = true ∧
     (s.session k).busy = some (op, r) ∧
     (s.session k).transport = Transport.mgmt ∧
     (s.session k).own + 1 < 4294967295) := by
  refine ⟨?_, ?_, ?_, ?_⟩
  · refine ⟨?_, ?_, ?_, ?_, ?_⟩ <;> ((try dsimp only [State.Writes, State.Fresh, State.Powered]) <;> decide +kernel)
  · ((try dsimp only [State.Writes, State.Fresh, State.Powered]) <;> decide +kernel)
  · ((try dsimp only [State.Writes, State.Fresh, State.Powered]) <;> decide +kernel)
  · ((try dsimp only [State.Writes, State.Fresh, State.Powered]) <;> decide +kernel)

theorem test_witness_HearthImageIsWrittenAndProtected :
    (let s : State := hearthDev
     let t : Cyc := 5
     let m : Msg := msg
     let off : Nat := 0
     let bytes : List Byte := [1, 2]
     let v : Nat := 128
     let height : Bool := true
     let word : Nat := 0
     s.Writes t m Obj.HEARTH_IMAGE 0 0 (.window off bytes) ∧
     s.video.hearth.written = false ∧
     s.video.hearth.copying = false ∧
     s.Writes t m (if height = true then Obj.HEARTH_HEIGHT else Obj.HEARTH_WIDTH) 0 0 (.num ↑v) ∧
     s.shAt (if height = true then Obj.HEARTH_HEIGHT else Obj.HEARTH_WIDTH) 0 0 ≠ ↑v ∧
     s.live = true ∧
     s.isSender = true ∧
     word < (s.hearthPixels + 1) / 2 ∧
     word < 2 ^ 20 ∧
     ¬2 ^ 20 + word ∈ s.video.hearth.bad ∧
     s.rd Obj.HEARTH_CORRECTED < 4294967295) ∧
    (let s : State := withSess (withHearth hearthDev fun x => { x with written := true }) fun x => { x with armed := [⟨1, 2 ^ 21, 9, 1, [], [], 0⟩] }
     let t : Cyc := 5
     let m : Msg := msg
     let off : Nat := 0
     let bytes : List Byte := [1, 2]
     s.Writes t m Obj.HEARTH_IMAGE 0 0 (.window off bytes) ∧
     s.video.hearth.written = true ∧
     (∃ a, a ∈ s.sess.armed ∧ bit a.scope 21 = true)) ∧
    (let s : State := withHearth hearthDev fun x => { x with copying := true }
     let t : Cyc := 0
     let m : Msg := Tests.msg
     let off : Nat := 0
     let bytes : List Byte := []
     s.Writes t m Obj.HEARTH_IMAGE 0 0 (.window off bytes) ∧
     s.video.hearth.written = false ∧
     s.video.hearth.copying = true ∧
     s.live = true ∧
     s.video.hearth.held = []) ∧
    (let s : State := withHearth hearthDev fun x => { x with bad := [2 ^ 20 + 127] }
     let word : Nat := 127
     s.live = true ∧
     s.isSender = true ∧
     word < (s.hearthPixels + 1) / 2 ∧
     word < 2 ^ 20 ∧
     s.video.hearth.copying = false ∧
     2 ^ 20 + word ∈ s.video.hearth.bad) := by
  refine ⟨?_, ?_, ?_, ?_⟩
  · refine ⟨?_, ?_, ?_, ?_, ?_, ?_, ?_, ?_, ?_, ?_, ?_⟩ <;> ((try dsimp only [State.Writes, State.Fresh, State.Powered]) <;> decide +kernel)
  · ((try dsimp only [State.Writes, State.Fresh, State.Powered]) <;> decide +kernel)
  · ((try dsimp only [State.Writes, State.Fresh, State.Powered]) <;> decide +kernel)
  · ((try dsimp only [State.Writes, State.Fresh, State.Powered]) <;> decide +kernel)

theorem test_witness_PortClocksAndEyes :
    (let s : State := (tileAt.wrAt Obj.PHY_RX_CLK_SRC 1 0 0).setRx 1 2
     let t : Cyc := 15005
     let p : Nat := 1
     let lane : Nat := 3
     let d : Int := -3
     s.live = true ∧
     p < 16 ∧
     lane < 4 ∧
     s.portHears p = true ∧
     s.rxState p ≠ 1 ∧
     -128 ≤ d ∧
     d ≤ 127 ∧
     s.rdAt Obj.PHY_RX_CLK_SRC p 0 = 0 ∧
     2 < d.natAbs ∧
     (∀ (q : Nat × Cyc), q ∈ (s.port p).stepAt → q.fst = lane → q.snd + us 10 ≤ max s.now t) ∧
     s.forwarded p = true ∧
     s.deadPort p = false ∧
     1 ≤ s.rxState p ∧
     s.rxState p ≤ 3 ∧
     (s.port p).retryAt = none) ∧
    (let s : State := (tileAt.wrAt Obj.PHY_RX_CLK_SRC 1 0 0).setRx 1 2
     let p : Nat := 1
     let lane : Nat := 3
     let d : Int := -2
     s.live = true ∧
     p < 16 ∧
     lane < 4 ∧
     s.portHears p = true ∧
     s.rxState p ≠ 1 ∧
     -128 ≤ d ∧
     d ≤ 127 ∧
     d.natAbs ≤ 2) ∧
    (let s : State := tileDev.wrAt Obj.PHY_RX_CLK_SRC 15 0 0
     let p : Nat := 15
     let lane : Nat := 3
     let width : Nat := 0
     s.live = true ∧
     p < 16 ∧
     lane < 4 ∧
     (s.portHears p = false ∨ s.rxState p = 1) ∧
     width ≤ 64) ∧
    (let s : State := (tileAt.wrAt Obj.PHY_RX_CLK_SRC 1 0 0).setRx 1 4
     let p : Nat := 1
     let lane : Nat := 3
     s.live = true ∧
     p < 16 ∧
     lane < 4 ∧
     s.forwarded p = true ∧
     s.rdAt Obj.PHY_RX_CLK_SRC p 0 = 0 ∧
     s.deadPort p = false ∧
     (4 ≤ s.rxState p ∧ s.rxState p ≤ 6 ∨ s.rxState p = 9)) ∧
    (let s : State := (tileDev.wrAt Obj.PHY_RX_CLK_SRC 15 0 1).setRx 15 4
     let p : Nat := 15
     let lane : Nat := 3
     s.live = true ∧
     p < 16 ∧
     lane < 4 ∧
     s.forwarded p = true ∧
     s.flagAt Obj.PHY_CLK_RETURN p 0 = true ∧
     s.rdAt Obj.PHY_RX_CLK_SRC p 0 = 1) ∧
    (let s : State := tileDev.setPort 15 { eyeAt := [(3, 0)] }
     let t : Cyc := 15000000000
     let p : Nat := 15
     let lane : Nat := 3
     let t0 : Cyc := 0
     s.live = true ∧
     p < 16 ∧
     lane < 4 ∧
     (List.find? (fun q => q.fst == lane) (s.port p).eyeAt = some (lane, t0)) ∧
     t0 + seconds 10 ≤ max s.now t) := by
  refine ⟨?_, ?_, ?_, ?_, ?_, ?_⟩
  · refine ⟨?_, ?_, ?_, ?_, ?_, ?_, ?_, ?_, ?_, ?_, ?_, ?_, ?_, ?_, ?_⟩ <;> ((try dsimp only [State.Writes, State.Fresh, State.Powered]) <;> decide +kernel)
  · ((try dsimp only [State.Writes, State.Fresh, State.Powered]) <;> decide +kernel)
  · ((try dsimp only [State.Writes, State.Fresh, State.Powered]) <;> decide +kernel)
  · ((try dsimp only [State.Writes, State.Fresh, State.Powered]) <;> decide +kernel)
  · ((try dsimp only [State.Writes, State.Fresh, State.Powered]) <;> decide +kernel)
  · ((try dsimp only [State.Writes, State.Fresh, State.Powered]) <;> decide +kernel)

theorem test_witness_PortsTrain :
    (let s : State := tileAt.setRx 1 1
     let p : Nat := 1
     let w : Nat := aSlot 0
     let ws : List Nat := [aSlot (2 ^ 46), aSlot (2 * 2 ^ 46), aSlot (3 * 2 ^ 46)]
     let g : Nat × Bool := (aSlot 0, false)
     let gs : List (Nat × Bool) := [(aSlot (2 ^ 46), false), (aSlot (2 * 2 ^ 46), false), (aSlot (3 * 2 ^ 46), false)]
     s.live = true ∧
     p < 16 ∧
     s.deadPort p = false ∧
     s.rxState p ≠ 0 ∧
     s.nearLoop p = false ∧
     slotRead (w :: ws) = g :: gs ∧
     gs.length = 3 ∧
     bits g.fst 49 46 = 0 ∧
     (s.port p).retryAt = none ∧
     trainingOk w = true ∧
     bits w 49 46 = 0) ∧
    (let s : State := tileDev.setRx 15 1
     let t : Cyc := 150000
     let p : Nat := 15
     s.live = true ∧
     p < 16 ∧
     1 ≤ s.rxState p ∧
     s.rxState p ≤ 4 ∧
     (s.port p).retryAt = none ∧
     (s.upTo t).stageOver p = true) ∧
    (let s : State := tileDev.setPort 15 { retryAt := some 5 }
     let t : Cyc := 5
     let p : Nat := 15
     let t0 : Cyc := 5
     s.live = true ∧
     p < 16 ∧
     (s.port p).retryAt = some t0 ∧
     t0 ≤ max s.now t) ∧
    (let s : State := tileDev.setTx 1 1
     let t : Cyc := 30000000
     let p : Nat := 1
     s.live = true ∧
     p < 16 ∧
     s.txState p = 1 ∧
     ((s.port p).lastTrain + ms 20 ≤ max s.now t ∨ ∃ t0, (s.port p).farReady = some t0 ∧ (s.port p).farState = some 4 ∧
        (s.rxState p = 5 ∨ s.rxState p = 6 ∨ t0 + ms 20 ≤ max s.now t)) ∧
     (s.configured = false ∨ s.named p = true)) := by
  refine ⟨?_, ?_, ?_, ?_⟩
  · refine ⟨?_, ?_, ?_, ?_, ?_, ?_, ?_, ?_, ?_, ?_, ?_⟩ <;> ((try dsimp only [State.Writes, State.Fresh, State.Powered]) <;> decide +kernel)
  · ((try dsimp only [State.Writes, State.Fresh, State.Powered]) <;> decide +kernel)
  · ((try dsimp only [State.Writes, State.Fresh, State.Powered]) <;> decide +kernel)
  · ((try dsimp only [State.Writes, State.Fresh, State.Powered]) <;> decide +kernel)

theorem test_witness_PortsComeUpAndDown :
    (let s : State := tileDev
     let p : Nat := 15
     let lane : Nat := 3
     let t : Cyc := 0
     let loss : LaneLoss := { lane := 3, invalid := 7 }
     let m : Msg := Tests.msg
     let v : Nat := 0
     p < 16 ∧
     lane < 4 ∧
     loss.lane < 4 ∧
     s.live = true ∧
     s.portHears p = false ∧
     s.Writes t m Obj.PHY_LOOP p 0 (.num ↑v) ∧
     s.Writes t m Obj.PHY_TEST_PATTERN p 0 (.num ↑v)) ∧
    (let s : State := tileAt.setRx 1 6
     let p : Nat := 1
     let lane : Nat := 3
     let loss : LaneLoss := ⟨3, 7⟩
     p < 16 ∧
     lane < 4 ∧
     loss.lane < 4 ∧
     s.live = true ∧
     s.portHears p = true ∧
     (s.port p).byCmd = false ∧
     s.rdAt Obj.PHY_SYNC_ERRORS p loss.lane + ↑loss.invalid ≤ 4294967295) ∧
    (let s : State := (tileAt.setRx 1 9).setPort 1 { byCmd := true }
     let p : Nat := 1
     let lane : Nat := 3
     let loss : LaneLoss := ⟨0, 0⟩
     p < 16 ∧
     lane < 4 ∧
     loss.lane < 4 ∧
     s.live = true ∧
     s.portHears p = true ∧
     (s.port p).byCmd = true) ∧
    (let s : State := (tileDev.setRx 15 5).setPort 15 { good := 4, locks := [0, 1, 2, 3] }
     let p : Nat := 15
     let lane : Nat := 3
     let loss : LaneLoss := { lane := 3, invalid := 7 }
     p < 16 ∧
     lane < 4 ∧
     loss.lane < 4 ∧
     s.live = true ∧
     s.rdAt Obj.FRM_ALIGNED p 0 = 0 ∧
     4 ≤ (s.port p).good ∧
     (s.port p).locks.length = 4 ∧
     s.rxState p = 5) ∧
    (let s : State := ((tileDev.setRx 15 6).wrAt Obj.FRM_ALIGNED 15 0 1).setPort 15 { bad := 8 }
     let p : Nat := 15
     let lane : Nat := 3
     let loss : LaneLoss := { lane := 3, invalid := 7 }
     p < 16 ∧
     lane < 4 ∧
     loss.lane < 4 ∧
     s.live = true ∧
     s.rdAt Obj.FRM_ALIGNED p 0 = 1 ∧
     8 ≤ (s.port p).bad) ∧
    (let s : State := tileDev.setPort 15 { wakeAt := some 0 }
     let t : Cyc := 3000
     let p : Nat := 15
     let lane : Nat := 3
     let t0 : Cyc := 0
     let loss : LaneLoss := { lane := 3, invalid := 7 }
     p < 16 ∧
     lane < 4 ∧
     loss.lane < 4 ∧
     s.live = true ∧
     (s.port p).wakeAt = some t0 ∧
     s.rxState p ≠ 6 ∧
     (t0 + us 2 ≤ max s.now t ∨ (s.port p).clockLost = true)) ∧
    (let s : State := tileDev
     let t : Cyc := 5
     let m : Msg := msg
     let p : Nat := 1
     let lane : Nat := 3
     let loss : LaneLoss := { lane := 3, invalid := 7 }
     p < 16 ∧
     lane < 4 ∧
     loss.lane < 4 ∧
     s.Writes t m Obj.PHY_RETRAIN p 0 (.num 1) ∧
     (s.isSender = true ∨ p < 2) ∧
     s.Writes t m Obj.PHY_RETRAIN p 0 (.num 2)) := by
  refine ⟨?_, ?_, ?_, ?_, ?_, ?_, ?_⟩
  · refine ⟨?_, ?_, ?_, ?_, ?_, ?_, ?_⟩ <;> ((try dsimp only [State.Writes, State.Fresh, State.Powered]) <;> decide +kernel)
  · ((try dsimp only [State.Writes, State.Fresh, State.Powered]) <;> decide +kernel)
  · ((try dsimp only [State.Writes, State.Fresh, State.Powered]) <;> decide +kernel)
  · ((try dsimp only [State.Writes, State.Fresh, State.Powered]) <;> decide +kernel)
  · ((try dsimp only [State.Writes, State.Fresh, State.Powered]) <;> decide +kernel)
  · ((try dsimp only [State.Writes, State.Fresh, State.Powered]) <;> decide +kernel)
  · refine ⟨?_, ?_, ?_, ?_, ?_, ?_⟩ <;> ((try dsimp only [State.Writes, State.Fresh, State.Powered]) <;> decide +kernel)

theorem test_witness_LinkFramesAndPacketsPass :
    (let body : List Blk := List.replicate 31 (false, 2 ^ 64 - 1)
     body.length = 31 ∧
     (∀ (b : Blk), b ∈ body → b.snd < 2 ^ 64)) ∧
    (let s : State := tileAt
     let p : Nat := 15
     s.live = true ∧
     p < 16 ∧
     s.portHears p = false) ∧
    (let s : State := tileAt.setRx 1 6
     let p : Nat := 1
     s.live = true ∧
     p < 16 ∧
     s.portHears p = true ∧
     s.nearLoop p = false ∧
     s.flagAt Obj.PHY_TEST_PATTERN p 0 = false ∧
     s.rdAt Obj.FRM_FRAMES p 0 < 4294967295 ∧
     s.rdAt Obj.FRM_CRC_ERRORS p 0 < 4294967295) ∧
    (let s : State := (withSys (chimDev.setTx 15 2) fun x => { x with composing := true }).wr Obj.DEV_ENG_IN_SERVICE 512
     let t : Cyc := 5
     let p : Nat := 15
     let r : Cyc := 0
     s.live = true ∧
     p < 16 ∧
     s.isSender = true ∧
     (s.chimneyOf p).isSome = true ∧
     (s.upTo t).requests p = [(3, r)] ∧
     (s.upTo t).gapDue p = true ∧
     s.rdAt Obj.FRM_GAPS p 0 < 4294967295) ∧
    (let s : State := chimDev.setEgress 15 { gapAt := some 5 }
     let t : Cyc := 5
     let p : Nat := 15
     s.live = true ∧
     p < 16 ∧
     s.isSender = true ∧
     (s.chimneyOf p).isSome = true ∧
     (s.upTo t).gapDue p = false) ∧
    (let s : State := chimDev
     let t : Cyc := 150000
     let p : Nat := 15
     s.live = true ∧
     p < 16 ∧
     s.isSender = true ∧
     (s.chimneyOf p).isSome = true ∧
     ((s.egress p).ticks + 1) * 800 ≤ positionsIn (max s.now t - (s.egress p).since)) ∧
    (let s : State := chimDev
     let p : Nat := 15
     let t : Cyc := 0
     s.live = true ∧
     p < 16 ∧
     s.isSender = true ∧
     (s.chimneyOf p).isSome = true ∧
     positionsIn (max s.now t - (s.egress p).since) < ((s.egress p).ticks + 1) * 800) ∧
    (let s : State := (tileAt.setTx 1 2).setEgress 1 { queue := [aPkt] }
     let t : Cyc := 5
     let p : Nat := 1
     let ahead : Nat := 62
     let k : OutPkt := aPkt
     s.live = true ∧
     p < 16 ∧
     s.isTile = true ∧
     p < 2 ∧
     s.sends p = true ∧
     s.faultWaiting p = none ∧
     (s.egress p).queue = [k] ∧
     k.cls < 8 ∧
     s.nat Obj.TILE_ADDRESS ≠ 0 ∧
     k.blocks ≤ (((s.upTo t).relayOn p ahead).headRun p).fst ∧
     ((((s.upTo t).relayOn p ahead).headRun p).snd = false ∨ 127 ≤ (((s.upTo t).relayOn p ahead).egress p).sinceGap) ∧
     (k.typ = 48 → ∃ n, k.words = [2, 0, ↑n, 0, 0])) ∧
    (let s : State := (tileAt.setTx 1 2).setEgress 1 { queue := [{ aPkt with blocks := 40 }] }
     let t : Cyc := 5
     let p : Nat := 1
     let ahead : Nat := 3
     let k : OutPkt := { aPkt with blocks := 40 }
     s.live = true ∧
     p < 16 ∧
     s.isTile = true ∧
     p < 2 ∧
     s.sends p = true ∧
     s.faultWaiting p = none ∧
     (s.egress p).queue = [k] ∧
     k.cls < 8 ∧
     (k.blocks > (((s.upTo t).relayOn p ahead).headRun p).fst ∨ ¬((((s.upTo t).relayOn p ahead).headRun p).snd =
        false ∨ 127 ≤ (((s.upTo t).relayOn p ahead).egress p).sinceGap) ∨ s.nat Obj.TILE_ADDRESS = 0 ∧ k.typ ≠ 56)) ∧
    (let s : State := (tileAt.setTx 1 3).setEgress 1 { queue := [aPkt] }
     let t : Cyc := 5
     let p : Nat := 1
     let ahead : Nat := 62
     let k : OutPkt := aPkt
     s.live = true ∧
     p < 16 ∧
     s.isTile = true ∧
     p < 2 ∧
     s.sends p = true ∧
     s.faultWaiting p = none ∧
     (s.egress p).queue = [k] ∧
     k.cls < 8 ∧
     s.txState p = 3 ∧
     ((((s.upTo t).relayOn p ahead).headRun p).snd = false ∨ 127 ≤ (((s.upTo t).relayOn p ahead).egress p).sinceGap) ∧
     4 ≤ (((s.upTo t).relayOn p ahead).headRun p).fst ∧
     64 ≤ (((s.upTo t).relayOn p ahead).egress p).sinceGroup ∧
     (((s.upTo t).relayOn p ahead).egress p).part.length % 4 = 0 ∧
     (((s.upTo t).relayOn p ahead).egress p).part.length ≤ 24) ∧
    (let s : State := withFlt tileDev fun x => { x with reports := [aReport] }
     let p : Nat := 1
     let r : Report := aReport
     let rs : List Report := []
     s.live = true ∧
     p < 16 ∧
     s.isTile = true ∧
     s.nat Obj.TILE_ADDRESS = 0 ∧
     s.paths.unaddrAt = none ∧
     s.flt.reports = r :: rs) ∧
    (let s : State := withFlt tileDev fun x => { x with ash := [{ anEntry with source := 7 }] }
     let p : Nat := 1
     let e : AshEntry := { anEntry with source := 7 }
     s.live = true ∧
     p < 16 ∧
     s.isTile = true ∧
     s.nat Obj.TILE_ADDRESS = 0 ∧
     s.paths.unaddrAt = none ∧
     s.flt.reports = [] ∧
     (List.find? (fun e => e.source == 7) s.flt.ash = some e)) ∧
    (let s : State := withPaths tileAt fun x => { x with frames := [aFrame] }
     let t : Cyc := 90000
     let p : Nat := 1
     let f : RxFrame := aFrame
     let rest : List RxFrame := []
     s.live = true ∧
     p < 16 ∧
     s.paths.frames = f :: rest ∧
     (∀ (g : RxFrame), g ∈ rest → g.k ≠ f.k) ∧
     f.closeAt ≤ max s.now t) ∧
    (let s : State := withPaths tileAt fun x => { x with frames := [aFrame] }
     let t : Cyc := 89999
     let p : Nat := 1
     let f : RxFrame := aFrame
     let rest : List RxFrame := []
     s.live = true ∧
     p < 16 ∧
     s.paths.frames = f :: rest ∧
     (∀ (g : RxFrame), g ∈ rest → g.k ≠ f.k) ∧
     max s.now t < f.closeAt) := by
  refine ⟨?_, ?_, ?_, ?_, ?_, ?_, ?_, ?_, ?_, ?_, ?_, ?_, ?_, ?_⟩
  · ((try dsimp only [State.Writes, State.Fresh, State.Powered]) <;> decide +kernel)
  · ((try dsimp only [State.Writes, State.Fresh, State.Powered]) <;> decide +kernel)
  · ((try dsimp only [State.Writes, State.Fresh, State.Powered]) <;> decide +kernel)
  · ((try dsimp only [State.Writes, State.Fresh, State.Powered]) <;> decide +kernel)
  · ((try dsimp only [State.Writes, State.Fresh, State.Powered]) <;> decide +kernel)
  · ((try dsimp only [State.Writes, State.Fresh, State.Powered]) <;> decide +kernel)
  · ((try dsimp only [State.Writes, State.Fresh, State.Powered]) <;> decide +kernel)
  · refine ⟨?_, ?_, ?_, ?_, ?_, ?_, ?_, ?_, ?_, ?_, ?_, ?_⟩ <;> first | ((try dsimp only [State.Writes, State.Fresh, State.Powered]) <;> decide +kernel) | exact fun h => absurd h (by decide)
  · ((try dsimp only [State.Writes, State.Fresh, State.Powered]) <;> decide +kernel)
  · refine ⟨?_, ?_, ?_, ?_, ?_, ?_, ?_, ?_, ?_, ?_, ?_, ?_, ?_, ?_⟩ <;> ((try dsimp only [State.Writes, State.Fresh, State.Powered]) <;> decide +kernel)
  · ((try dsimp only [State.Writes, State.Fresh, State.Powered]) <;> decide +kernel)
  · ((try dsimp only [State.Writes, State.Fresh, State.Powered]) <;> decide +kernel)
  · ((try dsimp only [State.Writes, State.Fresh, State.Powered]) <;> decide +kernel)
  · ((try dsimp only [State.Writes, State.Fresh, State.Powered]) <;> decide +kernel)

theorem test_witness_ControlMessagesAreAssembled :
    (let s : State := tileAt
     let p : Nat := 1
     let g : CtrlSeg := { aSeg with dst := 127 }
     s.live = true ∧
     p < 16 ∧
     s.isTile = true ∧
     (s.deadPort p = true ∨ g.dst ≠ s.nat Obj.TILE_ADDRESS ∧ g.dst ≠ 255)) ∧
    (let s : State := tileAt
     let p : Nat := 1
     let g : CtrlSeg := { aSeg with dst := 0xFF, complete := false }
     s.live = true ∧
     p < 16 ∧
     s.isTile = true ∧
     s.deadPort p = false ∧
     s.nat Obj.TILE_ADDRESS ≠ 0 ∧
     (g.dst = s.nat Obj.TILE_ADDRESS ∨ g.dst = 255) ∧
     g.complete = false ∧
     s.rdAt Obj.FRM_INCOMPLETE p 0 < 4294967295) ∧
    (let s : State := tileAt
     let t : Cyc := 5
     let p : Nat := 1
     let g : CtrlSeg := aSeg
     s.live = true ∧
     p < 16 ∧
     s.isTile = true ∧
     s.deadPort p = false ∧
     s.nat Obj.TILE_ADDRESS ≠ 0 ∧
     (g.dst = s.nat Obj.TILE_ADDRESS ∨ g.dst = 255) ∧
     g.complete = true ∧
     g.seg = 0 ∧
     g.last = true ∧
     ((List.filter (fun a => a.src == g.src && a.pathB == g.pathB) s.flue.asm).length < 8) ∧
     (s.upTo t).wasPassed g.src g.msgId = false) ∧
    (let s : State := withFlue tileAt fun x => { x with passed := [(0, 1, 0)] }
     let t : Cyc := 15000000
     let p : Nat := 1
     let g : CtrlSeg := aSeg
     s.live = true ∧
     p < 16 ∧
     s.isTile = true ∧
     s.deadPort p = false ∧
     s.nat Obj.TILE_ADDRESS ≠ 0 ∧
     (g.dst = s.nat Obj.TILE_ADDRESS ∨ g.dst = 255) ∧
     g.complete = true ∧
     g.seg = 0 ∧
     g.last = true ∧
     ((List.filter (fun a => a.src == g.src && a.pathB == g.pathB) s.flue.asm).length < 8) ∧
     (s.upTo t).wasPassed g.src g.msgId = true ∧
     s.rd Obj.FRM_CTRL_DUPS < 4294967295) ∧
    (let s : State := withFlue tileAt fun x => { x with asm := [⟨0, false, 1, 1, 0, [1]⟩] }
     let p : Nat := 1
     let g : CtrlSeg := { aSeg with seg := 1, last := false }
     let a : Asm := ⟨0, false, 1, 1, 0, [1]⟩
     s.live = true ∧
     p < 16 ∧
     s.isTile = true ∧
     s.deadPort p = false ∧
     s.nat Obj.TILE_ADDRESS ≠ 0 ∧
     (g.dst = s.nat Obj.TILE_ADDRESS ∨ g.dst = 255) ∧
     g.complete = true ∧
     g.seg ≠ 0 ∧
     g.seg ≤ 19 ∧
     s.flue.asm = [a] ∧
     a.is g.src g.pathB g.msgId = true ∧
     ¬(g.src, g.pathB, g.msgId) ∈ s.flue.refused ∧
     a.next = g.seg ∧
     g.last = false) ∧
    (let s : State := withFlue tileAt fun x => { x with asm := [⟨0, false, 1, 19, 0, [1]⟩] }
     let t : Cyc := 5
     let p : Nat := 1
     let g : CtrlSeg := { aSeg with seg := 19, last := true }
     let a : Asm := ⟨0, false, 1, 19, 0, [1]⟩
     s.live = true ∧
     p < 16 ∧
     s.isTile = true ∧
     s.deadPort p = false ∧
     s.nat Obj.TILE_ADDRESS ≠ 0 ∧
     (g.dst = s.nat Obj.TILE_ADDRESS ∨ g.dst = 255) ∧
     g.complete = true ∧
     g.seg ≠ 0 ∧
     g.seg ≤ 19 ∧
     s.flue.asm = [a] ∧
     a.is g.src g.pathB g.msgId = true ∧
     ¬(g.src, g.pathB, g.msgId) ∈ s.flue.refused ∧
     a.next = g.seg ∧
     g.last = true ∧
     (s.upTo t).wasPassed g.src g.msgId = false) ∧
    (let s : State := withFlue tileAt fun x => { x with asm := [⟨0, false, 1, 1, 0, [1]⟩] }
     let p : Nat := 1
     let g : CtrlSeg := { aSeg with seg := 2, last := true }
     let a : Asm := ⟨0, false, 1, 1, 0, [1]⟩
     s.live = true ∧
     p < 16 ∧
     s.isTile = true ∧
     s.deadPort p = false ∧
     s.nat Obj.TILE_ADDRESS ≠ 0 ∧
     (g.dst = s.nat Obj.TILE_ADDRESS ∨ g.dst = 255) ∧
     g.complete = true ∧
     g.seg ≠ 0 ∧
     g.seg ≤ 19 ∧
     s.flue.asm = [a] ∧
     a.is g.src g.pathB g.msgId = true ∧
     ¬(g.src, g.pathB, g.msgId) ∈ s.flue.refused ∧
     a.next ≠ g.seg) ∧
    (let s : State := withFlue tileAt fun x => { x with asm := [⟨0, false, 1, 1, 0, [1]⟩] }
     let t : Cyc := 1500000
     let p : Nat := 1
     let g : CtrlSeg := aSeg
     let a : Asm := ⟨0, false, 1, 1, 0, [1]⟩
     s.live = true ∧
     p < 16 ∧
     (List.find? (fun a => a.is g.src g.pathB g.msgId) s.flue.asm = some a) ∧
     a.start + ms 1 ≤ max s.now t ∧
     s.rd Obj.FRM_CTRL_TIMEOUTS < 4294967295) ∧
    (let s : State := chimDev.setChim 7 { fwd := [(0x10, msg, 64)] }
     let p : Nat := 1
     let c : Nat := 7
     let op : Nat := 0x10
     let m : Msg := msg
     let n : Nat := 64
     let rest : List (Nat × Msg × Nat) := []
     s.live = true ∧
     p < 16 ∧
     s.isSender = true ∧
     chimneyOn s.rdAt c = true ∧
     (s.chim c).fwd = (op, m, n) :: rest ∧
     (s.chim c).segs + segments n ≤ 32) := by
  refine ⟨?_, ?_, ?_, ?_, ?_, ?_, ?_, ?_, ?_⟩
  · ((try dsimp only [State.Writes, State.Fresh, State.Powered]) <;> decide +kernel)
  · ((try dsimp only [State.Writes, State.Fresh, State.Powered]) <;> decide +kernel)
  · refine ⟨?_, ?_, ?_, ?_, ?_, ?_, ?_, ?_, ?_, ?_, ?_⟩ <;> ((try dsimp only [State.Writes, State.Fresh, State.Powered]) <;> decide +kernel)
  · refine ⟨?_, ?_, ?_, ?_, ?_, ?_, ?_, ?_, ?_, ?_, ?_, ?_⟩ <;> ((try dsimp only [State.Writes, State.Fresh, State.Powered]) <;> decide +kernel)
  · refine ⟨?_, ?_, ?_, ?_, ?_, ?_, ?_, ?_, ?_, ?_, ?_, ?_, ?_, ?_⟩ <;> ((try dsimp only [State.Writes, State.Fresh, State.Powered]) <;> decide +kernel)
  · refine ⟨?_, ?_, ?_, ?_, ?_, ?_, ?_, ?_, ?_, ?_, ?_, ?_, ?_, ?_, ?_⟩ <;> ((try dsimp only [State.Writes, State.Fresh, State.Powered]) <;> decide +kernel)
  · refine ⟨?_, ?_, ?_, ?_, ?_, ?_, ?_, ?_, ?_, ?_, ?_, ?_, ?_⟩ <;> ((try dsimp only [State.Writes, State.Fresh, State.Powered]) <;> decide +kernel)
  · ((try dsimp only [State.Writes, State.Fresh, State.Powered]) <;> decide +kernel)
  · ((try dsimp only [State.Writes, State.Fresh, State.Powered]) <;> decide +kernel)

theorem test_witness_PtpFollowsItsMaster :
    (let s : State := ptpDev {}
     let a : PtpAnnounce := ann 9
     s.live = true ∧
     s.usesPtp a.domain = true ∧
     s.time.ptp.masters = [] ∧
     s.time.ptp.selected = none) ∧
    (let s : State := ptpDev { masters := [⟨{ ann 9 with priority1 := 129 }, 0⟩], selected := some 9 }
     let a : PtpAnnounce := ann 8
     let f : Foreign := ⟨{ ann 9 with priority1 := 129 }, 0⟩
     s.live = true ∧
     s.usesPtp a.domain = true ∧
     s.time.ptp.masters = [f] ∧
     s.time.ptp.selected = some f.ann.master ∧
     a.master ≠ f.ann.master ∧
     lexLess (PtpRank a) (PtpRank f.ann) = true ∧
     s.isSender = true ∧
     s.nat Obj.TIME_SOURCE = 1 ∧
     s.time.ptp.selected.isSome = true ∧
     s.time.ptp.reqAt = none) ∧
    (let s : State := ptpDev { selected := some 9 }
     let k : PtpSync := { sync1 with twoStep := false }
     s.live = true ∧
     s.usesPtp k.domain = true ∧
     s.time.ptp.selected = some k.master ∧
     k.twoStep = false ∧
     s.time.ptp.meanDelay = none) ∧
    (let s : State := ptpDev { selected := some 9 }
     let k : PtpSync := sync1
     s.live = true ∧
     s.usesPtp k.domain = true ∧
     s.time.ptp.selected = some k.master ∧
     k.twoStep = true) ∧
    (let s : State := ptpDev { selected := some 9, twoStep := some (1, 5, 0) }
     let k : PtpSync := sync1
     let t2 : Nat := 5
     let corr : Int := (0 : Int)
     s.live = true ∧
     s.usesPtp k.domain = true ∧
     s.time.ptp.selected = some k.master ∧
     s.time.ptp.twoStep = some (k.seq, t2, corr) ∧
     s.time.ptp.meanDelay = none) ∧
    (let s : State := ptpDev { selected := some 9, req := some (1, 5), forth := some 4 }
     let k : PtpSync := sync1
     let t3 : Nat := 5
     let d : Int := 4
     s.live = true ∧
     s.usesPtp k.domain = true ∧
     s.time.ptp.selected = some k.master ∧
     s.time.ptp.req = some (k.seq, t3) ∧
     s.time.ptp.forth = some d) ∧
    (let s : State := (ptpDev { masters := [⟨ann 9, 0⟩], selected := some 9 }).wr Obj.TIME_STATE 2
     let t : Cyc := 4500000000
     let f : Foreign := ⟨ann 9, 0⟩
     s.live = true ∧
     s.isSender = true ∧
     s.nat Obj.TIME_STATE = 2 ∧
     s.time.ptp.masters = [f] ∧
     s.time.ptp.selected = some f.ann.master ∧
     f.at_ + 3 * logSeconds f.ann.logInterval ≤ max s.now t) ∧
    (let s : State := (ptpDev { selected := some 9, syncAt := some 0 }).wr Obj.TIME_STATE 2
     let t : Cyc := 6000000000
     let t0 : Cyc := 0
     s.live = true ∧
     s.isSender = true ∧
     s.nat Obj.TIME_STATE = 2 ∧
     s.time.ptp.syncAt = some t0 ∧
     t0 + 4 * logSeconds s.time.ptp.syncLog ≤ max s.now t) := by
  refine ⟨?_, ?_, ?_, ?_, ?_, ?_, ?_, ?_⟩
  · ((try dsimp only [State.Writes, State.Fresh, State.Powered]) <;> decide +kernel)
  · refine ⟨?_, ?_, ?_, ?_, ?_, ?_, ?_, ?_, ?_, ?_⟩ <;> ((try dsimp only [State.Writes, State.Fresh, State.Powered]) <;> decide +kernel)
  · ((try dsimp only [State.Writes, State.Fresh, State.Powered]) <;> decide +kernel)
  · ((try dsimp only [State.Writes, State.Fresh, State.Powered]) <;> decide +kernel)
  · ((try dsimp only [State.Writes, State.Fresh, State.Powered]) <;> decide +kernel)
  · ((try dsimp only [State.Writes, State.Fresh, State.Powered]) <;> decide +kernel)
  · ((try dsimp only [State.Writes, State.Fresh, State.Powered]) <;> decide +kernel)
  · ((try dsimp only [State.Writes, State.Fresh, State.Powered]) <;> decide +kernel)

theorem test_witness_SenderTimeIsSteered :
    (let s : State := senderDev.wr Obj.TIME_SOURCE 1
     let t : Cyc := 5
     let m : Msg := msg
     let d : Int := 1000
     s.live = true ∧
     s.nat Obj.TIME_SOURCE ≠ 2 ∧
     s.Writes t m Obj.TIME_STEP 0 0 (.num d) ∧
     s.nat Obj.TIME_SOURCE = 1) ∧
    (let s : State := frefDev id
     let falling : Bool := false
     let t : Cyc := 0
     let m : Msg := Tests.msg
     let d : Int := 0
     s.live = true ∧
     s.isSender = true ∧
     s.nat Obj.TIME_SOURCE = 2 ∧
     (falling = true ↔ s.nat Obj.FREF_EDGE = 1) ∧
     (∀ (e : Int), e ∈ s.time.edgeAt → ns18 10 ≤ ↑(s.upTo t).wall18 - e) ∧
     s.time.sched = none ∧
     s.Writes t m Obj.TIME_STEP 0 0 (.num d) ∧
     s.nat Obj.TIME_SOURCE ≠ 1 ∧
     s.Writes t m Obj.TIME_PTP_RESTEP 0 0 (.num 1) ∧
     (¬(s.nat Obj.TIME_SOURCE = 1 ∧ (s.nat Obj.TIME_STATE = 2 ∨ s.nat Obj.TIME_STATE = 3)))) ∧
    (let s : State := clockAt ((frefDev fun x => { x with sched := some sch }).wr Obj.TIME_STATE 2) 262144001
     let t : Cyc := 0
     let c : Schedule := sch
     let falling : Bool := false
     let m : Msg := Tests.msg
     s.live = true ∧
     s.isSender = true ∧
     s.nat Obj.TIME_SOURCE = 2 ∧
     (falling = true ↔ s.nat Obj.FREF_EDGE = 1) ∧
     (∀ (e : Int), e ∈ s.time.edgeAt → ns18 10 ≤ ↑(s.upTo t).wall18 - e) ∧
     s.time.sched = some c ∧
     s.nat Obj.TIME_STATE = 2 ∧
     ns18 1000 < ↑(c.frefError (s.nat Obj.FREF_DIV) (↑(s.upTo t).wall18 + ns18 (s.rd Obj.FREF_DELAY))).natAbs ∧
     s.Writes t m Obj.TIME_REALIGN 0 0 (.num 1) ∧
     s.time.announced = []) ∧
    (let s : State := clockAt ((frefDev fun x => { x with sched := some sch }).wr Obj.TIME_STATE 2) 262144000
     let t : Cyc := 0
     let c : Schedule := sch
     let falling : Bool := false
     s.live = true ∧
     s.isSender = true ∧
     s.nat Obj.TIME_SOURCE = 2 ∧
     (falling = true ↔ s.nat Obj.FREF_EDGE = 1) ∧
     (∀ (e : Int), e ∈ s.time.edgeAt → ns18 10 ≤ ↑(s.upTo t).wall18 - e) ∧
     s.time.sched = some c ∧
     s.nat Obj.TIME_STATE = 2 ∧
     ↑(c.frefError (s.nat Obj.FREF_DIV) (↑(s.upTo t).wall18 + ns18 (s.rd Obj.FREF_DELAY))).natAbs ≤ ns18 1000) ∧
    (let s : State := clockAt ((frefDev fun x => { x with sched := some sch, edgeAt := some 0 }).wr Obj.TIME_STATE 2) 2621439
     let t : Cyc := 0
     let e : Int := 0
     s.live = true ∧
     s.time.edgeAt = some e ∧
     ↑(s.upTo t).wall18 - e < ns18 10) ∧
    (let s : State := clockAt ((frefDev fun x => { x with sched := some sch, edgeAt := some 0 }).wr Obj.TIME_STATE 2) (10 ^ 13)
     let t : Cyc := 0
     let c : Schedule := sch
     let e : Int := 0
     s.live = true ∧
     s.isSender = true ∧
     s.nat Obj.TIME_SOURCE = 2 ∧
     s.time.edgeAt = some e ∧
     s.time.sched = some c ∧
     e + ↑((period18 c.rate).fst * s.nat Obj.FREF_DIV * (s.time.missed + 1) / (period18 c.rate).snd) + ns18 1000 ≤
        ↑(s.upTo t).wall18 ∧
     s.nat Obj.TIME_STATE = 2) ∧
    (let s : State := (senderDev.wr Obj.TIME_SOURCE 1).wr Obj.TIME_STATE 3
     let t : Cyc := 5
     let m : Msg := msg
     s.live = true ∧
     s.Writes t m Obj.TIME_PTP_RESTEP 0 0 (.num 1) ∧
     s.nat Obj.TIME_SOURCE = 1 ∧
     (s.nat Obj.TIME_STATE = 2 ∨ s.nat Obj.TIME_STATE = 3)) ∧
    (let s : State := withTime senderDev fun x => { x with announced := [sch] }
     let t : Cyc := 5
     let m : Msg := msg
     s.live = true ∧
     s.Writes t m Obj.TIME_REALIGN 0 0 (.num 1) ∧
     s.time.announced ≠ []) ∧
    (let s : State := senderDev
     let t : Cyc := 1500000
     let t0 : Cyc := 0
     s.live = true ∧
     s.sys.configAt = some t0 ∧
     s.isSender = true ∧
     s.time.sched = none ∧
     t0 + ms 1 ≤ max s.now t) := by
  refine ⟨?_, ?_, ?_, ?_, ?_, ?_, ?_, ?_, ?_⟩
  · ((try dsimp only [State.Writes, State.Fresh, State.Powered]) <;> decide +kernel)
  · refine ⟨?_, ?_, ?_, ?_, ?_, ?_, ?_, ?_, ?_, ?_⟩ <;> ((try dsimp only [State.Writes, State.Fresh, State.Powered]) <;> decide +kernel)
  · refine ⟨?_, ?_, ?_, ?_, ?_, ?_, ?_, ?_, ?_, ?_⟩ <;> ((try dsimp only [State.Writes, State.Fresh, State.Powered]) <;> decide +kernel)
  · ((try dsimp only [State.Writes, State.Fresh, State.Powered]) <;> decide +kernel)
  · ((try dsimp only [State.Writes, State.Fresh, State.Powered]) <;> decide +kernel)
  · ((try dsimp only [State.Writes, State.Fresh, State.Powered]) <;> decide +kernel)
  · ((try dsimp only [State.Writes, State.Fresh, State.Powered]) <;> decide +kernel)
  · ((try dsimp only [State.Writes, State.Fresh, State.Powered]) <;> decide +kernel)
  · ((try dsimp only [State.Writes, State.Fresh, State.Powered]) <;> decide +kernel)

theorem test_witness_TimeMessagesAreExchanged :
    (let s : State := chimDev
     let e : OutPkt := { aPkt with typ := 0x30, words := [1, 0, 5, 0] }
     let n : Nat := 5
     s.live = true ∧
     e.typ = 48 ∧
     e.words = [1, 0, ↑n, 0]) ∧
    (let s : State := chimDev
     let p : Nat := 15
     s.live = true ∧
     s.isSender = true ∧
     (s.chimneyOf p).isSome = true ∧
     (List.find? (fun q => q.fst == p) s.time.syncAt = none)) ∧
    (let s : State := chimDev
     let p : Nat := 15
     s.live = true ∧
     s.isSender = true ∧
     (s.chimneyOf p).isSome = true) ∧
    (let s : State := withTime chimDev fun x => { x with sched := some sch }
     let c : Nat := 7
     let x : Schedule := sch
     s.live = true ∧
     s.isSender = true ∧
     s.time.sched = some x ∧
     chimneyOn s.rdAt c = true ∧
     look 0 c s.time.anchorSent ≠ s.nat Obj.WFC + 1) ∧
    (let s : State := withTime chimDev fun x => { x with sched := some sch, anchorSent := [(7, 1)] }
     let c : Nat := 7
     let x : Schedule := sch
     s.live = true ∧
     s.isSender = true ∧
     s.time.sched = some x ∧
     chimneyOn s.rdAt c = true ∧
     look 0 c s.time.anchorSent = s.nat Obj.WFC + 1) ∧
    (let s : State := withTime chimDev fun x => { x with announced := [sch], repeats := [(sch.k, 2, 5)] }
     let t : Cyc := 5
     let x : Schedule := sch
     let n : Nat := 2
     let t0 : Cyc := 5
     s.live = true ∧
     s.isSender = true ∧
     s.time.announced = [x] ∧
     s.time.repeats = [(x.k, n, t0)] ∧
     t0 ≤ max s.now t) ∧
    (let s : State := withTime chimDev fun x => { x with announced := [sch], repeats := [(sch.k, 2, 6)] }
     let t : Cyc := 5
     let x : Schedule := sch
     let n : Nat := 2
     let t0 : Cyc := 6
     s.live = true ∧
     s.isSender = true ∧
     s.time.announced = [x] ∧
     s.time.repeats = [(x.k, n, t0)] ∧
     max s.now t < t0) ∧
    (let s : State := tileAt
     s.live = true ∧
     s.isTile = true ∧
     s.nat Obj.TILE_ADDRESS ≠ 0 ∧
     s.time.reqAt = none) ∧
    (let s : State := tileAt
     let p : Nat := 1
     s.live = true ∧
     s.isTile = true ∧
     (s.pathOf p).isSome = true ∧
     s.nat Obj.TILE_ADDRESS ≠ 0 ∧
     s.time.sched = none) ∧
    (let s : State := withTime tileAt fun x => { x with sched := some sch }
     let p : Nat := 1
     let a : AnchorPkt := anc
     let x : Schedule := sch
     s.live = true ∧
     s.isTile = true ∧
     (s.pathOf p).isSome = true ∧
     s.nat Obj.TILE_ADDRESS ≠ 0 ∧
     s.time.sched = some x ∧
     s.nat Obj.WFC < a.k) ∧
    (let s : State := withTime (tileAt.wr Obj.WFC 3) fun x => { x with sched := some sch, first := some 4 }
     let p : Nat := 1
     let a : AnchorPkt := anc
     let x : Schedule := sch
     let f : Nat := 4
     s.live = true ∧
     s.isTile = true ∧
     (s.pathOf p).isSome = true ∧
     s.nat Obj.TILE_ADDRESS ≠ 0 ∧
     s.time.sched = some x ∧
     a.k ≤ s.nat Obj.WFC ∧
     s.time.first = some f) := by
  refine ⟨?_, ?_, ?_, ?_, ?_, ?_, ?_, ?_, ?_, ?_, ?_⟩
  · ((try dsimp only [State.Writes, State.Fresh, State.Powered]) <;> decide +kernel)
  · ((try dsimp only [State.Writes, State.Fresh, State.Powered]) <;> decide +kernel)
  · ((try dsimp only [State.Writes, State.Fresh, State.Powered]) <;> decide +kernel)
  · ((try dsimp only [State.Writes, State.Fresh, State.Powered]) <;> decide +kernel)
  · ((try dsimp only [State.Writes, State.Fresh, State.Powered]) <;> decide +kernel)
  · ((try dsimp only [State.Writes, State.Fresh, State.Powered]) <;> decide +kernel)
  · ((try dsimp only [State.Writes, State.Fresh, State.Powered]) <;> decide +kernel)
  · ((try dsimp only [State.Writes, State.Fresh, State.Powered]) <;> decide +kernel)
  · ((try dsimp only [State.Writes, State.Fresh, State.Powered]) <;> decide +kernel)
  · ((try dsimp only [State.Writes, State.Fresh, State.Powered]) <;> decide +kernel)
  · ((try dsimp only [State.Writes, State.Fresh, State.Powered]) <;> decide +kernel)

theorem test_witness_TilesKeepTime :
    (let s : State := tileAt
     let p : Nat := 0
     let n : Nat := 3
     let k : TimePkt := { tpkt with hops := 1 }
     let pathB : Bool := false
     s.live = true ∧
     n < 4 ∧
     s.isTile = true ∧
     s.pathOf p = some pathB ∧
     s.nat Obj.TILE_ADDRESS ≠ 0 ∧
     k.hops ≠ s.relays pathB ∧
     s.rd Obj.TIME_PATH_UNFIT < 4294967295) ∧
    (let s : State := withTime tileAt fun x => { x with reqs := [(0, 1, 100)], a := { a := some 0 } }
     let p : Nat := 0
     let n : Nat := 3
     let k : TimePkt := tpkt
     let pathB : Bool := false
     let q : Nat × Nat × Nat := (0, 1, 100)
     let a0 : Int := 0
     s.live = true ∧
     n < 4 ∧
     s.isTile = true ∧
     s.pathOf p = some pathB ∧
     s.nat Obj.TILE_ADDRESS ≠ 0 ∧
     (List.find? (fun q => q.fst == p && q.snd.fst == k.seq) s.time.reqs = some q) ∧
     (s.timePath pathB).a = some a0) ∧
    (let s : State := withTime (tileAt.wr Obj.TIME_STATE 3) fun x => { x with fitSync := some 0, gap := 10 }
     let t : Cyc := 40
     let n : Nat := 3
     let t0 : Cyc := 0
     s.live = true ∧
     n < 4 ∧
     s.isTile = true ∧
     s.time.fitSync = some t0 ∧
     0 < s.time.gap ∧
     t0 + 4 * s.time.gap ≤ max s.now t ∧
     (s.nat Obj.TIME_STATE = 2 ∨ s.nat Obj.TIME_STATE = 3)) ∧
    (let s : State := (tileAt.wr Obj.TIME_STATE 4)
     let t : Cyc := 15000000000
     let n : Nat := 3
     s.live = true ∧
     n < 4 ∧
     s.isTile = true ∧
     s.nat Obj.TIME_STATE = 4 ∧
     s.time.holdAt + seconds (s.nat Obj.TIME_HOLDOVER_MAX) ≤ max s.now t) ∧
    (let s : State := clockAt (tileDev.setTpo 3 { mode := 1, start := 100 }) 100
     let t : Cyc := 0
     let n : Nat := 3
     let e : Int := 100
     s.live = true ∧
     n < 4 ∧
     (s.upTo t).nextEdge (s.tpo n) = some e ∧
     e ≤ ↑(s.upTo t).wall18 ∧
     (s.tpo n).pulse = none) ∧
    (let s : State := tileAt.setTpo 3 { pulse := some 5 }
     let t : Cyc := 5
     let n : Nat := 3
     let t0 : Cyc := 5
     s.live = true ∧
     n < 4 ∧
     (s.tpo n).pulse = some t0 ∧
     t0 ≤ max s.now t ∧
     (s.tpo n).waiting = false) := by
  refine ⟨?_, ?_, ?_, ?_, ?_, ?_⟩
  · ((try dsimp only [State.Writes, State.Fresh, State.Powered]) <;> decide +kernel)
  · ((try dsimp only [State.Writes, State.Fresh, State.Powered]) <;> decide +kernel)
  · ((try dsimp only [State.Writes, State.Fresh, State.Powered]) <;> decide +kernel)
  · ((try dsimp only [State.Writes, State.Fresh, State.Powered]) <;> decide +kernel)
  · ((try dsimp only [State.Writes, State.Fresh, State.Powered]) <;> decide +kernel)
  · ((try dsimp only [State.Writes, State.Fresh, State.Powered]) <;> decide +kernel)

theorem test_witness_LampFramesAreProcessed :
    (let s : State := withLamp tileDev fun x => { x with job := some aJob }
     let j : LampJob := aJob
     s.live = true ∧
     s.lamp.job = some j ∧
     j.first = false) ∧
    (let s : State := withLamp tileDev fun x => { x with job := some { aJob with first := true } }
     let j : LampJob := { aJob with first := true }
     s.live = true ∧
     s.lamp.job = some j ∧
     j.first = true ∧
     j.done = false ∧
     s.rd Obj.LAMP_FRAMES < 4294967295) ∧
    (let s : State := clockAt (withTime (withLamp tileDev fun x => { x with latches := [aLatch] }) fun x => { x with sched := some sch }) ((sch.instant 5 - ns18 20000).toNat)
     let t : Cyc := 0
     let l : Latch := aLatch
     let x : Schedule := sch
     let c : Schedule := sch
     s.live = true ∧
     s.isTile = true ∧
     s.dataRuns = true ∧
     s.activating = false ∧
     s.dueFrame = some l ∧
     s.time.sched = some c ∧
     s.scheduleFor (l.frame + 2) = some x ∧
     x.instant (l.frame + 2) ≤ ↑(s.upTo t).wall18 + ns18 20000) := by
  refine ⟨?_, ?_, ?_⟩
  · ((try dsimp only [State.Writes, State.Fresh, State.Powered]) <;> decide +kernel)
  · ((try dsimp only [State.Writes, State.Fresh, State.Powered]) <;> decide +kernel)
  · ((try dsimp only [State.Writes, State.Fresh, State.Powered]) <;> decide +kernel)

theorem test_witness_ScansStartAndPass :
    (let s : State := withMods (withTime (tileDev.wr Obj.TILE_STATE 2) fun x => { x with sched := some sch }) fun x => { x with lit := true }
     let t : Cyc := 5
     let c : Schedule := sch
     s.live = true ∧
     s.isTile = true ∧
     s.dataRuns = true ∧
     s.time.sched = some c ∧
     s.mods.lit = true ∧
     s.seq.boundary ≠ some (s.nat Obj.WFC) ∧
     c.instant (s.nat Obj.WFC) + ns18 ↑(s.nat Obj.TIME_SCAN_OFFSET) ≤ ↑(s.upTo t).wall18 ∧
     s.driving = true) ∧
    (let s : State := withMods (withTime tileDev fun x => { x with sched := some sch }) fun x => { x with lit := true }
     let t : Cyc := 0
     let c : Schedule := sch
     s.live = true ∧
     s.isTile = true ∧
     s.dataRuns = true ∧
     s.time.sched = some c ∧
     s.mods.lit = true ∧
     s.seq.boundary ≠ some (s.nat Obj.WFC) ∧
     c.instant (s.nat Obj.WFC) + ns18 ↑(s.nat Obj.TIME_SCAN_OFFSET) ≤ ↑(s.upTo t).wall18 ∧
     s.driving = false) ∧
    (let s : State := aLateSeq tileDev
     let t : Cyc := 5
     let j : Nat := 5
     s.live = true ∧
     s.isTile = true ∧
     s.dataRuns = true ∧
     s.seq.boundary = some j ∧
     s.driving = true ∧
     s.seq.pass < passes s.seq.rate s.seq.ratio ∧
     s.seq.start + ↑s.seq.pass * ns18 ↑(scanRows s.seq.ratio * 1160) ≤ ↑(s.upTo t).wall18 ∧
     (∀ (x : Schedule), x ∈ s.scheduleFor (j + 1) → s.time.sched.isSome = true → ¬ x.instant (j + 1) +
        ns18 ↑(vNat (s.confAt (j + 1)) Obj.TIME_SCAN_OFFSET 0 0) < s.seq.start +
        ↑s.seq.pass * ns18 ↑(scanRows s.seq.ratio * 1160) + ns18 ↑(scanRows s.seq.ratio * 1160))) ∧
    (let s : State := withTime (aLateSeq tileDev) fun x => { x with sched := some ⟨6, -1, 8⟩ }
     let c : Schedule := ⟨6, -1, 8⟩
     let x : Schedule := ⟨6, -1, 8⟩
     let j : Nat := 5
     s.live = true ∧
     s.isTile = true ∧
     s.dataRuns = true ∧
     s.seq.boundary = some j ∧
     s.driving = true ∧
     s.seq.pass < passes s.seq.rate s.seq.ratio ∧
     s.time.sched = some c ∧
     s.scheduleFor (j + 1) = some x ∧
     x.instant (j + 1) + ns18 ↑(vNat (s.confAt (j + 1)) Obj.TIME_SCAN_OFFSET 0 0) < s.seq.start +
        ↑s.seq.pass * ns18 ↑(scanRows s.seq.ratio * 1160) + ns18 ↑(scanRows s.seq.ratio * 1160)) := by
  refine ⟨?_, ?_, ?_, ?_⟩
  · ((try dsimp only [State.Writes, State.Fresh, State.Powered]) <;> decide +kernel)
  · ((try dsimp only [State.Writes, State.Fresh, State.Powered]) <;> decide +kernel)
  · ((try dsimp only [State.Writes, State.Fresh, State.Powered]) <;> decide +kernel)
  · ((try dsimp only [State.Writes, State.Fresh, State.Powered]) <;> decide +kernel)

theorem test_witness_WorkingSetsAndDoses :
    (let s : State := modDev { bound := true, due := true, theta := some 51200, sets := [aSet] }
     let m : Nat := 15
     let th : Int := 51200
     s.live = true ∧
     m < 16 ∧
     s.isTile = true ∧
     s.buildDue m = true ∧
     (∀ (i : Nat), i < m → s.buildDue i = false) ∧
     s.lamp.starts < s.refreshLimit ∧
     (s.module m).theta = some th ∧
     s.rd Obj.LAMP_COEF_ERRORS < 4294967295 ∧
     (s.module m).bound = true ∧
     s.configured = true ∧
     s.boundModules = [m]) ∧
    (let s : State := modDev { building := some aSet }
     let m : Nat := 15
     let b : TempSet := aSet
     s.live = true ∧
     m < 16 ∧
     (s.module m).building = some b ∧
     s.rdAt Obj.LAMP_MOD_REFRESHES 0 m < 4294967295) ∧
    (let s : State := modDev { bound := true, active := some aSet }
     let t : Cyc := 15000000000
     let m : Nat := 15
     s.live = true ∧
     m < 16 ∧
     (s.module m).bound = true ∧
     (s.module m).active.isSome = true ∧
     (s.module m).builtAt + seconds 10 ≤ max s.now t) ∧
    (let s : State := boundDev
     let t : Cyc := 96000000000
     let m : Nat := 15
     s.live = true ∧
     m < 16 ∧
     s.isTile = true ∧
     s.configured = true ∧
     s.lamp.foldAt + seconds 64 ≤ max s.now t) ∧
    (let s : State := boundDev
     let t : Cyc := 5400000000000
     let m : Nat := 15
     s.live = true ∧
     m < 16 ∧
     s.isTile = true ∧
     s.boundModules = [m] ∧
     (s.module m).savedAt + seconds (s.nat Obj.MOD_DOSE_SAVE) ≤ max s.now t) := by
  refine ⟨?_, ?_, ?_, ?_, ?_⟩
  · refine ⟨?_, ?_, ?_, ?_, ?_, ?_, ?_, ?_, ?_, ?_, ?_⟩ <;> ((try dsimp only [State.Writes, State.Fresh, State.Powered]) <;> decide +kernel)
  · ((try dsimp only [State.Writes, State.Fresh, State.Powered]) <;> decide +kernel)
  · ((try dsimp only [State.Writes, State.Fresh, State.Powered]) <;> decide +kernel)
  · ((try dsimp only [State.Writes, State.Fresh, State.Powered]) <;> decide +kernel)
  · ((try dsimp only [State.Writes, State.Fresh, State.Powered]) <;> decide +kernel)

theorem test_witness_StrandsAndDriversAnswer :
    (let s : State := tileDev.setStrand 255 { sent := some ⟨5, 0, 62, 2100⟩ }
     let n : Nat := 255
     let f : SentFrame := ⟨5, 0, 62, 2100⟩
     s.live = true ∧
     s.isTile = true ∧
     n < 256 ∧
     (s.strand n).sent = some f ∧
     f.drivers ≤ 62 ∧
     s.natAt Obj.DAMP_STRAND_ZONE 0 n < 8) ∧
    (let s : State := (tileDev.wrAt Obj.STR_MAP 0 255 128).setStrand 255 { sent := some ⟨5, 0, 62, 2100⟩ }
     let n : Nat := 255
     let f : SentFrame := ⟨5, 0, 62, 2100⟩
     let addr : Nat := 63
     let y : List CellSample := sampled (symbolCells 7 12 (withComplement 63))
     s.live = true ∧
     s.isTile = true ∧
     n < 256 ∧
     (s.strand n).sent = some f ∧
     f.drivers ≤ 62 ∧
     s.natAt Obj.DAMP_STRAND_ZONE 0 n < 8 ∧
     strandOn s.rdAt n = true ∧
     (readSymbol 7 12 y).bind checkComplement = some addr) ∧
    (let s : State := (tileDev.wrAt Obj.STR_MAP 0 255 128).setStrand 255 { sent := some ⟨5, 0, 62, 2100⟩ }
     let t : Cyc := 100000
     let n : Nat := 255
     let f : SentFrame := ⟨5, 0, 62, 2100⟩
     let y : List CellSample := []
     s.live = true ∧
     s.isTile = true ∧
     n < 256 ∧
     (s.strand n).sent = some f ∧
     f.drivers ≤ 62 ∧
     s.natAt Obj.DAMP_STRAND_ZONE 0 n < 8 ∧
     strandOn s.rdAt n = true ∧
     (readSymbol 7 12 y).bind checkComplement = none ∧
     f.at_ + s.frameDue n f.cells + us 1 ≤ max s.now t) ∧
    (let s : State := tileDev.setStrand 255 { sent := some ⟨5, 0, 62, 2100⟩ }
     let n : Nat := 255
     let t : Cyc := 0
     let m : Msg := Tests.msg
     let at_ : Int := 0
     n < 256 ∧
     s.Writes t m Obj.STR_ENUM 0 0 (.num 1) ∧
     (s.strand (bits (s.nat Obj.STR_DRV_TARGET) 15 8)).cmd = none ∧
     (s.strand (bits (s.nat Obj.STR_DRV_TARGET) 15 8)).queue = [] ∧
     (s.upTo t).strandPlace (bits (s.nat Obj.STR_DRV_TARGET) 15 8) 40 = some at_ ∧
     s.Writes t m Obj.STR_DRV_GO 0 0 (.num 1) ∧
     s.Writes t m Obj.STR_DRV_GO 0 0 (.num 2) ∧
     s.Writes t m Obj.SCAN_OPEN_CLEAR 0 0 (.num 65535)) ∧
    (let s : State := withSeq tileDev fun x => { x with enumAt := some 0 }
     let t : Cyc := 1500000000
     let t0 : Cyc := 0
     let n : Nat := 255
     n < 256 ∧
     s.live = true ∧
     s.isTile = true ∧
     s.seq.enumAt = some t0 ∧
     s.dataRuns = true ∧
     t0 + seconds 1 ≤ max s.now t) ∧
    (let s : State := tileDev.setStrand 255 { enumAt := some 0 }
     let n : Nat := 255
     let y : List CellSample := sampled (symbolCells 4 12 0)
     n < 256 ∧
     s.live = true ∧
     s.isTile = true ∧
     (s.strand n).enumAt.isSome = true ∧
     (readSymbol 4 12 y).bind checkComplement = none) ∧
    (let s : State := tileDev.setStrand 255 { enumAt := some 0 }
     let n : Nat := 255
     let k : Nat := 63
     let y : List CellSample := sampled (symbolCells 4 12 (withComplement 63))
     n < 256 ∧
     s.live = true ∧
     s.isTile = true ∧
     (s.strand n).enumAt.isSome = true ∧
     (readSymbol 4 12 y).bind checkComplement = some k ∧
     k ≠ 0) ∧
    (let s : State := tileDev.setStrand 255 { cmd := some (0, true, 0) }
     let t : Cyc := 15000
     let t0 : Cyc := 0
     let n : Nat := 255
     let p : Nat := 0
     let go : Bool := true
     let y : List CellSample := []
     n < 256 ∧
     s.live = true ∧
     s.isTile = true ∧
     (s.strand n).cmd = some (p, go, t0) ∧
     Option.filter (crc4Ok 36) (readSymbol 3 36 y) = none ∧
     (s.strand n).queue = [] ∧
     s.rd Obj.STR_CMD_FAILS < 4294967295 ∧
     t0 + us 10 ≤ max s.now t) ∧
    (let s : State := tileDev.setStrand 255 { cmd := some (0, true, 0) }
     let t0 : Cyc := 0
     let n : Nat := 255
     let p : Nat := 0
     let payload : Nat := 2 ^ 28 + crc4 32 (2 ^ 24)
     let go : Bool := true
     let y : List CellSample := sampled (cmdSymbol payload)
     n < 256 ∧
     s.live = true ∧
     s.isTile = true ∧
     (s.strand n).cmd = some (p, go, t0) ∧
     (s.strand n).queue = [] ∧
     s.rd Obj.STR_CMD_FAILS < 4294967295 ∧
     readSymbol 3 36 y = some payload ∧
     crc4Ok 36 payload = true ∧
     bit payload 28 = true) ∧
    (let s : State := tileDev.setStrand 255 { cmd := some (0, true, 0) }
     let t0 : Cyc := 0
     let n : Nat := 255
     let p : Nat := 0
     let payload : Nat := crc4 32 0
     let go : Bool := true
     let y : List CellSample := sampled (cmdSymbol payload)
     n < 256 ∧
     s.live = true ∧
     s.isTile = true ∧
     (s.strand n).cmd = some (p, go, t0) ∧
     (s.strand n).queue = [] ∧
     s.rd Obj.STR_CMD_FAILS < 4294967295 ∧
     readSymbol 3 36 y = some payload ∧
     crc4Ok 36 payload = true ∧
     bit payload 28 = false) ∧
    (let s : State := tileDev.wrAt Obj.SCAN_OPEN_TABLE 0 255 257
     let t : Cyc := 5
     let m : Msg := msg
     let n : Nat := 255
     let k : Nat := 255
     n < 256 ∧
     s.Writes t m Obj.SCAN_OPEN_CLEAR 0 0 (.num ↑k) ∧
     k < 256 ∧
     bit (openTable s k) 8 = true) := by
  refine ⟨?_, ?_, ?_, ?_, ?_, ?_, ?_, ?_, ?_, ?_, ?_⟩
  · ((try dsimp only [State.Writes, State.Fresh, State.Powered]) <;> decide +kernel)
  · ((try dsimp only [State.Writes, State.Fresh, State.Powered]) <;> decide +kernel)
  · ((try dsimp only [State.Writes, State.Fresh, State.Powered]) <;> decide +kernel)
  · refine ⟨?_, ?_, ?_, ?_, ?_, ?_, ?_, ?_⟩ <;> ((try dsimp only [State.Writes, State.Fresh, State.Powered]) <;> decide +kernel)
  · ((try dsimp only [State.Writes, State.Fresh, State.Powered]) <;> decide +kernel)
  · ((try dsimp only [State.Writes, State.Fresh, State.Powered]) <;> decide +kernel)
  · ((try dsimp only [State.Writes, State.Fresh, State.Powered]) <;> decide +kernel)
  · ((try dsimp only [State.Writes, State.Fresh, State.Powered]) <;> decide +kernel)
  · ((try dsimp only [State.Writes, State.Fresh, State.Powered]) <;> decide +kernel)
  · ((try dsimp only [State.Writes, State.Fresh, State.Powered]) <;> decide +kernel)
  · ((try dsimp only [State.Writes, State.Fresh, State.Powered]) <;> decide +kernel)

theorem test_witness_LoopsRun :
    (let s : State := tileDev.wrAt Obj.LOOP_IN 31 0 0
     let t : Cyc := 5
     let k : Nat := 31
     let w : Nat := 0
     let m : Msg := Tests.msg
     let mask : Nat := 0
     k < 32 ∧
     s.live = true ∧
     s.configured = true ∧
     s.pairCUp = true ∧
     s.natAt Obj.LOOP_IN k 0 ≠ 255 ∧
     (s.upTo t).sampleInstant k = some w ∧
     (s.loop k).last ≠ some w ∧
     (s.loop k).restart = none ∧
     (s.loop k).resume = false ∧
     (s.loop k).swap = false ∧
     s.rdAt Obj.LOOP_SET_RATE k 0 = 0 ∧
     (∀ (i : Nat), i < k → (s.upTo t).loopDue i ≠ some w) ∧
     s.Writes t m Obj.LOOP_SWAP 0 0 (.num ↑mask) ∧
     (∀ (i : Nat), i < 32 → bit mask i = true → (s.loop i).swap = false)) ∧
    (let s : State := (tileDev.wrAt Obj.LOOP_IN 31 0 0).wrAt Obj.LOOP_IN 5 0 0
     let t : Cyc := 5
     let k : Nat := 31
     let w : Nat := 0
     let i : Nat := 5
     k < 32 ∧
     s.live = true ∧
     s.configured = true ∧
     s.pairCUp = true ∧
     s.natAt Obj.LOOP_IN k 0 ≠ 255 ∧
     (s.upTo t).sampleInstant k = some w ∧
     (s.loop k).last ≠ some w ∧
     i < k ∧
     (s.upTo t).loopDue i = some w) ∧
    (let s : State := (tileDev.wrAt Obj.LOOP_IN 31 0 0).setLoopSlot 31 { last := some 0 }
     let t : Cyc := 5
     let k : Nat := 31
     let w : Nat := 0
     k < 32 ∧
     s.live = true ∧
     s.configured = true ∧
     s.pairCUp = true ∧
     s.natAt Obj.LOOP_IN k 0 ≠ 255 ∧
     (s.upTo t).sampleInstant k = some w ∧
     (s.loop k).last = some w) ∧
    (let s : State := tileDev.setLoopSlot 31 { swap := true }
     let t : Cyc := 5
     let m : Msg := msg
     let k : Nat := 31
     let mask : Nat := 2 ^ 31
     k < 32 ∧
     s.Writes t m Obj.LOOP_SWAP 0 0 (.num ↑mask) ∧
     (∃ i, i < 32 ∧ bit mask i = true ∧ (s.loop i).swap = true)) ∧
    (let s : State := tileDev.wr Obj.LOOP_MON_ENABLE 32768
     let t : Cyc := 1500
     let n : Nat := 7
     let k : Nat := 15
     let z : Nat := 7
     let p : Int := 10
     let r : Int := 0
     s.live = true ∧
     n < 8 ∧
     k < 16 ∧
     z < 8 ∧
     ((List.find? (fun i => decide (s.power.monNext ≤
        i)) (List.filter (fun i => bit (s.nat Obj.LOOP_MON_ENABLE) i) (List.range 16))).or (List.filter (fun i => bit
        (s.nat Obj.LOOP_MON_ENABLE) i) (List.range 16)).head? = some k) ∧
     s.configured = true ∧
     s.power.monAt + us 1 ≤ max s.now t ∧
     r < p ∧
     (s.upTo t).trimDue n = true ∧
     s.isTile = true ∧
     s.pairCUp = true) ∧
    (let s : State := withPower tileDev fun x => { x with pwmAt := [(7, 0)] }
     let t : Cyc := 3999
     let n : Nat := 7
     let k : Nat := 15
     let z : Nat := 7
     s.live = true ∧
     n < 8 ∧
     k < 16 ∧
     z < 8 ∧
     (s.upTo t).trimDue n = false) ∧
    (let s : State := tileDev
     let t : Cyc := 187500
     let n : Nat := 7
     let k : Nat := 15
     let z : Nat := 7
     s.live = true ∧
     n < 8 ∧
     k < 16 ∧
     z < 8 ∧
     s.isTile = true ∧
     s.configured = true ∧
     s.pairCUp = true ∧
     s.power.opAt + us 125 ≤ max s.now t ∧
     s.power.zoneTempAt + us 125 ≤ max s.now t) := by
  refine ⟨?_, ?_, ?_, ?_, ?_, ?_, ?_⟩
  · refine ⟨?_, ?_, ?_, ?_, ?_, ?_, ?_, ?_, ?_, ?_, ?_, ?_, ?_, ?_⟩ <;> ((try dsimp only [State.Writes, State.Fresh, State.Powered]) <;> decide +kernel)
  · ((try dsimp only [State.Writes, State.Fresh, State.Powered]) <;> decide +kernel)
  · ((try dsimp only [State.Writes, State.Fresh, State.Powered]) <;> decide +kernel)
  · ((try dsimp only [State.Writes, State.Fresh, State.Powered]) <;> decide +kernel)
  · refine ⟨?_, ?_, ?_, ?_, ?_, ?_, ?_, ?_, ?_, ?_, ?_⟩ <;> ((try dsimp only [State.Writes, State.Fresh, State.Powered]) <;> decide +kernel)
  · ((try dsimp only [State.Writes, State.Fresh, State.Powered]) <;> decide +kernel)
  · ((try dsimp only [State.Writes, State.Fresh, State.Powered]) <;> decide +kernel)

theorem test_witness_GrantsAndReports :
    (let s : State := s0Dev
     let m : Msg := s0Msg
     let g : Nat := 1
     let a : Nat := 128
     let mw : Nat := 900
     let grants : List Nat := List.replicate 127 0 ++ [900]
     s.live = true ∧
     s.isTile = true ∧
     s.hears m.transport = true ∧
     s.pairMUp = true ∧
     m.session = 0 ∧
     s.genuine m = true ∧
     (s.session 0).closing = false ∧
     max (s.session 0).seq (s.session 0).oneWay < m.seq ∧
     s.nat Obj.TILE_ADDRESS = a ∧
     a ≠ 0 ∧
     grants[a - 1]? = some mw ∧
     (∀ (n : Nat), s.power.newest = some n → newerSeq g n = true)) ∧
    (let s : State := chimDev.setTile 7 128 { s0open := true, s0epoch := 7 }
     let m : Msg := msg
     let c : Nat := 7
     let a : Nat := 128
     s.live = true ∧
     s.isSender = true ∧
     s.pairMUp = true ∧
     a ∈ s.mapped c ∧
     m.version = 1 ∧
     m.tagOk = true ∧
     (s.tile c a).s0open = true ∧
     m.epoch = (s.tile c a).s0epoch ∧
     (s.tile c a).s0seq < m.seq) ∧
    (let s : State := chimDev.wr Obj.WFC 64
     let c : Nat := 7
     let a : Nat := 128
     s.live = true ∧
     s.isSender = true ∧
     s.pairMUp = true ∧
     a ∈ s.mapped c ∧
     (s.tile c a).reportMissing = false ∧
     (s.tile c a).reportWfc + 64 ≤ s.nat Obj.WFC) ∧
    (let s : State := chimDev
     let m : Msg := { msg with tagOk := false }
     let c : Nat := 7
     let a : Nat := 128
     s.live = true ∧
     s.isSender = true ∧
     s.pairMUp = true ∧
     (m.tagOk = false ∨ ¬a ∈ s.mapped c) ∧
     s.rd Obj.DICT_AUTH_FAILS < 4294967295) ∧
    (let s : State := withPower tileAt fun x => { x with sinceMsg := 64 }
     s.live = true ∧
     s.isTile = true ∧
     64 ≤ s.power.sinceMsg ∧
     s.flt.held 100 = false) := by
  refine ⟨?_, ?_, ?_, ?_, ?_⟩
  · refine ⟨?_, ?_, ?_, ?_, ?_, ?_, ?_, ?_, ?_, ?_, ?_, ?_⟩ <;> ((try dsimp only [State.Writes, State.Fresh, State.Powered]) <;> decide +kernel)
  · ((try dsimp only [State.Writes, State.Fresh, State.Powered]) <;> decide +kernel)
  · ((try dsimp only [State.Writes, State.Fresh, State.Powered]) <;> decide +kernel)
  · ((try dsimp only [State.Writes, State.Fresh, State.Powered]) <;> decide +kernel)
  · ((try dsimp only [State.Writes, State.Fresh, State.Powered]) <;> decide +kernel)

theorem test_witness_CalibrationOpensAndMeasures :
    (let s : State := tileDev.wr Obj.CAL_STATE 4
     let t : Cyc := 5
     let m : Msg := msg
     let p : Nat := 0
     let b : Nat := 0
     let off : Nat := 0
     let bytes : List Byte := []
     s.Writes t m Obj.CAL_OPEN 0 0 (.num 1) ∧
     2 ≤ s.nat Obj.CAL_STATE ∧ s.nat Obj.CAL_STATE ≤ 4 ∧
     s.nat Obj.CAL_STATE ≠ 1 ∧
     s.Writes t m Obj.CAL_RUN 0 0 (.num 1) ∧
     s.Writes t m Obj.CAL_PATTERN_SHOW 0 0 (.num ↑p) ∧
     p ≠ 255 ∧
     s.Writes t m Obj.CAL_ABORT 0 0 (.num 1) ∧
     (¬∃ x, x ∈ s.nv.waiting ∧ s.runStores x.snd.region x.snd.payload = true) ∧
     s.Writes t m Obj.CAL_PATTERN_SHOW 0 0 (.num 255) ∧
     s.Writes t m Obj.CAL_MEAS_CLEAR 0 0 (.num 1) ∧
     s.Writes t m Obj.CAL_MEAS_DATA 0 b (.window off bytes)) ∧
    (let s : State := tileDev.wr Obj.CAL_STATE 5
     let t : Cyc := 5
     let m : Msg := msg
     s.Writes t m Obj.CAL_OPEN 0 0 (.num 1) ∧
     (s.nat Obj.CAL_STATE ≤ 1 ∨ s.nat Obj.CAL_STATE = 5)) ∧
    (let s : State := calOpened
     let t : Cyc := 5
     let m : Msg := msg
     let p : Nat := 0
     s.Writes t m Obj.CAL_RUN 0 0 (.num 1) ∧
     s.nat Obj.CAL_STATE = 1 ∧
     s.Writes t m Obj.CAL_PATTERN_SHOW 0 0 (.num ↑p) ∧
     p ≠ 255) ∧
    (let s : State := { tileDev.wr Obj.CAL_STATE 4 with nv := { tileDev.nv with waiting := [(1, { region := 16, slot := none, payload := .field 0 { serial := 5, digest := 0, revert := false, set := aSet, hist := [] } })] } }
     let t : Cyc := 5
     let m : Msg := msg
     s.Writes t m Obj.CAL_ABORT 0 0 (.num 1) ∧
     (∃ x, x ∈ s.nv.waiting ∧ s.runStores x.snd.region x.snd.payload = true)) ∧
    (let s : State := calOpened
     let h : BulkHdr := ⟨32, true⟩
     let off : Nat := 375
     let bytes : List Byte := List.replicate 56 1
     s.live = true ∧
     s.isTile = true ∧
     s.nat Obj.TILE_ADDRESS ≠ 0 ∧
     s.pairMUp = true ∧
     s.rd Obj.CAL_STATE = 1 ∧
     h.transfer ≤ 32 ∧
     off * 8 + bytes.length ≤ s.calSize) ∧
    (let s : State := tileAt
     s.live = true ∧
     s.isTile = true ∧
     s.nat Obj.TILE_ADDRESS ≠ 0 ∧
     s.rd Obj.CAL_STATE ≠ 1) ∧
    (let s : State := tileDev
     s.live = true ∧
     (s.isSender = true ∨ s.nat Obj.TILE_ADDRESS = 0)) ∧
    (let s : State := chimDev.wr Obj.CAL_BULK_DEST (7 * 2 ^ 24 + 128 * 65536)
     let t : Cyc := 5
     let m : Msg := msg
     let off : Nat := 0
     let bytes : List Byte := [1, 2]
     s.Writes t m Obj.CAL_BULK_DATA 0 0 (.window off bytes) ∧
     chimneyOn s.rdAt (bits (s.nat Obj.CAL_BULK_DEST) 26 24) = true ∧
     s.natAt Obj.CHIM_PORT_A 0 (bits (s.nat Obj.CAL_BULK_DEST) 26 24) ≠ s.natAt Obj.CHIM_PORT_B 0 (bits (s.nat
        Obj.CAL_BULK_DEST) 26 24) ∧
     bytes ≠ []) := by
  refine ⟨?_, ?_, ?_, ?_, ?_, ?_, ?_, ?_⟩
  · refine ⟨?_, ?_, ?_, ?_, ?_, ?_, ?_, ?_, ?_, ?_, ?_⟩ <;> ((try dsimp only [State.Writes, State.Fresh, State.Powered]) <;> decide +kernel)
  · ((try dsimp only [State.Writes, State.Fresh, State.Powered]) <;> decide +kernel)
  · refine ⟨?_, ?_, ?_, ?_⟩ <;> ((try dsimp only [State.Writes, State.Fresh, State.Powered]) <;> decide +kernel)
  · ((try dsimp only [State.Writes, State.Fresh, State.Powered]) <;> decide +kernel)
  · ((try dsimp only [State.Writes, State.Fresh, State.Powered]) <;> decide +kernel)
  · ((try dsimp only [State.Writes, State.Fresh, State.Powered]) <;> decide +kernel)
  · ((try dsimp only [State.Writes, State.Fresh, State.Powered]) <;> decide +kernel)
  · ((try dsimp only [State.Writes, State.Fresh, State.Powered]) <;> decide +kernel)

theorem test_witness_CalibrationSolvesInUnits :
    (let s : State := calOpened.wr Obj.CAL_STATE 2
     let t : Cyc := 5
     s.live = true ∧
     s.isTile = true ∧
     s.rd Obj.CAL_STATE = 2 ∧
     s.mods.cal.stop = none ∧
     (∀ (j : LampJob), s.lamp.job = some j → j.done = true) ∧
     s.mods.thermal.pausedAt = none ∧
     0 < min 64 ((s.module s.mods.cal.module).width * (s.module s.mods.cal.module).height - s.mods.cal.solved) ∧
     (∀ (f : RxFrame), f ∈ s.paths.frames → (max s.now t +
        min 64 ((s.module s.mods.cal.module).width * (s.module s.mods.cal.module).height - s.mods.cal.solved) * if
        s.mods.cal.kind = 1 then 3000 else 12000) + us 10 ≤ f.closeAt)) ∧
    (let s : State := withCal (calOpened.wr Obj.CAL_STATE 2) fun x => { x with solved := 256 }
     s.live = true ∧
     s.isTile = true ∧
     s.rd Obj.CAL_STATE = 2 ∧
     s.mods.cal.stop = none ∧
     (s.module s.mods.cal.module).width * (s.module s.mods.cal.module).height ≤ s.mods.cal.solved) ∧
    (let s : State := withCal (calOpened.wr Obj.CAL_STATE 2) fun x => { x with stop := some 7 }
     let r : Nat := 7
     s.live = true ∧
     s.isTile = true ∧
     s.mods.cal.stop = some r ∧
     s.rd Obj.CAL_STATE = 2) ∧
    (let s : State := withCal (calOpened.wr Obj.CAL_STATE 3) fun x => { x with stop := some 7 }
     let r : Nat := 7
     s.live = true ∧
     s.isTile = true ∧
     s.mods.cal.stop = some r ∧
     s.rd Obj.CAL_STATE = 3) ∧
    (let s : State := calOpened.wr Obj.CAL_STATE 3
     s.live = true ∧
     s.isTile = true ∧
     s.rd Obj.CAL_STATE = 3 ∧
     s.mods.cal.stop = none) := by
  refine ⟨?_, ?_, ?_, ?_, ?_⟩
  · ((try dsimp only [State.Writes, State.Fresh, State.Powered]) <;> decide +kernel)
  · ((try dsimp only [State.Writes, State.Fresh, State.Powered]) <;> decide +kernel)
  · ((try dsimp only [State.Writes, State.Fresh, State.Powered]) <;> decide +kernel)
  · ((try dsimp only [State.Writes, State.Fresh, State.Powered]) <;> decide +kernel)
  · ((try dsimp only [State.Writes, State.Fresh, State.Powered]) <;> decide +kernel)

theorem test_witness_LinksAndSensorsAreCalibrated :
    (let s : State := tileDev
     let t : Cyc := 5
     let m : Msg := msg
     let p : Nat := 1
     let v : Nat := 3
     p < 16 ∧
     s.Writes t m Obj.CAL_LINK_RUN 0 0 (.num ↑p) ∧
     (s.linkRun p).active = false ∧
     s.Writes t m Obj.CAL_LINK_CLEAR 0 0 (.num ↑p) ∧
     s.Writes t m Obj.CAL_FIELD_REVERT 0 0 (.num ↑v) ∧
     bits v 1 0 = 3 ∧
     s.Writes t m Obj.CAL_TRIM_RUN 0 0 (.num 1) ∧
     s.mods.cal.trimAt = none) ∧
    (let s : State := tileDev.setRun 15 { active := true }
     let t : Cyc := 15000000000
     let p : Nat := 15
     p < 16 ∧
     s.live = true ∧
     (s.linkRun p).active = true ∧
     s.mods.thermal.pausedAt = none ∧
     (((List.map (fun l => look 0 l (s.linkRun p).eyes) (List.range 4)).all fun x => decide (4 ≤ x)) = true ∨
        (s.linkRun p).start + seconds 10 ≤ max s.now t)) ∧
    (let s : State := ((tileDev.wr Obj.CAL_LINK_AUTO 1).setRx 15 6).wrAt Obj.PHY_RX_CLK_SRC 15 0 0
     let t : Cyc := 90000000000
     let p : Nat := 15
     p < 16 ∧
     s.live = true ∧
     s.flag Obj.CAL_LINK_AUTO = true ∧
     s.mods.thermal.pausedAt = none ∧
     s.rxUp p = true ∧
     s.forwarded p = true ∧
     s.rdAt Obj.PHY_RX_CLK_SRC p 0 = 0 ∧
     (s.linkRun p).steady + seconds 60 ≤ max s.now t ∧
     (s.linkRun p).next ≤ max s.now t ∧
     (∀ (k : Nat), k < 4 → bit (s.linkRecord.getD ((p * 8 + s.band p) * 4 + k) 0) 63 = false) ∧
     (s.linkRun p).active = false) ∧
    (let s : State := tileDev
     let t : Cyc := 5
     let m : Msg := msg
     let p : Nat := 1
     let v : Nat := 0
     p < 16 ∧
     s.Writes t m Obj.CAL_FIELD_REVERT 0 0 (.num ↑v) ∧
     bits v 1 0 ≠ 3) ∧
    (let s : State := withCal tileDev fun x => { x with trimAt := some 0 }
     let t : Cyc := 15000000000
     let t0 : Cyc := 0
     s.live = true ∧
     s.mods.cal.trimAt = some t0 ∧
     t0 + seconds 10 ≤ max s.now t) ∧
    (let s : State := withCal tileDev fun x => { x with trimAt := some 0 }
     let t : Cyc := 14999999999
     let t0 : Cyc := 0
     s.live = true ∧
     s.mods.cal.trimAt = some t0 ∧
     max s.now t < t0 + seconds 10) := by
  refine ⟨?_, ?_, ?_, ?_, ?_, ?_⟩
  · refine ⟨?_, ?_, ?_, ?_, ?_, ?_, ?_, ?_⟩ <;> ((try dsimp only [State.Writes, State.Fresh, State.Powered]) <;> decide +kernel)
  · ((try dsimp only [State.Writes, State.Fresh, State.Powered]) <;> decide +kernel)
  · refine ⟨?_, ?_, ?_, ?_, ?_, ?_, ?_, ?_, ?_, ?_, ?_⟩ <;> ((try dsimp only [State.Writes, State.Fresh, State.Powered]) <;> decide +kernel)
  · ((try dsimp only [State.Writes, State.Fresh, State.Powered]) <;> decide +kernel)
  · ((try dsimp only [State.Writes, State.Fresh, State.Powered]) <;> decide +kernel)
  · ((try dsimp only [State.Writes, State.Fresh, State.Powered]) <;> decide +kernel)

theorem test_witness_SessionsAreOpened :
    (let s : State := chimDev
     let o : OpenMsg := { anOpen with transport := .mgmt, route := .chimney 7 128 }
     let c : Nat := 7
     let a : Nat := 128
     s.live = true ∧
     s.isSender = true ∧
     s.pairMUp = true ∧
     o.version = 1 ∧
     o.route = Route.chimney c a ∧
     a ≠ 255 ∧
     s.unreachable c a = true ∧
     o.transport = Transport.mgmt) ∧
    (let s : State := chimDev
     let o : OpenMsg := { anOpen with route := .chimney 7 255 }
     let c : Nat := 7
     let a : Nat := 255
     s.live = true ∧
     s.isSender = true ∧
     s.pairMUp = true ∧
     o.version = 1 ∧
     o.route = Route.chimney c a ∧
     (a = 255 ∨ s.unreachable c a = false) ∧
     (o.transport = Transport.mgmt ∨ o.transport = Transport.svc)) ∧
    (let s : State := tileDev
     let o : OpenMsg := { anOpen with version := 2 }
     s.live = true ∧
     s.hears o.transport = true ∧
     (o.route = Route.device ∨ s.isTile = true ∨ s.pairMUp = false) ∧
     o.version ≠ 1) ∧
    (let s : State := withMods tileDev fun x => { x with opens := List.replicate 8 0 }
     let t : Cyc := 1499999999
     let o : OpenMsg := anOpen
     s.live = true ∧
     s.hears o.transport = true ∧
     (o.route = Route.device ∨ s.isTile = true ∨ s.pairMUp = false) ∧
     o.version = 1 ∧
     (8 ≤ (List.filter (fun x => decide (max s.now t < x + seconds 1)) s.mods.opens).length)) ∧
    (let s : State := withMods tileDev fun x => { x with opens := List.replicate 8 0 }
     let t : Cyc := 1500000000
     let o : OpenMsg := { anOpen with layoutOk := false }
     s.live = true ∧
     s.hears o.transport = true ∧
     (o.route = Route.device ∨ s.isTile = true ∨ s.pairMUp = false) ∧
     o.version = 1 ∧
     ((List.filter (fun x => decide (max s.now t < x + seconds 1)) s.mods.opens).length < 8) ∧
     o.layoutOk = false) ∧
    (let s : State := tileDev
     let t : Cyc := 5
     let o : OpenMsg := { anOpen with transport := .flue, forSlot0 := true }
     s.live = true ∧
     s.hears o.transport = true ∧
     (o.route = Route.device ∨ s.isTile = true ∨ s.pairMUp = false) ∧
     o.version = 1 ∧
     ((List.filter (fun x => decide (max s.now t < x + seconds 1)) s.mods.opens).length < 8) ∧
     o.layoutOk = true ∧
     o.forSlot0 = true ∧
     s.opens0 o = true ∧
     o.sigOk = true) ∧
    (let s : State := tileDev
     let t : Cyc := 5
     let o : OpenMsg := { anOpen with forSlot0 := true }
     s.live = true ∧
     s.hears o.transport = true ∧
     (o.route = Route.device ∨ s.isTile = true ∨ s.pairMUp = false) ∧
     o.version = 1 ∧
     ((List.filter (fun x => decide (max s.now t < x + seconds 1)) s.mods.opens).length < 8) ∧
     o.layoutOk = true ∧
     o.forSlot0 = true ∧
     (s.opens0 o = false ∨ o.sigOk = false)) ∧
    (let s : State := tileDev
     let t : Cyc := 5
     let o : OpenMsg := { anOpen with cert := { aCert with roles := [] } }
     s.live = true ∧
     s.hears o.transport = true ∧
     (o.route = Route.device ∨ s.isTile = true ∨ s.pairMUp = false) ∧
     o.version = 1 ∧
     ((List.filter (fun x => decide (max s.now t < x + seconds 1)) s.mods.opens).length < 8) ∧
     o.layoutOk = true ∧
     o.forSlot0 = false ∧
     (s.openRole o = none ∨ o.sigOk = false)) ∧
    (let s : State := tileDev.setAnchor Obj.SEC_CLIENT_ANCHOR 1 (List.replicate 96 0 ++ [5])
     let t : Cyc := 5
     let o : OpenMsg := opOpen
     let k : Nat := 1
     let role : SessRole := .operator
     s.live = true ∧
     s.hears o.transport = true ∧
     (o.route = Route.device ∨ s.isTile = true ∨ s.pairMUp = false) ∧
     o.version = 1 ∧
     ((List.filter (fun x => decide (max s.now t < x + seconds 1)) s.mods.opens).length < 8) ∧
     o.layoutOk = true ∧
     o.forSlot0 = false ∧
     s.openRole o = some role ∧
     o.sigOk = true ∧
     s.anchorGrants o.cert.issuer role = true ∧
     s.freeSlot = some k) ∧
    (let s : State := tileDev
     let t : Cyc := 5
     let o : OpenMsg := claimOpen
     let k : Nat := 1
     let role : SessRole := .integrator
     let row : ObjRow := Obj.SEC_CLIENT_ANCHOR
     s.live = true ∧
     s.hears o.transport = true ∧
     (o.route = Route.device ∨ s.isTile = true ∨ s.pairMUp = false) ∧
     o.version = 1 ∧
     ((List.filter (fun x => decide (max s.now t < x + seconds 1)) s.mods.opens).length < 8) ∧
     o.layoutOk = true ∧
     o.forSlot0 = false ∧
     s.openRole o = some role ∧
     o.sigOk = true ∧
     s.anchorGrants o.cert.issuer role = false ∧
     s.claims o = some (row, role) ∧
     s.freeSlot = some k) ∧
    (let s : State := fullDev
     let t : Cyc := 5
     let o : OpenMsg := opOpen
     let role : SessRole := .operator
     s.live = true ∧
     s.hears o.transport = true ∧
     (o.route = Route.device ∨ s.isTile = true ∨ s.pairMUp = false) ∧
     o.version = 1 ∧
     ((List.filter (fun x => decide (max s.now t < x + seconds 1)) s.mods.opens).length < 8) ∧
     o.layoutOk = true ∧
     o.forSlot0 = false ∧
     s.openRole o = some role ∧
     o.sigOk = true ∧
     s.anchorGrants o.cert.issuer role = true ∧
     s.freeSlot = none) := by
  refine ⟨?_, ?_, ?_, ?_, ?_, ?_, ?_, ?_, ?_, ?_, ?_⟩
  · ((try dsimp only [State.Writes, State.Fresh, State.Powered]) <;> decide +kernel)
  · ((try dsimp only [State.Writes, State.Fresh, State.Powered]) <;> decide +kernel)
  · ((try dsimp only [State.Writes, State.Fresh, State.Powered]) <;> decide +kernel)
  · ((try dsimp only [State.Writes, State.Fresh, State.Powered]) <;> decide +kernel)
  · ((try dsimp only [State.Writes, State.Fresh, State.Powered]) <;> decide +kernel)
  · ((try dsimp only [State.Writes, State.Fresh, State.Powered]) <;> decide +kernel)
  · ((try dsimp only [State.Writes, State.Fresh, State.Powered]) <;> decide +kernel)
  · ((try dsimp only [State.Writes, State.Fresh, State.Powered]) <;> decide +kernel)
  · refine ⟨?_, ?_, ?_, ?_, ?_, ?_, ?_, ?_, ?_, ?_, ?_⟩ <;> ((try dsimp only [State.Writes, State.Fresh, State.Powered]) <;> decide +kernel)
  · refine ⟨?_, ?_, ?_, ?_, ?_, ?_, ?_, ?_, ?_, ?_, ?_, ?_⟩ <;> ((try dsimp only [State.Writes, State.Fresh, State.Powered]) <;> decide +kernel)
  · refine ⟨?_, ?_, ?_, ?_, ?_, ?_, ?_, ?_, ?_, ?_, ?_⟩ <;> ((try dsimp only [State.Writes, State.Fresh, State.Powered]) <;> decide +kernel)

theorem test_witness_AnchorsAndKeysAreChanged :
    (let s : State := tileDev.setSession 2 { sess .integrator with anchor := 9 }
     let t : Cyc := 5
     let m : Msg := msg
     let kind : AnchorKind := .client
     let j : Nat := 1
     let key : List Byte := List.replicate 97 0
     s.Writes t m (match kind with | AnchorKind.client => Obj.SEC_CLIENT_ANCHOR | AnchorKind.safety => Obj.SEC_SAFETY_ANCHOR) 0 j (.window 0 key)) ∧
    (let s : State := tileDev
     let t : Cyc := 5
     let m : Msg := vend
     let k : Nat := 0
     s.Writes t m Obj.SEC_FW_REVOKE 0 0 (.num ↑k) ∧
     ((∃ c, c < 3 ∧ ∃ h, s.validImage (s.natAt Obj.BOOT_ACTIVE_SLOT 0 c) c = some h ∧ h.key = k) ∨
        setBit s.nv.revoked k true = 15 ∧ s.nv.revoked ≠ 15)) ∧
    (let s : State := tileDev
     let t : Cyc := 5
     let m : Msg := vend
     let k : Nat := 3
     s.Writes t m Obj.SEC_FW_REVOKE 0 0 (.num ↑k) ∧
     (¬∃ c, c < 3 ∧ ∃ h, s.validImage (s.natAt Obj.BOOT_ACTIVE_SLOT 0 c) c = some h ∧ h.key = k) ∧
     (setBit s.nv.revoked k true = 15 → s.nv.revoked = 15)) := by
  refine ⟨?_, ?_, ?_⟩
  · ((try dsimp only [State.Writes, State.Fresh, State.Powered]) <;> decide +kernel)
  · ((try dsimp only [State.Writes, State.Fresh, State.Powered]) <;> decide +kernel)
  · ((try dsimp only [State.Writes, State.Fresh, State.Powered]) <;> decide +kernel)

theorem test_witness_ModulesAreBoundAndServiced :
    (let s : State := modDev { pollAt := some 0 }
     let t : Cyc := 1499999999
     let m : Nat := 15
     s.live = true ∧
     s.isTile = true ∧
     s.configured = true ∧
     bit (s.nat Obj.MOD_ENABLE) m = true ∧
     m < 16 ∧
     (s.upTo t).pollDue m = false) ∧
    (let s : State := (modDev {}).wrAt Obj.MOD_STATE 15 0 2
     let m : Nat := 15
     let f : ModuleFound := { found0 with readOk := false }
     let t : Cyc := 0
     s.live = true ∧
     s.isTile = true ∧
     s.configured = true ∧
     bit (s.nat Obj.MOD_ENABLE) m = true ∧
     m < 16 ∧
     (s.upTo t).pollDue m = true ∧
     s.natAt Obj.MOD_STATE m 0 ≠ 1 ∧
     f.readOk = false) ∧
    (let s : State := boundDev
     let m : Nat := 15
     let f : ModuleFound := found0
     let t : Cyc := 0
     s.live = true ∧
     s.isTile = true ∧
     s.configured = true ∧
     bit (s.nat Obj.MOD_ENABLE) m = true ∧
     m < 16 ∧
     (s.upTo t).pollDue m = true ∧
     f.readOk = true ∧
     (∃ g, (s.module m).found = some g ∧ (s.module m).polled = true ∧ sameModule g f = true) ∧
     ((s.module m).bound = false ∨ (s.module m).firstPoll = false)) ∧
    (let s : State := modDev {}
     let m : Nat := 15
     let f : ModuleFound := { found0 with sigOk := false }
     let t : Cyc := 0
     s.live = true ∧
     s.isTile = true ∧
     s.configured = true ∧
     bit (s.nat Obj.MOD_ENABLE) m = true ∧
     m < 16 ∧
     (s.upTo t).pollDue m = true ∧
     f.readOk = true ∧
     (¬∃ g, (s.module m).found = some g ∧ (s.module m).polled = true ∧ sameModule g f = true) ∧
     s.packageOk m f = false) ∧
    (let s : State := twinDev
     let m : Nat := 15
     let f : ModuleFound := found0
     let t : Cyc := 0
     s.live = true ∧
     s.isTile = true ∧
     s.configured = true ∧
     bit (s.nat Obj.MOD_ENABLE) m = true ∧
     m < 16 ∧
     (s.upTo t).pollDue m = true ∧
     f.readOk = true ∧
     (¬∃ g, (s.module m).found = some g ∧ (s.module m).polled = true ∧ sameModule g f = true) ∧
     s.packageOk m f = true ∧
     (∃ k, k < m ∧ (s.module k).bound = true ∧ (s.module k).serial = pkgSerial f)) ∧
    (let s : State := (modDev {}).wr Obj.TILE_LAMPS 3
     let m : Nat := 15
     let f : ModuleFound := found0
     let t : Cyc := 0
     s.live = true ∧
     s.isTile = true ∧
     s.configured = true ∧
     bit (s.nat Obj.MOD_ENABLE) m = true ∧
     m < 16 ∧
     (s.upTo t).pollDue m = true ∧
     f.readOk = true ∧
     (¬∃ g, (s.module m).found = some g ∧ (s.module m).polled = true ∧ sameModule g f = true) ∧
     s.packageOk m f = true ∧
     (¬∃ k, k < m ∧ (s.module k).bound = true ∧ (s.module k).serial = pkgSerial f) ∧
     ((s.module m).bound = false ∨ (s.module m).serial ≠ pkgSerial f ∨ (s.module m).digest ≠ f.digest)) ∧
    (let s : State := (modDev {}).wrAt Obj.MOD_STATE 15 0 2
     let t : Cyc := 0
     let m : Msg := Tests.msg
     let n : Nat := 0
     s.Writes t m Obj.MOD_SERVICE 0 0 (.num ↑(32768 + n % 16)) ∧
     s.Writes t m Obj.MOD_SERVICE 0 0 (.num ↑(n % 16))) := by
  refine ⟨?_, ?_, ?_, ?_, ?_, ?_, ?_⟩
  · ((try dsimp only [State.Writes, State.Fresh, State.Powered]) <;> decide +kernel)
  · ((try dsimp only [State.Writes, State.Fresh, State.Powered]) <;> decide +kernel)
  · ((try dsimp only [State.Writes, State.Fresh, State.Powered]) <;> decide +kernel)
  · ((try dsimp only [State.Writes, State.Fresh, State.Powered]) <;> decide +kernel)
  · refine ⟨?_, ?_, ?_, ?_, ?_, ?_, ?_, ?_, ?_, ?_⟩ <;> ((try dsimp only [State.Writes, State.Fresh, State.Powered]) <;> decide +kernel)
  · refine ⟨?_, ?_, ?_, ?_, ?_, ?_, ?_, ?_, ?_, ?_, ?_⟩ <;> ((try dsimp only [State.Writes, State.Fresh, State.Powered]) <;> decide +kernel)
  · refine ⟨?_, ?_⟩ <;> ((try dsimp only [State.Writes, State.Fresh, State.Powered]) <;> decide +kernel)

theorem test_witness_SitesAreConvertedAndStagesApplied :
    (let s : State := withMods tileDev fun x => { x with thermal := { x.thermal with convAt := some 0 } }
     let t : Cyc := 37499
     s.live = true ∧
     (s.upTo t).conversionDue = false) ∧
    (let s : State := tileDev
     let t : Cyc := 0
     let m : Nat := 0
     s.live = true ∧
     (s.upTo t).conversionDue = true ∧
     m < 16 ∧
     (s.pairCUp = false ∨ s.mods.thermal.applied = s.nat Obj.THERM_STAGE)) ∧
    (let s : State := tileDev.wr Obj.THERM_STAGE 3
     let m : Nat := 15
     s.live = true ∧
     m < 16 ∧
     s.pairCUp = true ∧
     s.mods.thermal.applied ≠ s.nat Obj.THERM_STAGE) ∧
    (let s : State := boundDev
     let t : Cyc := 1500000000
     let m : Nat := 15
     s.live = true ∧
     m < 16 ∧
     s.isTile = true ∧
     (s.module m).bound = true ∧
     (s.module m).lost = false ∧
     (s.module m).tempAt.getD (s.module m).boundAt + ms (s.nat Obj.THERM_MOD_STALE) ≤ max s.now t) := by
  refine ⟨?_, ?_, ?_, ?_⟩
  · ((try dsimp only [State.Writes, State.Fresh, State.Powered]) <;> decide +kernel)
  · ((try dsimp only [State.Writes, State.Fresh, State.Powered]) <;> decide +kernel)
  · ((try dsimp only [State.Writes, State.Fresh, State.Powered]) <;> decide +kernel)
  · ((try dsimp only [State.Writes, State.Fresh, State.Powered]) <;> decide +kernel)

theorem test_witness_EventsAreTaken :
    (let s : State := tileDev
     s.live = true ∧
     s.flt.queue = []) ∧
    (let s : State := withFlt tileDev fun x => { x with queue := [ev1] }
     let e : FEvent := { ev1 with src := 0x40 }
     s.live = true ∧
     firstEvent s.flt.queue = some e ∧
     e.src < 128) := by
  refine ⟨?_, ?_⟩
  · ((try dsimp only [State.Writes, State.Fresh, State.Powered]) <;> decide +kernel)
  · ((try dsimp only [State.Writes, State.Fresh, State.Powered]) <;> decide +kernel)

theorem test_witness_SourcesAreClearedAndLogged :
    (let s : State := tileDev.setSide false 127 { state := 1 }
     let t : Cyc := 15000000000
     let src : Nat := 127
     let m : Msg := Tests.msg
     let v : Nat := 0
     let c : Nat := 0
     s.live = true ∧
     src < 128 ∧
     ((fun x => s.natAt Obj.FLT_QUIET 0 src ≠ 0 ∧ x.last + seconds (s.natAt Obj.FLT_QUIET 0 src) ≤
        max s.now t) (s.side false src)) ∧
     s.clearable src = true ∧
     ((fun x => s.natAt Obj.FLT_QUIET 0 src ≠ 0 ∧ x.last + seconds (s.natAt Obj.FLT_QUIET 0 src) ≤
        max s.now t) (s.side true src)) ∧
     s.Writes t m Obj.FLT_CLEAR 0 0 (.num ↑src) ∧
     src ≠ 65535 ∧
     s.Writes t m Obj.FLT_CLEAR 0 0 (.num 65535) ∧
     s.Writes t m Obj.FLT_INJECT 0 0 (.num ↑v) ∧
     definedSource (bits v 30 24) = true ∧
     s.Writes t m Obj.FLT_INJECT_CLEAR 0 0 (.num 1) ∧
     c < 8 ∧
     (¬if s.mods.thermal.shutdown = true then s.flt.shutLogged = false else s.flt.ashDue = true ∧ ∀ (t0 : Cyc),
        s.flt.ashSaved = some t0 → t0 + seconds 60 ≤ max s.now t)) ∧
    (let s : State := tileDev.setSide false 127 { state := 1 }
     let t : Cyc := 14999999999
     let src : Nat := 127
     s.live = true ∧
     src < 128 ∧
     (¬(fun x => s.natAt Obj.FLT_QUIET 0 src ≠ 0 ∧ x.last + seconds (s.natAt Obj.FLT_QUIET 0 src) ≤
        max s.now t) (s.side false src) ∨ s.clearable src = false) ∧
     (¬(fun x => s.natAt Obj.FLT_QUIET 0 src ≠ 0 ∧ x.last + seconds (s.natAt Obj.FLT_QUIET 0 src) ≤
        max s.now t) (s.side true src))) ∧
    (let s : State := tileDev
     let t : Cyc := 5
     let m : Msg := msg
     let src : Nat := 128
     s.Writes t m Obj.FLT_CLEAR 0 0 (.num ↑src) ∧
     src ≠ 65535 ∧
     128 ≤ src) ∧
    (let s : State := tileDev.hold 127 0 true
     let t : Cyc := 5
     let m : Msg := msg
     let src : Nat := 127
     s.Writes t m Obj.FLT_CLEAR 0 0 (.num ↑src) ∧
     src ≠ 65535 ∧
     src < 128 ∧
     s.clearable src = false) ∧
    (let s : State := tileDev
     let t : Cyc := 5
     let m : Msg := vend
     let v : Nat := 0x13000000
     s.Writes t m Obj.FLT_INJECT 0 0 (.num ↑v) ∧
     definedSource (bits v 30 24) = false) ∧
    (let s : State := withFlt tileDev fun x => { x with ashDue := true, ashSaved := some 0 }
     let t : Cyc := 90000000000
     let c : Nat := 7
     s.live = true ∧
     c < 8 ∧
     (if s.mods.thermal.shutdown = true then s.flt.shutLogged = false else s.flt.ashDue = true ∧ ∀ (t0 : Cyc),
        s.flt.ashSaved = some t0 → t0 + seconds 60 ≤ max s.now t)) ∧
    (let s : State := alarmDev
     let t : Cyc := 1500000000
     let c : Nat := 7
     let k : Nat := 0x40
     let q : Nat × AshEntry := (0x40, anEntry)
     s.live = true ∧
     c < 8 ∧
     s.isTile = true ∧
     s.ownAlarm = true ∧
     s.flt.alarmAt + seconds 1 ≤ max s.now t ∧
     s.oldestAlarm = some k ∧
     (List.find? (fun z => z.fst == k) s.flt.lastAlarm = some q)) ∧
    (let s : State := withFlt chimDev fun x => { x with recent := [(7 * 256 + 128, 5, 0)] }
     let t : Cyc := 15000000
     let c : Nat := 7
     let src : Nat := 128
     let w : Nat := 5
     s.live = true ∧
     c < 8 ∧
     s.isSender = true ∧
     ((s.flt.recent.any fun q => decide (max s.now t ≤ q.snd.snd + ms 10) && q.fst == c * 256 +
        src && q.snd.fst == w) = true) ∧
     src ≠ 254) ∧
    (let s : State := withFlt chimDev fun x => { x with recent := [(7 * 256 + 128, 5, 0)] }
     let t : Cyc := 15000001
     let c : Nat := 7
     let src : Nat := 128
     let w : Nat := 5
     s.live = true ∧
     c < 8 ∧
     s.isSender = true ∧
     ((s.flt.recent.any fun q => decide (max s.now t ≤ q.snd.snd + ms 10) && q.fst == c * 256 +
        src && q.snd.fst == w) = false)) ∧
    (let s : State := chimDev.setTileBit Obj.FLT_WALL_ALARM 7 128 true
     let t : Cyc := 4500000000
     let c : Nat := 7
     let src : Nat := 128
     s.live = true ∧
     c < 8 ∧
     s.isSender = true ∧
     1 ≤ src ∧
     src ≤ 128 ∧
     s.tileBit Obj.FLT_WALL_ALARM c src = true ∧
     look 0 (c * 256 + src) s.flt.wallSeen + seconds 3 ≤ max s.now t) := by
  refine ⟨?_, ?_, ?_, ?_, ?_, ?_, ?_, ?_, ?_, ?_⟩
  · refine ⟨?_, ?_, ?_, ?_, ?_, ?_, ?_, ?_, ?_, ?_, ?_, ?_, ?_⟩ <;> ((try dsimp only [State.Writes, State.Fresh, State.Powered]) <;> decide +kernel)
  · ((try dsimp only [State.Writes, State.Fresh, State.Powered]) <;> decide +kernel)
  · ((try dsimp only [State.Writes, State.Fresh, State.Powered]) <;> decide +kernel)
  · ((try dsimp only [State.Writes, State.Fresh, State.Powered]) <;> decide +kernel)
  · ((try dsimp only [State.Writes, State.Fresh, State.Powered]) <;> decide +kernel)
  · ((try dsimp only [State.Writes, State.Fresh, State.Powered]) <;> decide +kernel)
  · ((try dsimp only [State.Writes, State.Fresh, State.Powered]) <;> decide +kernel)
  · ((try dsimp only [State.Writes, State.Fresh, State.Powered]) <;> decide +kernel)
  · ((try dsimp only [State.Writes, State.Fresh, State.Powered]) <;> decide +kernel)
  · ((try dsimp only [State.Writes, State.Fresh, State.Powered]) <;> decide +kernel)

theorem test_witness_SavesAndStoresEnd :
    (let s : State := tileDev
     let t : Cyc := 5
     let m : Msg := msg
     let mask : Nat := 0
     s.Writes t m Obj.PERSIST_SAVE 0 0 (.num 1) ∧
     s.nat Obj.PERSIST_STATE ≠ 1 ∧
     s.live = true ∧
     s.sess.autoDue = false ∧
     s.Writes t m Obj.PERSIST_DEFAULTS 0 0 (.num ↑mask) ∧
     mask < 2 ^ 21 ∧
     s.scopeLocked m.session mask = false) ∧
    (let s : State := tileDev.wr Obj.PERSIST_STATE 1
     let t : Cyc := 5
     let m : Msg := msg
     s.Writes t m Obj.PERSIST_SAVE 0 0 (.num 1) ∧
     s.nat Obj.PERSIST_STATE = 1) ∧
    (let s : State := withSess (tileDev.wr Obj.PERSIST_AUTO 1) fun x => { x with autoDue := true }
     let t : Cyc := 5400000000000
     s.live = true ∧
     s.pairMUp = true ∧
     s.sess.autoDue = true ∧
     s.flag Obj.PERSIST_AUTO = true ∧
     s.sess.lastSave + seconds (s.nat Obj.PERSIST_INTERVAL) ≤ max s.now t ∧
     s.nat Obj.PERSIST_STATE ≠ 1) ∧
    (let s : State := tileDev
     let t : Cyc := 5
     let m : Msg := msg
     let mask : Nat := 2 ^ 21
     s.Writes t m Obj.PERSIST_DEFAULTS 0 0 (.num ↑mask) ∧
     bit mask 21 = true) ∧
    (let s : State := tileDev.wrAt Obj.LOCK_CTRL 0 20 (3 * 65536 + 7)
     let t : Cyc := 5
     let m : Msg := msg
     let mask : Nat := 2 ^ 20
     s.Writes t m Obj.PERSIST_DEFAULTS 0 0 (.num ↑mask) ∧
     mask < 2 ^ 21 ∧
     s.scopeLocked m.session mask = true) ∧
    (let s : State := tileDev
     let dev : FlashDev := .module 15
     let x : Store := { aStore with region := 143 }
     s.live = true ∧
     x.region < 144 ∧
     (∀ (q : Nat × Store), q ∈ s.nv.busy → q.fst ≠ match dev with | FlashDev.boot => 0 | FlashDev.module k => k + 1) ∧
     s.sess.saveAgain = false) ∧
    (let s : State := withNv tileDev fun x => { x with busy := [(0, aStore)] }
     let dev : FlashDev := .boot
     let x : Store := aStore
     s.live = true ∧
     x.region < 144 ∧
     (List.find? (fun q => q.fst == match dev with | FlashDev.boot => 0 | FlashDev.module k => k + 1) s.nv.busy = some (match dev with | FlashDev.boot => 0 | FlashDev.module k => k + 1, x)) ∧
     (∀ (q : Nat × Store), q ∈ s.nv.waiting → q.fst ≠ match dev with | FlashDev.boot => 0 | FlashDev.module k => k + 1) ∧
     s.sess.saveAgain = false) := by
  refine ⟨?_, ?_, ?_, ?_, ?_, ?_, ?_⟩
  · refine ⟨?_, ?_, ?_, ?_, ?_, ?_, ?_⟩ <;> ((try dsimp only [State.Writes, State.Fresh, State.Powered]) <;> decide +kernel)
  · ((try dsimp only [State.Writes, State.Fresh, State.Powered]) <;> decide +kernel)
  · ((try dsimp only [State.Writes, State.Fresh, State.Powered]) <;> decide +kernel)
  · ((try dsimp only [State.Writes, State.Fresh, State.Powered]) <;> decide +kernel)
  · ((try dsimp only [State.Writes, State.Fresh, State.Powered]) <;> decide +kernel)
  · ((try dsimp only [State.Writes, State.Fresh, State.Powered]) <;> decide +kernel)
  · ((try dsimp only [State.Writes, State.Fresh, State.Powered]) <;> decide +kernel)

theorem test_witness_ServiceAndBoundaryScan :
    (let s : State := tileDev
     let f : SvcFrame := { aFrame0 with crc := 0 }
     let t : Cyc := 0
     let m : Msg := Tests.msg
     s.live = true ∧
     svcOk f = false ∧
     s.rd Obj.SVC_CRC_ERRORS < 4294967295 ∧
     s.Writes t m Obj.BOOT_RELEASE_M 0 0 (.num 1) ∧
     s.mods.thermal.shutdown = false ∧
     s.natAt Obj.BOOT_ACTIVE_SLOT 0 2 ≠ 255 ∧
     (s.pairMUp = true ∨ s.sys.loading = true ∧ s.nat Obj.DEV_PAIR_M_STATE = 1)) ∧
    (let s : State := tileDev
     let f : SvcFrame := aFrame0
     s.live = true ∧
     svcOk f = true ∧
     f.hop = 0 ∧
     s.rd Obj.SVC_FRAMES < 4294967295) ∧
    (let s : State := tileDev
     let t : Cyc := 5
     let f : SvcFrame := ⟨0xFFFF, 0, [], crc32 [255, 255, 0, 0]⟩
     s.live = true ∧
     svcOk f = true ∧
     f.hop ≠ 0 ∧
     ((List.filter (fun y => decide (max s.now t < y)) s.upd.svc).length < 4)) ∧
    (let s : State := withUpd tileDev fun x => { x with svc := [6, 6, 6, 6] }
     let t : Cyc := 5
     let f : SvcFrame := ⟨0xFFFF, 0, [], crc32 [255, 255, 0, 0]⟩
     s.live = true ∧
     svcOk f = true ∧
     f.hop ≠ 0 ∧
     (4 ≤ (List.filter (fun y => decide (max s.now t < y)) s.upd.svc).length) ∧
     s.rd Obj.SVC_DROPS < 4294967295) ∧
    (let s : State := tileDev.wr Obj.DEV_PAIR_M_STATE 1
     let t : Cyc := 5
     let m : Msg := msg
     s.Writes t m Obj.BOOT_RELEASE_M 0 0 (.num 1) ∧
     s.mods.thermal.shutdown = false ∧
     s.natAt Obj.BOOT_ACTIVE_SLOT 0 2 ≠ 255 ∧
     s.pairMUp = false ∧
     (s.sys.loading = false ∨ s.nat Obj.DEV_PAIR_M_STATE ≠ 1)) ∧
    (let s : State := tileDev.wrAt Obj.BOOT_ACTIVE_SLOT 0 2 255
     let t : Cyc := 5
     let m : Msg := msg
     s.Writes t m Obj.BOOT_RELEASE_M 0 0 (.num 1) ∧
     (s.mods.thermal.shutdown = true ∨ s.natAt Obj.BOOT_ACTIVE_SLOT 0 2 = 255)) := by
  refine ⟨?_, ?_, ?_, ?_, ?_, ?_⟩
  · ((try dsimp only [State.Writes, State.Fresh, State.Powered]) <;> decide +kernel)
  · ((try dsimp only [State.Writes, State.Fresh, State.Powered]) <;> decide +kernel)
  · ((try dsimp only [State.Writes, State.Fresh, State.Powered]) <;> decide +kernel)
  · ((try dsimp only [State.Writes, State.Fresh, State.Powered]) <;> decide +kernel)
  · ((try dsimp only [State.Writes, State.Fresh, State.Powered]) <;> decide +kernel)
  · ((try dsimp only [State.Writes, State.Fresh, State.Powered]) <;> decide +kernel)

theorem test_witness_ImagesAreLoaded :
    (let s : State := tileDev.wr Obj.UPD_STATE 4
     let t : Cyc := 5
     let m : Msg := msg
     let off : Nat := 0
     let bytes : List Byte := []
     s.Writes t m Obj.UPD_BEGIN 0 0 (.num 1) ∧
     s.activating = true ∧
     s.Writes t m Obj.UPD_IMAGE 0 0 (.window off bytes) ∧
     m.transport = Transport.svc) ∧
    (let s : State := tileDev
     let t : Cyc := 5
     let m : Msg := msg
     let k : Nat := 1
     let off : Nat := 0
     let bytes : List Byte := []
     let verdicts : List ImageVerdict := []
     s.Writes t m Obj.UPD_BEGIN 0 0 (.num 1) ∧
     s.activating = false ∧
     s.inactiveSlot = some k ∧
     s.Writes t m Obj.UPD_IMAGE 0 0 (.window off bytes) ∧
     m.transport = Transport.svc ∧
     s.Writes t m Obj.UPD_VERIFY 0 0 (.num 1) ∧
     (∀ (i : Nat), i < 3 → (fun i => s.imageEmpty k i) i = false →
        (fun i => s.verifyCode k i (verdicts.getD i { keyDigestOk := false, sigOk := false, digestOk := false })) i = 0)) ∧
    (let s : State := tileDev
     let t : Cyc := 5
     let m : Msg := flueMsg
     let off : Nat := 0
     let bytes : List Byte := [1]
     s.Writes t m Obj.UPD_IMAGE 0 0 (.window off bytes) ∧
     m.transport ≠ Transport.svc) ∧
    (let s : State := withNv tileDev fun x => { x with slots := [(1, some (1, Payload.boot [(0, 1, 0), (1, 0, 0), (0, 0, 0)]), none)] }
     let t : Cyc := 5
     let m : Msg := msg
     let off : Nat := 0
     let bytes : List Byte := [1]
     s.activating = false ∧
     s.inactiveSlot = none ∧
     s.Writes t m Obj.UPD_BEGIN 0 0 (.num 1) ∧
     s.Writes t m Obj.UPD_IMAGE 0 0 (.window off bytes) ∧
     m.transport = Transport.svc ∧
     s.Writes t m Obj.UPD_VERIFY 0 0 (.num 1)) ∧
    (let s : State := withNv tileDev fun x => { x with images := [(0x800000, 0x58), (0x800001, 0x49), (0x800002, 0x4D), (0x800003, 0x31)] }
     let t : Cyc := 5
     let m : Msg := msg
     let k : Nat := 1
     let c : Nat := 0
     let verdicts : List ImageVerdict := []
     s.Writes t m Obj.UPD_VERIFY 0 0 (.num 1) ∧
     s.activating = false ∧
     s.inactiveSlot = some k ∧
     c < 3 ∧
     ((fun i => s.imageEmpty k i) c = false) ∧
     ((fun i => s.verifyCode k i (verdicts.getD i { keyDigestOk := false, sigOk := false, digestOk := false })) c ≠ 0) ∧
     (∀ (i : Nat), i < c → (fun i => s.imageEmpty k i) i = false →
        (fun i => s.verifyCode k i (verdicts.getD i { keyDigestOk := false, sigOk := false, digestOk := false })) i = 0)) := by
  refine ⟨?_, ?_, ?_, ?_, ?_⟩
  · refine ⟨?_, ?_, ?_, ?_⟩ <;> ((try dsimp only [State.Writes, State.Fresh, State.Powered]) <;> decide +kernel)
  · refine ⟨?_, ?_, ?_, ?_, ?_, ?_, ?_⟩ <;> ((try dsimp only [State.Writes, State.Fresh, State.Powered]) <;> decide +kernel)
  · ((try dsimp only [State.Writes, State.Fresh, State.Powered]) <;> decide +kernel)
  · refine ⟨?_, ?_, ?_, ?_, ?_, ?_⟩ <;> ((try dsimp only [State.Writes, State.Fresh, State.Powered]) <;> decide +kernel)
  · ((try dsimp only [State.Writes, State.Fresh, State.Powered]) <;> decide +kernel)

theorem test_witness_UpdatesAreActivated :
    (let s : State := tileDev.wr Obj.UPD_STATE 4
     let t : Cyc := 5
     let m : Msg := msg
     let mask : Nat := 1
     let target : Nat := 5
     s.Writes t m Obj.UPD_ACTIVATE 0 0 (.num (mask * 2 ^ 48 + target % 2 ^ 48 : Nat)) ∧
     (s.isTile = true ∧ 2 ≤ s.nat Obj.CAL_STATE ∧ s.nat Obj.CAL_STATE ≤ 4 ∨ s.activating = true ∨
        s.nat Obj.DEV_PAIR_M_STATE = 2 ∨ s.nat Obj.DEV_PAIR_C_STATE = 2) ∧
     s.live = true ∧
     s.nat Obj.UPD_STATE ≠ 3 ∧
     s.nat Obj.UPD_STATE = 4 ∧
     (s.upTo t).healthy = true ∧
     max s.now t < s.upd.started + seconds (s.nat Obj.UPD_CONFIRM_WINDOW) ∧
     s.Writes t m Obj.UPD_FALLBACK 0 0 (.num 1) ∧
     s.activating = true) ∧
    (let s : State := tileDev.wr Obj.UPD_STATE 2
     let t : Cyc := 5
     let m : Msg := msg
     let mask : Nat := 1
     let target : Nat := 5
     let k : Nat := 1
     s.Writes t m Obj.UPD_ACTIVATE 0 0 (.num (mask * 2 ^ 48 + target % 2 ^ 48 : Nat)) ∧
     (¬(s.isTile = true ∧ 2 ≤ s.nat Obj.CAL_STATE ∧ s.nat Obj.CAL_STATE ≤ 4 ∨ s.activating = true ∨
        s.nat Obj.DEV_PAIR_M_STATE = 2 ∨ s.nat Obj.DEV_PAIR_C_STATE = 2)) ∧
     s.nat Obj.UPD_STATE = 2 ∧
     s.inactiveSlot = some k ∧
     s.live = true ∧
     s.activating = false ∧
     s.Writes t m Obj.UPD_FALLBACK 0 0 (.num 1)) ∧
    (let s : State := tileDev
     let t : Cyc := 0
     let m : Msg := Tests.msg
     let mask : Nat := 0
     let target : Nat := 0
     s.Writes t m Obj.UPD_ACTIVATE 0 0 (.num (mask * 2 ^ 48 + target % 2 ^ 48 : Nat)) ∧
     (¬(s.isTile = true ∧ 2 ≤ s.nat Obj.CAL_STATE ∧ s.nat Obj.CAL_STATE ≤ 4 ∨ s.activating = true ∨
        s.nat Obj.DEV_PAIR_M_STATE = 2 ∨ s.nat Obj.DEV_PAIR_C_STATE = 2)) ∧
     (s.nat Obj.UPD_STATE ≠ 2 ∨ s.inactiveSlot = none)) ∧
    (let s : State := withUpd (tileDev.wr Obj.UPD_STATE 3) fun x => { x with mask := 1 }
     s.live = true ∧
     s.nat Obj.UPD_STATE = 3 ∧
     bit s.upd.mask 0 = true) ∧
    (let s : State := withUpd (tileDev.wr Obj.UPD_STATE 4) fun x => { x with mask := 1 }
     let t : Cyc := 180000000000
     s.live = true ∧
     s.activating = true ∧
     s.upd.started + seconds (s.nat Obj.UPD_CONFIRM_WINDOW) ≤ max s.now t) := by
  refine ⟨?_, ?_, ?_, ?_, ?_⟩
  · refine ⟨?_, ?_, ?_, ?_, ?_, ?_, ?_, ?_, ?_⟩ <;> ((try dsimp only [State.Writes, State.Fresh, State.Powered]) <;> decide +kernel)
  · refine ⟨?_, ?_, ?_, ?_, ?_, ?_, ?_⟩ <;> ((try dsimp only [State.Writes, State.Fresh, State.Powered]) <;> decide +kernel)
  · ((try dsimp only [State.Writes, State.Fresh, State.Powered]) <;> decide +kernel)
  · ((try dsimp only [State.Writes, State.Fresh, State.Powered]) <;> decide +kernel)
  · ((try dsimp only [State.Writes, State.Fresh, State.Powered]) <;> decide +kernel)

theorem test_witness_ConfigurationAndBoundaries :
    (let s : State := withSys (tileDev.wr Obj.DEV_PAIR_M_STATE 1) fun x => { x with loading := true }
     s.live = true ∧
     s.sys.phase = Phase.running ∧
     s.sys.loading = true ∧
     s.nat Obj.DEV_PAIR_M_STATE = 1 ∧
     s.activating = false) ∧
    (let s : State := tileDev
     s.live = true ∧
     (s.sys.phase ≠ Phase.running ∨ s.sys.loading = false) ∧
     s.activating = false) ∧
    (let s : State := litDev
     s.live = true ∧
     s.isTile = true ∧
     s.configured = true ∧
     s.mods.lit = false ∧
     s.paths.address.snd = true ∧
     s.time.sched.isSome = true ∧
     2 ≤ s.nat Obj.TIME_STATE ∧
     s.strandsReady = true ∧
     s.modulesPolled = true ∧
     s.mods.lineSeen = true) ∧
    (let s : State := withMods tileDev fun x => { x with lit := true }
     s.live = true ∧
     s.mods.lit = true) ∧
    (let s : State := withLamp (tileDev.wr Obj.WFC 6) fun x => { x with hold := some (0, []) }
     let held : Nat × List (Nat × HeldLine) := (0, [])
     s.live = true ∧
     s.lamp.hold = some held ∧
     s.isTile = true ∧
     held.fst + 6 ≤ s.nat Obj.WFC ∧
     s.frameLocked = false) ∧
    (let s : State := withSys (tileDev.wr Obj.DEV_PAIR_M_STATE 1) fun x => { x with loading := true }
     s.live = true ∧
     (s.lamp.hold = none ∨ s.frameLocked = true) ∧
     s.nextBoundary = none) ∧
    (let s : State := withTime tileDev fun x => { x with sched := some sch }
     let t : Cyc := 5
     let k : Nat := 1
     let b : Int := sch.instant 1
     s.live = true ∧
     s.nextBoundary = some (k, b) ∧
     ↑(s.upTo t).wall18 < b) ∧
    (let s : State := clockAt (withSess (withTime tileDev fun x => { x with sched := some ⟨1, 100, 8⟩ }) fun x => { x with armed := [⟨3, 2 ^ 20, 1, 9, [], [], 0⟩] }) 100
     let t : Cyc := 0
     let k : Nat := 1
     let b : Int := 100
     s.live = true ∧
     s.nextBoundary = some (k, b) ∧
     b ≤ ↑(s.upTo t).wall18) := by
  refine ⟨?_, ?_, ?_, ?_, ?_, ?_, ?_, ?_⟩
  · ((try dsimp only [State.Writes, State.Fresh, State.Powered]) <;> decide +kernel)
  · ((try dsimp only [State.Writes, State.Fresh, State.Powered]) <;> decide +kernel)
  · refine ⟨?_, ?_, ?_, ?_, ?_, ?_, ?_, ?_, ?_, ?_⟩ <;> ((try dsimp only [State.Writes, State.Fresh, State.Powered]) <;> decide +kernel)
  · ((try dsimp only [State.Writes, State.Fresh, State.Powered]) <;> decide +kernel)
  · ((try dsimp only [State.Writes, State.Fresh, State.Powered]) <;> decide +kernel)
  · ((try dsimp only [State.Writes, State.Fresh, State.Powered]) <;> decide +kernel)
  · ((try dsimp only [State.Writes, State.Fresh, State.Powered]) <;> decide +kernel)
  · ((try dsimp only [State.Writes, State.Fresh, State.Powered]) <;> decide +kernel)

end Sys2Proof.Tests
end

section
/-! PROOF. What no command moves: the clock of the model but forward, the queue, the levels of PORST_N and the rails, and
the role outside a start (R2). Every command has one of two forms, `State.run` or `State.always`; each form has its frame. -/

namespace Sys2Proof.Machine

/-! ### The two forms of a command -/

/-- Under `State.run` only time passes for the model's clock, the queue, the pins and the role. -/
theorem State.run_frame (s : State) (t : Cyc) (f : State → State) :
    ∃ u, s.run t f = .next u ∧ u.now = max s.now t ∧ u.pending = s.pending ∧ u.sys.porstLow = s.sys.porstLow
      ∧ u.sys.railLow = s.sys.railLow ∧ u.sys.ioLow = s.sys.ioLow ∧ u.role = s.role := by
  cases hl : s.live with
  | false => exact ⟨_, s.run_reset t f hl, rfl, rfl, rfl, rfl, rfl, rfl⟩
  | true => exact ⟨_, s.run_live t f hl, rfl, rfl, rfl, rfl, rfl, rfl⟩

/-- Under `State.always` the levels are those that `level` sets, and only the effect may sample the role. -/
theorem State.always_frame (s : State) (t : Cyc) (level f : State → State)
    (hnow : (level (s.upTo t)).now = max s.now t) (hpending : (level (s.upTo t)).pending = s.pending) :
    ∃ u, s.always t level f = .next u ∧ u.now = max s.now t ∧ u.pending = s.pending
      ∧ u.sys.porstLow = (level (s.upTo t)).sys.porstLow ∧ u.sys.railLow = (level (s.upTo t)).sys.railLow
      ∧ u.sys.ioLow = (level (s.upTo t)).sys.ioLow ∧ u.role = (f (level (s.upTo t))).role :=
  ⟨_, rfl, hnow, hpending, rfl, rfl, rfl, rfl⟩

/-- The commands that act in reset too, one by one. -/
theorem Instr.actsInReset_cases {c : Instr} (hc : Instr.actsInReset c = true) :
    (∃ t, c = .porstAssert t) ∨ (∃ t p, c = .porstRelease t p) ∨ (∃ t io, c = .brownOut t io)
      ∨ (∃ t p, c = .brownOutRecover t p) ∨ ∃ t code, c = .jtagInstruction t code := by
  unfold Instr.actsInReset at hc
  split at hc
  · exact .inl ⟨_, rfl⟩
  · exact .inr (.inl ⟨_, _, rfl⟩)
  · exact .inr (.inr (.inl ⟨_, _, rfl⟩))
  · exact .inr (.inr (.inr (.inl ⟨_, _, rfl⟩)))
  · exact .inr (.inr (.inr (.inr ⟨_, _, rfl⟩)))
  · exact absurd hc Bool.false_ne_true

/-! ### The role -/

theorem State.resetPins_role (s : State) : s.resetPins.role = s.role := rfl

/-- A device that sends keeps its role. -/
theorem State.foldl_send_role {α : Type} (x : α → Tx) (l : List α) (s : State) :
    (l.foldl (fun c n => c.send (x n)) s).role = s.role :=
  foldl_keeps State.role _ (fun c n => c.send_role (x n)) l s

/-- The role latch outlives a reset. -/
theorem State.enterReset_role (s : State) : s.enterReset.role = s.role := by
  rw [State.enterReset, State.resetPins_role, State.foldl_send_role, State.foldl_send_role]

theorem jtagInstruction_role (code : Nat) (s : State) : (jtagInstruction code s).role = s.role := rfl

/-! ### Every command -/

/-- A start names what it finds at the pins; any will do where a statement asks for one. -/
theorem powerOn_nonempty : Nonempty PowerOn := ⟨⟨.low, 0, [], [], false⟩⟩

/-- Every command answers a next state at its instant, over the same queue; only its own commands move PORST_N and the
rails, and only the two that start the device sample the role (R2). -/
theorem exec_frame (c : Instr) (s : State) :
    ∃ u, exec c s = .next u ∧ u.now = max s.now c.time ∧ u.pending = s.pending
      ∧ (u.sys.porstLow = s.sys.porstLow ∨ ∃ t p, c = .porstAssert t ∨ c = .porstRelease t p)
      ∧ (u.sys.railLow = s.sys.railLow ∨ ∃ t p io, c = .brownOut t io ∨ c = .brownOutRecover t p)
      ∧ (u.sys.ioLow = s.sys.ioLow ∨ ∃ t p io, c = .brownOut t io ∨ c = .brownOutRecover t p)
      ∧ (u.role = s.role ∨ ∃ t p, c = .porstRelease t p ∨ c = .brownOutRecover t p) := by
  cases hc : Instr.actsInReset c with
  | false =>
    obtain ⟨f, hf⟩ := exec_is_run c hc
    obtain ⟨u, hu, hnow, hpending, hporst, hrail, hio, hrole⟩ := s.run_frame c.time f
    exact ⟨u, (hf s).trans hu, hnow, hpending, .inl hporst, .inl hrail, .inl hio, .inl hrole⟩
  | true =>
    obtain ⟨pins⟩ := powerOn_nonempty
    obtain ⟨t, rfl⟩ | ⟨t, p, rfl⟩ | ⟨t, io, rfl⟩ | ⟨t, p, rfl⟩ | ⟨t, code, rfl⟩ := Instr.actsInReset_cases hc
    · obtain ⟨u, hu, hnow, hpending, -, hrail, hio, hrole⟩ := s.always_frame t (.setPorst true) .enterReset rfl rfl
      exact ⟨u, hu, hnow, hpending, .inr ⟨t, pins, .inl rfl⟩, .inl hrail, .inl hio,
        .inl (hrole.trans (State.enterReset_role _))⟩
    · obtain ⟨u, hu, hnow, hpending, -, hrail, hio, -⟩ := s.always_frame t (.setPorst false) (.startIfFree p) rfl rfl
      exact ⟨u, hu, hnow, hpending, .inr ⟨t, p, .inr rfl⟩, .inl hrail, .inl hio, .inr ⟨t, p, .inl rfl⟩⟩
    · obtain ⟨u, hu, hnow, hpending, hporst, -, -, hrole⟩ := s.always_frame t (.setRail true io) .enterReset rfl rfl
      exact ⟨u, hu, hnow, hpending, .inl hporst, .inr ⟨t, pins, io, .inl rfl⟩, .inr ⟨t, pins, io, .inl rfl⟩,
        .inl (hrole.trans (State.enterReset_role _))⟩
    · obtain ⟨u, hu, hnow, hpending, hporst, -⟩ := s.always_frame t (.setRail false false)
        (fun u => if s.sys.ioLow && u.sys.porstLow then (u.setTestEn p.testEn).resetPins else u.startIfFree p) rfl rfl
      exact ⟨u, hu, hnow, hpending, .inl hporst, .inr ⟨t, p, false, .inr rfl⟩, .inr ⟨t, p, false, .inr rfl⟩,
        .inr ⟨t, p, .inr rfl⟩⟩
    · obtain ⟨u, hu, hnow, hpending, hporst, hrail, hio, hrole⟩ := s.always_frame t id (jtagInstruction code) rfl rfl
      exact ⟨u, hu, hnow, hpending, .inl hporst, .inl hrail, .inl hio, .inl (hrole.trans (jtagInstruction_role code _))⟩

/-- The answer of a command other than the two that start the device has the role it found (R2). -/
theorem exec_keeps_role {c : Instr} {s u : State} (hu : exec c s = .next u)
    (hstart : ∀ t p, c ≠ .porstRelease t p ∧ c ≠ .brownOutRecover t p) : u.role = s.role := by
  obtain ⟨v, hv, -, -, -, -, -, hrole⟩ := exec_frame c s
  obtain rfl : u = v := Host.Outcome.next.inj (hu.symm.trans hv)
  obtain hrole | ⟨t, p, hc | hc⟩ := hrole
  · exact hrole
  · exact absurd hc (hstart t p).1
  · exact absurd hc (hstart t p).2

end Sys2Proof.Machine

namespace Sys2Proof.Proofs

open Sys2Proof Sys2Proof.Machine

/-- Settles O2: each of the two forms of a command keeps what the statement names, and the reset that PORST_ASSERT and
BROWN_OUT bring keeps the role latch. -/
theorem everyCommandAnswers : Obligations.EveryCommandAnswers := by
  unfold Obligations.EveryCommandAnswers
  refine ⟨fun c s => ?_, fun _ _ _ hu hstart => exec_keeps_role hu hstart⟩
  obtain ⟨u, hu, hnow, hpending, hporst, hrail, hio, -⟩ := exec_frame c s
  exact ⟨u, hu, hnow, hpending, hporst, hrail, hio⟩

end Sys2Proof.Proofs
end

section
/-! PROOF. Messages at this device (R44 to R46): which commands are requests, and what a message that does not verify, a repeat
and an older SEQ do. -/

namespace Sys2Proof.Machine

variable {s : State} {t : Cyc} {m : Msg} {c : Instr}

/-! ### Commands that carry a request -/

/-- The requests of a client that Table 2-8 gives an opcode, OPEN and ARM aside. -/
def Instr.IsClientRequest (c : Instr) (t : Cyc) (m : Msg) : Prop :=
  c = .keepalive t m ∨ c = .close t m ∨ (∃ w, c = .read t m w) ∨ (∃ v, c = .write t m v) ∨ c = .describe t m
    ∨ (∃ a, c = .lock t m a ∨ c = .unlock t m a) ∨ ∃ a b d e, c = .commit t m a b d e

/-- Each of them is one message through the envelope. -/
theorem Instr.exec_of_isClientRequest (h : Instr.IsClientRequest c t m) : ∃ op rom area n vals f,
    ∀ s, exec c s = s.run t fun s => s.request m op rom area n vals f := by
  obtain rfl | rfl | ⟨w, rfl⟩ | ⟨v, rfl⟩ | rfl | ⟨a, rfl | rfl⟩ | ⟨a, b, d, e, rfl⟩ := h
  all_goals exact ⟨_, _, _, _, _, _, fun _ => rfl⟩

/-- Pair M takes a message for this device. -/
theorem State.request_device (hup : s.pairMUp = true) (hears : s.hears m.transport = true) (hroute : m.route = .device)
    (op : Nat) (rom : Bool) (area n : Nat) (vals : List WVal) (f : State → Act) :
    s.request m op rom area n vals f = s.accept m op f := by
  simp [State.request, hup, hears, hroute]

/-! ### A message that does not verify (R46) -/

theorem State.accept_forged (h : s.genuine m = false) (op : Nat) (f : State → Act) :
    s.accept m op f = s.bump Obj.DICT_AUTH_FAILS := by
  simp [State.accept, h]

theorem State.oneWay_forged (hup : s.pairMUp = true) (hears : s.hears m.transport = true) (hroute : m.route = .device)
    (h : s.genuine m = false) (op n : Nat) (f : State → State) :
    s.oneWay m op n f = s.bump Obj.DICT_AUTH_FAILS := by
  simp [State.oneWay, hup, hears, hroute, h]

/-- A command whose whole effect is one count below its type's range. -/
theorem State.run_bump {f : State → State} {r : ObjRow} (hl : s.live = true) (hf : f (s.upTo t) = (s.upTo t).bump r)
    (hr : s.rd r + 1 ≤ r.hi) :
    s.run t f = .next { s.wr r (s.rd r + 1) with now := max s.now t } := by
  have hb : (s.upTo t).bump r = (s.upTo t).wr r (s.rd r + 1) := State.bumpAt_next (s.upTo t) r 0 0 hr
  rw [State.run_live s t f hl, hf, hb]
  rfl

/-! ### Repeats and older messages (R45) -/

/-- A genuine message restarts the session timeout, whatever its SEQ (R41, log 137). -/
def State.heard (s : State) (m : Msg) : State :=
  s.setSession m.session { s.session m.session with lastMsg := s.now, transport := m.transport }

@[simp] theorem State.heard_seq (s : State) (m : Msg) :
    ((s.heard m).session m.session).seq = (s.session m.session).seq := by
  simp [State.heard]

theorem State.accept_repeat {o : Nat} {r : Reply} (hg : s.genuine m = true) (hbusy : (s.session m.session).busy = none)
    (hcached : (s.session m.session).cached = some (o, r)) (hseq : m.seq = (s.session m.session).seq)
    (op : Nat) (f : State → Act) :
    s.accept m op f = (s.heard m).sendOn m.transport (.reply m.transport m.session m.seq o r) := by
  simp [State.accept, State.heard, hg, hbusy, hcached, hseq]

theorem State.accept_older (hg : s.genuine m = true) (hseq : m.seq < (s.session m.session).seq)
    (op : Nat) (f : State → Act) : s.accept m op f = (s.heard m).bump Obj.DICT_REPLAYS := by
  have hne : m.seq ≠ (s.session m.session).seq := Nat.ne_of_lt hseq
  have hle : m.seq ≤ max (s.session m.session).seq (s.session m.session).oneWay := by omega
  simp only [State.accept, State.heard, hg, Bool.not_true, Bool.false_eq_true, if_false, hne, false_and, hle, if_true]

/-- On MGMT and the Flue every message leaves, and only the Flue ports' queues move beside it. -/
theorem State.sendOn_notSvc (q : State) {via : Transport} (hvia : via ≠ .svc) (x : Tx) :
    ∃ f n, Flue.Queued f q.flue ∧ (via = .mgmt → f = q.flue)
      ∧ q.sendOn via x = { q with flue := f, free := n, out := (q.now, x) :: q.out } := by
  have handed : ∀ (p : State) (n : Nat), p.flue = q.flue → ∃ f, Flue.Queued f q.flue ∧ (via = .mgmt → f = q.flue)
      ∧ p.handTo via n x = { p with flue := f, out := (p.now, x) :: p.out } := by
    intro p n hp
    cases via with
    | svc => exact absurd rfl hvia
    | mgmt => exact ⟨p.flue, by rw [hp]; rfl, fun _ => hp, rfl⟩
    | flue => exact ⟨(p.queueCtrl [0, 1] 4 0 n).flue, by rw [← hp]; rfl, nofun, rfl⟩
  unfold State.sendOn
  cases x.bytes with
  | some n =>
    obtain ⟨f, hf, hmgmt, e⟩ := handed q n rfl
    exact ⟨f, q.free, hf, hmgmt, e⟩
  | none =>
    obtain ⟨f, hf, hmgmt, e⟩ := handed q.used (q.freeVal % 1025 + 56) rfl
    exact ⟨f, q.free + 1, hf, hmgmt, e⟩

/-- R46 for one command: the message is counted, and nothing else has happened. -/
theorem exec_forged (hl : s.live = true) (hup : s.pairMUp = true) (hears : s.hears m.transport = true)
    (hroute : m.route = .device) (hg : s.genuine m = false) (hcount : s.rd Obj.DICT_AUTH_FAILS < 4294967295)
    (hc : Instr.IsClientRequest c t m ∨ ∃ a, c = .abort t m a) :
    exec c s = .next { s.wr Obj.DICT_AUTH_FAILS (s.rd Obj.DICT_AUTH_FAILS + 1) with now := max s.now t } := by
  have hr : s.rd Obj.DICT_AUTH_FAILS + 1 ≤ Obj.DICT_AUTH_FAILS.hi := hcount
  obtain hc | ⟨a, rfl⟩ := hc
  · obtain ⟨op, rom, area, n, vals, f, he⟩ := Instr.exec_of_isClientRequest hc
    rw [he]
    refine State.run_bump hl ?_ hr
    rw [State.request_device (s := s.upTo t) hup hears hroute, State.accept_forged (s := s.upTo t) hg]
  · exact State.run_bump (f := fun s => s.oneWay m 0x22 4 fun s => s.abortTile a) hl
      (State.oneWay_forged (s := s.upTo t) hup hears hroute hg _ _ _) hr

/-- R45 for a repeat: the cached reply leaves again, and nothing runs. -/
theorem exec_repeat {o : Nat} {r : Reply} (hl : s.live = true) (hup : s.pairMUp = true)
    (hears : s.hears m.transport = true) (hvia : m.transport ≠ .svc) (hroute : m.route = .device)
    (hg : s.genuine m = true) (hbusy : (s.session m.session).busy = none) (hc : Instr.IsClientRequest c t m)
    (hcached : (s.session m.session).cached = some (o, r)) (hseq : m.seq = (s.session m.session).seq) :
    ∃ f n, Flue.Queued f s.flue ∧ (m.transport = .mgmt → f = s.flue)
      ∧ exec c s = .next { (s.upTo t).heard m with
          flue := f, free := n, out := (max s.now t, .reply m.transport m.session m.seq o r) :: s.out } := by
  obtain ⟨op, rom, area, n, vals, f, he⟩ := Instr.exec_of_isClientRequest hc
  obtain ⟨fl, k, hfl, hmgmt, e⟩ := ((s.upTo t).heard m).sendOn_notSvc hvia (.reply m.transport m.session m.seq o r)
  refine ⟨fl, k, hfl, hmgmt, ?_⟩
  rw [he, State.run_live s t _ hl, State.request_device (s := s.upTo t) hup hears hroute,
    State.accept_repeat (s := s.upTo t) hg hbusy hcached hseq, e]
  rfl

/-- R45 for an older SEQ: it is counted as a replay. -/
theorem exec_older (hl : s.live = true) (hup : s.pairMUp = true) (hears : s.hears m.transport = true)
    (hroute : m.route = .device) (hg : s.genuine m = true) (hc : Instr.IsClientRequest c t m)
    (hseq : m.seq < (s.session m.session).seq) (hcount : s.rd Obj.DICT_REPLAYS < 4294967295) :
    exec c s = .next (((s.upTo t).heard m).wr Obj.DICT_REPLAYS (s.rd Obj.DICT_REPLAYS + 1)) := by
  obtain ⟨op, rom, area, n, vals, f, he⟩ := Instr.exec_of_isClientRequest hc
  have hb : ((s.upTo t).heard m).bump Obj.DICT_REPLAYS =
      ((s.upTo t).heard m).wr Obj.DICT_REPLAYS (s.rd Obj.DICT_REPLAYS + 1) :=
    State.bumpAt_next ((s.upTo t).heard m) Obj.DICT_REPLAYS 0 0 hcount
  rw [he, State.run_live s t _ hl, State.request_device (s := s.upTo t) hup hears hroute,
    State.accept_older (s := s.upTo t) hg hseq, hb]
  rfl

end Sys2Proof.Machine

namespace Sys2Proof.Proofs

open Sys2Proof Sys2Proof.Machine

/-- Settles O13: what does not verify is only counted; what does is told by its SEQ from the last accepted one. -/
theorem requestsRunOnce : Obligations.RequestsRunOnce := by
  unfold Obligations.RequestsRunOnce
  refine ⟨fun s t m c hl hup hears hroute hg hcount hc => ?_,
    fun s t m c hl hup hears hvia hroute hg hbusy hc => ⟨fun o r hcached hseq => ?_, fun hseq hcount => ?_⟩⟩
  · have hc' : Instr.IsClientRequest c t m ∨ ∃ a, c = .abort t m a := by
      simpa only [Instr.IsClientRequest, or_assoc] using hc
    exact ⟨_, exec_forged hl hup hears hroute hg hcount hc', State.rd_wr_same s _ _, rfl,
      fun r i j hkey => State.rdAt_wrAt_other s Obj.DICT_AUTH_FAILS r 0 0 i j _ hkey⟩
  · obtain ⟨f, n, hf, hmgmt, he⟩ := exec_repeat hl hup hears hvia hroute hg hbusy hc hcached hseq
    exact ⟨_, ((s.upTo t).heard m).sess.slots, he, hf, hmgmt, rfl, State.heard_seq _ m⟩
  · exact ⟨_, exec_older hl hup hears hroute hg hc hseq hcount, State.rd_wr_same _ _ _, rfl, State.heard_seq _ m,
      rfl, rfl, rfl, rfl, rfl, rfl, rfl⟩

end Sys2Proof.Proofs
end

section
/-! PROOF. READ and DESCRIBE of one element (R31 to R36, R469), and the refusal of a WRITE to an object that does not exist. -/

namespace Sys2Proof.Machine

variable {s : State} {t : Cyc} {m : Msg}

/-! ### Objects of the table -/

/-- A row found by an address is of the list searched, and has the address. -/
theorem findIn_some {ix sub i j : Nat} {r : ObjRow} {l : List ObjRow} (h : findIn ix sub l = some (r, i, j)) :
    r ∈ l ∧ r.locate ix sub = some (i, j) := by
  induction l with
  | nil => simp [findIn] at h
  | cons p l ih =>
    unfold findIn at h
    split at h
    · next hp =>
      cases h
      exact ⟨List.mem_cons_self, hp⟩
    · obtain ⟨hmem, hloc⟩ := ih h
      exact ⟨List.mem_cons_of_mem p hmem, hloc⟩

/-- An object of the device is one of the manual's. -/
theorem State.objAt_some {ix sub i j : Nat} {r : ObjRow} (h : s.objAt ix sub = some (r, i, j)) :
    r ∈ objTable ∧ r.locate ix sub = some (i, j) :=
  findIn_some (Option.filter_eq_some_iff.mp h).1

/-- No number of the dictionary is longer than a TIME96 (Table 2-1). -/
theorem wire_le_of_mem_objTable : ∀ r ∈ objTable, r.ty.wire ≤ 12 := by
  decide +kernel

/-! ### READ (R469) -/

theorem worst_singleton (c : Nat) : worst [c] = c := by
  by_cases h : c = st.OK <;> simp [worst, h]

theorem State.readElem_missing {slot ix sub : Nat} {sh : Bool} {win : Option (Nat × Nat)} (h : s.objAt ix sub = none) :
    s.readElem slot ix sub sh win = ((st.NO_OBJECT, none), s) := by
  simp [State.readElem, h]

section Element
variable {slot ix sub i j : Nat} {r : ObjRow} {sh : Bool} {win : Option (Nat × Nat)}
  (h : s.objAt ix sub = some (r, i, j))
include h

theorem State.readElem_writeOnly (ha : r.acc = .wo ∨ r.acc = .cmd) :
    s.readElem slot ix sub sh win = ((st.ACCESS, none), s) := by
  simp [State.readElem, h, ha]

/-- A stored number: its value in force, or the shadow of an RWS object (R47). -/
theorem State.readElem_number (hwo : r.acc ≠ .wo) (hcmd : r.acc ≠ .cmd) (hblob : r.ty ≠ .blob) (hstr : r.ty ≠ .str)
    (hclock : r ≠ Obj.DEV_CLOCK_STATUS) (hlive : s.liveValue slot r i j = none) :
    s.readElem slot ix sub sh win =
      ((st.OK, some (.num r.ty.wire (if sh = true ∧ r.acc = .rws then s.shAt r i j else s.rdAt r i j))), s) := by
  simp [State.readElem, h, hwo, hcmd, hblob, hstr, hclock, hlive]

end Element

/-- A READ of one element answers with that element's entry, where the reply fits. -/
theorem State.read_one {c : Nat} {v : Option RVal} {win : Option (Nat × Nat)} (hcount : m.count = 1) (hsub : m.sub < 256)
    (he : s.readElem m.session m.index m.sub (m.flags % 2 == 1) win = ((c, v), s)) (hv : (v.map RVal.wire).getD 0 ≤ 1023) :
    s.read m win = { s := s, r := { status := c, payload := [(c, v)] } } := by
  have hlen : ¬ 256 < m.sub + 1 := by omega
  have hwire : ¬ 1024 < Reply.wire { status := c, payload := [(c, v)] } := by
    simp only [Reply.wire, List.foldl_cons, List.foldl_nil]
    omega
  simp [State.read, State.readAll, hcount, hlen, he, worst_singleton, hwire]

/-- The READ of one element as a command. -/
theorem exec_read_one (h : s.Fresh t m true) {c : Nat} {v : Option RVal} (hcount : m.count = 1) (hsub : m.sub < 256)
    (he : (s.taken t m).readElem m.session m.index m.sub (m.flags % 2 == 1) none = ((c, v), s.taken t m))
    (hv : (v.map RVal.wire).getD 0 ≤ 1023) :
    ∃ u, exec (.read t m none) s = .next u
      ∧ State.Answers u (s.taken t m) m 0x10 { status := c, payload := [(c, v)] } := by
  obtain ⟨u, hu, ha, -⟩ := State.answers_of_run (op := 0x10) (area := 0) (n := 0) (vals := [])
    (f := fun s => s.read m none) h (State.read_one hcount hsub he hv) rfl rfl rfl
  exact ⟨u, hu, ha⟩

/-! ### WRITE to an object that does not exist (R37) -/

theorem State.writeElem_missing {slot ix sub : Nat} {via : Transport} {v : WVal} {e : Extra} (h : s.objAt ix sub = none) :
    s.writeElem slot via ix sub v e = { s := s, status := st.NO_OBJECT } := by
  simp [State.writeElem, State.writeRefused, h, Elem.of]

theorem exec_write_missing (h : s.Fresh t m true) (hcount : m.count = 1) (hsub : m.sub < 256)
    (hobj : (s.taken t m).objAt m.index m.sub = none) (v : WVal) :
    ∃ u, exec (.write t m [v]) s = .next u ∧ State.Answers u (s.taken t m) m 0x11 (writeReply st.NO_OBJECT) := by
  have hw : (s.taken t m).write m [v] {} = { s := s.taken t m, r := writeReply st.NO_OBJECT } := by
    have hlen : ¬ 256 < m.sub + 1 := by omega
    simp [State.write, State.writeAll, State.writeElem_missing hobj, hcount, hlen, worst_singleton, writeReply]
  obtain ⟨u, hu, ha, -⟩ := State.answers_of_run (op := 0x11) (area := 0) (n := writeBytesOf m.index m.sub [v])
    (vals := [v]) (f := fun s => s.write m [v] {}) h hw rfl rfl rfl
  exact ⟨u, hu, ha⟩

/-! ### DESCRIBE (R34) -/

/-- The number of an access class in a DESCRIBE reply (log 2). -/
def Acc.number : Acc → Nat
  | .ro => 0 | .rw => 1 | .rws => 2 | .wo => 3 | .cmd => 4

theorem Acc.number_eq (a : Acc) : ((a.number : Int) = 0 ↔ a = .ro) ∧ ((a.number : Int) = 1 ↔ a = .rw)
    ∧ ((a.number : Int) = 2 ↔ a = .rws) ∧ ((a.number : Int) = 3 ↔ a = .wo) := by
  cases a <;> decide

/-- The reply to a DESCRIBE of an object; the unit code is free (log 60). -/
def State.description (s : State) (m : Msg) (r : ObjRow) (i j : Nat) : Reply :=
  ⟨st.OK, [(st.OK, some (s.defaultVal r i j))],
    [(r.ty.code : Nat), (r.acc.number : Nat), if r.stopped then 1 else 0, if r.keep then 1 else 0,
     if areaOf m.index = 21 then 1 else 0, (r.ns : Nat), r.lo, r.hi, (s.freeVal : Nat)], 0⟩

theorem State.describe_missing (h : s.objAt m.index m.sub = none) :
    s.describe m = { s := s, r := { status := st.NO_OBJECT } } := by
  simp [State.describe, h, Act.of]

theorem State.describe_object {r : ObjRow} {i j : Nat} (h : s.objAt m.index m.sub = some (r, i, j)) :
    s.describe m = { s := s.used, r := s.description m r i j } := by
  simp only [State.describe, h, State.description, beq_iff_eq]
  cases r.acc <;> rfl

/-- The DESCRIBE of an object as a command; a free value may have been drawn. -/
theorem exec_describe (h : s.Fresh t m false) {r : Reply} {k : Nat}
    (hd : (s.taken t m).describe m = { s := { s.taken t m with free := k }, r := r }) :
    ∃ u, exec (.describe t m) s = .next u ∧ State.Answers u (s.taken t m) m 0x12 r := by
  obtain ⟨u, hu, ha, -⟩ := State.answers_of_run (op := 0x12) (area := 0) (n := 0) (vals := [])
    (f := fun s => s.describe m) h hd rfl rfl rfl
  exact ⟨u, hu, ha⟩

end Sys2Proof.Machine

namespace Sys2Proof.Proofs

open Sys2Proof Sys2Proof.Machine

/-- Settles O15: each case of a READ is one entry of its reply, and a DESCRIBE answers `State.description`. -/
theorem readsAndDescribes : Obligations.ReadsAndDescribes := by
  unfold Obligations.ReadsAndDescribes
  refine ⟨fun s t m h hcount hsub => ⟨fun hobj => ?missing, fun r i j hobj => ⟨fun hacc => ?writeOnly, ?number⟩⟩,
    fun s t m h => ⟨fun hobj => ?unknown, fun r i j hobj => ?described⟩⟩
  case missing =>
    obtain ⟨u, hu, ha⟩ := exec_read_one h hcount hsub (State.readElem_missing hobj) (by decide)
    exact ⟨u, hu, ha, exec_write_missing h hcount hsub hobj⟩
  case writeOnly => exact exec_read_one h hcount hsub (State.readElem_writeOnly hobj hacc) (by decide)
  case number =>
    intro hwo hcmd hblob hstr hclock hlive
    have hwire : r.ty.wire ≤ 12 := wire_le_of_mem_objTable r (State.objAt_some hobj).1
    have he := State.readElem_number (win := none) (sh := m.flags % 2 == 1) hobj hwo hcmd hblob hstr hclock hlive
    simp only [beq_iff_eq] at he
    exact exec_read_one h hcount hsub he (Nat.le_trans hwire (by decide))
  case unknown => exact exec_describe h (State.describe_missing hobj)
  case described =>
    obtain ⟨u, hu, ha⟩ := exec_describe h (State.describe_object hobj)
    exact ⟨u, r.acc.number, (s.taken t m).freeVal, hu, ha, r.acc.number_eq⟩

end Sys2Proof.Proofs
end

section
/-! PROOF. LOCK and UNLOCK, as messages and through LOCK_CTRL (R59 to R63). -/

namespace Sys2Proof.Machine

variable {s q : State} {t : Cyc} {m : Msg} {k area c : Nat} {via : Transport}

/-! ### The checks before the lock itself -/

theorem lockRefused_of_reserved {role : SessRole} (h : area = 2 ∨ area = 31) : lockRefused role area = some st.DENIED := by
  simp [lockRefused, h]

theorem lockRefused_of_noArea {role : SessRole} (h : 22 ≤ area) (h31 : area ≠ 31) :
    lockRefused role area = some st.RANGE := by
  have h2 : area ≠ 2 := by omega
  simp [lockRefused, h, h2, h31]

section Area
variable {role : SessRole} (h : area < 22) (h2 : area ≠ 2)
include h h2

theorem lockRefused_of_role (hmay : mayLock role area = false) : lockRefused role area = some st.DENIED := by
  have h31 : area ≠ 31 := by omega
  simp [lockRefused, h2, h31, Nat.not_le.mpr h, hmay]

theorem lockRefused_of_mayLock (hmay : mayLock role area = true) : lockRefused role area = none := by
  have h31 : area ≠ 31 := by omega
  simp [lockRefused, h2, h31, Nat.not_le.mpr h, hmay]

end Area

/-! ### LOCK -/

theorem State.lock_refused (h : lockRefused (s.session k).role area = some c) : s.lock k via area = (s, c) := by
  simp [State.lock, h]

section Admitted
variable (h : lockRefused (s.session k).role area = none)
include h

theorem State.lock_overSvc (hsvc : s.isTile = true ∧ via = .svc) : s.lock k via area = (s, st.DENIED) := by
  simp [State.lock, h, hsvc]

theorem State.lock_held (hsvc : ¬ (s.isTile = true ∧ via = .svc)) (hheld : s.lockOwner area ≠ 0xFF) :
    s.lock k via area = (s, st.LOCKED) := by
  simp [State.lock, h, hsvc, hheld]

theorem State.lock_free (hsvc : ¬ (s.isTile = true ∧ via = .svc)) (hfree : s.lockOwner area = 0xFF)
    (hfwd : s.sess.fwd = []) : s.lock k via area = (s.takeLock area k, st.OK) := by
  simp [State.lock, h, hsvc, hfree, hfwd]

/-! ### UNLOCK -/

theorem State.unlock_free (hfree : s.lockOwner area = 0xFF) : s.unlock k area = (s, st.OK) := by
  simp [State.unlock, h, hfree]

theorem State.unlock_own (hown : s.lockOwner area = k) (hheld : s.lockOwner area ≠ 0xFF) :
    s.unlock k area = (s.wrAt Obj.LOCK_CTRL 0 area 0x00FF0000, st.OK) := by
  have hk : k ≠ 0xFF := hown ▸ hheld
  simp [State.unlock, h, hown, hk, State.freeLock]

theorem State.unlock_other (hown : s.lockOwner area ≠ k) (hheld : s.lockOwner area ≠ 0xFF) :
    s.unlock k area = (s, st.LOCKED) := by
  simp [State.unlock, h, hown, hheld]

end Admitted

theorem State.unlock_refused (h : lockRefused (s.session k).role area = some c) : s.unlock k area = (s, c) := by
  simp [State.unlock, h]

/-! ### Suspect marks (R62) -/

theorem State.clearSuspect_ok (h : (area = 21 ∧ (s.session k).role = .safety)
      ∨ (area ≠ 21 ∧ ((s.session k).role = .integrator ∨ (s.session k).role = .vendor))) :
    s.clearSuspect k area = (s.suspect area false, st.OK) := by
  obtain ⟨harea, hrole⟩ | ⟨harea, hrole | hrole⟩ := h <;> simp [State.clearSuspect, harea, hrole]

/-! ### What they move: the dictionary alone -/

theorem State.lock_frame (h : s.lock k via area = (q, c)) : ∃ d, q = { s with dict := d } := by
  unfold State.lock at h
  dsimp only at h
  split at h
  · cases h
    exact ⟨s.dict, rfl⟩
  · split at h
    · cases h
      exact ⟨s.dict, rfl⟩
    · split at h
      · cases h
        exact ⟨s.dict, rfl⟩
      · split at h <;> cases h <;> exact ⟨_, rfl⟩

theorem State.unlock_frame (h : s.unlock k area = (q, c)) : ∃ d, q = { s with dict := d } := by
  unfold State.unlock at h
  split at h
  · cases h
    exact ⟨s.dict, rfl⟩
  · split at h
    · cases h
      exact ⟨s.dict, rfl⟩
    · split at h <;> cases h <;> exact ⟨_, rfl⟩

theorem State.clearSuspect_frame (h : s.clearSuspect k area = (q, c)) : ∃ d, q = { s with dict := d } := by
  unfold State.clearSuspect at h
  dsimp only at h
  generalize (if area = 21 then _ else _) = may at h
  split at h <;> cases h <;> exact ⟨_, rfl⟩

/-! ### As messages -/

theorem exec_lock (h : s.Fresh t m false) (hl : (s.taken t m).lock m.session m.transport area = (q, c)) :
    ∃ u, exec (.lock t m area) s = .next u ∧ State.Answers u q m 0x30 { status := c } := by
  obtain ⟨d, rfl⟩ := State.lock_frame hl
  obtain ⟨u, hu, ha, -⟩ := State.answers_of_run (op := 0x30) (area := area) (n := 0) (vals := [])
    (f := fun s => Act.of (s.lock m.session m.transport area)) h (congrArg Act.of hl) rfl rfl rfl
  exact ⟨u, hu, ha⟩

theorem exec_unlock (h : s.Fresh t m false) (hl : (s.taken t m).unlock m.session area = (q, c)) :
    ∃ u, exec (.unlock t m area) s = .next u ∧ State.Answers u q m 0x31 { status := c } := by
  obtain ⟨d, rfl⟩ := State.unlock_frame hl
  obtain ⟨u, hu, ha, -⟩ := State.answers_of_run (op := 0x31) (area := area) (n := 0) (vals := [])
    (f := fun s => Act.of (s.unlock m.session area)) h (congrArg Act.of hl) rfl rfl rfl
  exact ⟨u, hu, ha⟩

/-! ### Through LOCK_CTRL -/

/-- Noting that a save falls due (R66) marks the session side only. -/
theorem State.noteChange_frame (s old : State) :
    ∃ b, s.noteChange old = { s with sess := { s.sess with autoDue := b } } := by
  unfold State.noteChange
  dsimp only
  split
  · exact ⟨true, rfl⟩
  · exact ⟨s.sess.autoDue, rfl⟩

/-- An element that an address names has its subindex below the row's length. -/
theorem ObjRow.sub_lt_of_locate {r : ObjRow} {ix sub i j : Nat} (h : r.locate ix sub = some (i, j)) : sub < r.s0 + r.ns := by
  unfold ObjRow.locate at h
  split at h
  · next hr => exact hr.2.2.2.2
  · exact absurd h nofun

/-- A write of LOCK_CTRL that passes its checks: where what the value asks for moves the dictionary alone, the write answers
its status. -/
theorem writeLockCtrl_answers {v : Int} (h : s.Writes t m Obj.LOCK_CTRL 0 area (.num v)) {d : List (Nat × Int)}
    (hd : (s.taken t m).writeNum m.session m.transport Obj.LOCK_CTRL 0 area v {} =
      Elem.of ({ s.taken t m with dict := d }, c)) :
    ∃ u, s.run t (State.writeObj m Obj.LOCK_CTRL 0 area (.num v) {}) = .next u
      ∧ State.Answers u { s.taken t m with dict := d } m 0x11 (writeReply c) := by
  obtain ⟨-, hobj, hpass⟩ := id h
  have hsub : Obj.LOCK_CTRL.s0 + area < 256 := by
    have hlt : 0 + area < 0 + 32 := ObjRow.sub_lt_of_locate (State.objAt_some hobj).2
    exact Nat.lt_trans hlt (by decide)
  obtain ⟨b, hb⟩ := State.noteChange_frame { s.taken t m with dict := d } (s.taken t m)
  have he : (s.taken t m).writeElem m.session m.transport (Obj.LOCK_CTRL.base + Obj.LOCK_CTRL.stride * 0)
      (Obj.LOCK_CTRL.s0 + area) (.num v) {} =
        { s := State.noteChange { s.taken t m with dict := d } (s.taken t m), status := c } := by
    simp only [State.writeElem, hpass, hobj, hd]
    rfl
  rw [hb] at he
  obtain ⟨u, hu, ha, -⟩ := State.writeObj_answers h hsub he rfl rfl rfl
  exact ⟨u, hu, ha⟩

theorem exec_lockAcquire (h : s.Writes t m Obj.LOCK_CTRL 0 area (.num 1))
    (hl : (s.taken t m).lock m.session m.transport area = (q, c)) :
    ∃ u, exec (.lockAcquire t m area) s = .next u ∧ State.Answers u q m 0x11 (writeReply c) := by
  obtain ⟨d, rfl⟩ := State.lock_frame hl
  exact writeLockCtrl_answers h (congrArg Elem.of hl)

theorem exec_lockRelease (h : s.Writes t m Obj.LOCK_CTRL 0 area (.num 2))
    (hl : (s.taken t m).unlock m.session area = (q, c)) :
    ∃ u, exec (.lockRelease t m area) s = .next u ∧ State.Answers u q m 0x11 (writeReply c) := by
  obtain ⟨d, rfl⟩ := State.unlock_frame hl
  exact writeLockCtrl_answers h (congrArg Elem.of hl)

theorem exec_lockClearSuspect (h : s.Writes t m Obj.LOCK_CTRL 0 area (.num 3))
    (hl : (s.taken t m).clearSuspect m.session area = (q, c)) :
    ∃ u, exec (.lockClearSuspect t m area) s = .next u ∧ State.Answers u q m 0x11 (writeReply c) := by
  obtain ⟨d, rfl⟩ := State.clearSuspect_frame hl
  exact writeLockCtrl_answers h (congrArg Elem.of hl)

/-! ### LOCK and UNLOCK in the state in which a message runs, case by case -/

theorem State.taken_sessionRole (s : State) (t : Cyc) (m : Msg) :
    ((s.taken t m).session m.session).role = (s.session m.session).role := by
  rw [State.taken_session]

theorem State.taken_takeLock (s : State) (t : Cyc) (m : Msg) (area : Nat) : (s.taken t m).takeLock area m.session =
    (s.taken t m).wrAt Obj.LOCK_CTRL 0 area (m.session * 65536 + (s.session m.session).epoch : Nat) := by
  rw [State.takeLock, State.taken_session]

section Cases
variable {P : State → Nat → Prop}

/-- What holds of whatever LOCK comes to, holds of each of its cases (R59, R60, R63). -/
theorem State.lock_cases (hP : ∀ q c, (s.taken t m).lock m.session m.transport area = (q, c) → P q c) :
    ((area = 2 ∨ area = 31) → P (s.taken t m) st.DENIED)
    ∧ (22 ≤ area → area ≠ 31 → P (s.taken t m) st.RANGE)
    ∧ (area < 22 → area ≠ 2 → mayLock (s.session m.session).role area = false → P (s.taken t m) st.DENIED)
    ∧ (area < 22 → area ≠ 2 → mayLock (s.session m.session).role area = true →
      ((s.isTile = true ∧ m.transport = .svc) → P (s.taken t m) st.DENIED)
      ∧ (¬ (s.isTile = true ∧ m.transport = .svc) →
        (s.lockOwner area ≠ 0xFF → P (s.taken t m) st.LOCKED)
        ∧ (s.lockOwner area = 0xFF → s.sess.fwd = [] → P ((s.taken t m).wrAt Obj.LOCK_CTRL 0 area
            (m.session * 65536 + (s.session m.session).epoch : Nat)) st.OK))) := by
  have refused (c : Nat) (hc : lockRefused (s.session m.session).role area = some c) : P (s.taken t m) c := by
    rw [← State.taken_sessionRole s t m] at hc
    exact hP _ _ (State.lock_refused hc)
  refine ⟨fun h2 => refused _ (lockRefused_of_reserved h2), fun hno h31 => refused _ (lockRefused_of_noArea hno h31),
    fun hlt h2 hmay => refused _ (lockRefused_of_role hlt h2 hmay), fun hlt h2 hmay => ?_⟩
  have passed := lockRefused_of_mayLock hlt h2 hmay
  rw [← State.taken_sessionRole s t m] at passed
  refine ⟨fun hsvc => hP _ _ (State.lock_overSvc passed hsvc),
    fun hsvc => ⟨fun hheld => hP _ _ (State.lock_held passed hsvc hheld), fun hfree hfwd => ?_⟩⟩
  rw [← State.taken_takeLock]
  exact hP _ _ (State.lock_free passed hsvc hfree hfwd)

/-- The same for UNLOCK (R59). -/
theorem State.unlock_cases (hP : ∀ q c, (s.taken t m).unlock m.session area = (q, c) → P q c) :
    ((area = 2 ∨ area = 31) → P (s.taken t m) st.DENIED)
    ∧ (22 ≤ area → area ≠ 31 → P (s.taken t m) st.RANGE)
    ∧ (area < 22 → area ≠ 2 → mayLock (s.session m.session).role area = false → P (s.taken t m) st.DENIED)
    ∧ (area < 22 → area ≠ 2 → mayLock (s.session m.session).role area = true →
      (s.lockOwner area = 0xFF → P (s.taken t m) st.OK)
      ∧ (s.lockOwner area = m.session → s.lockOwner area ≠ 0xFF →
          P ((s.taken t m).wrAt Obj.LOCK_CTRL 0 area 0x00FF0000) st.OK)
      ∧ (s.lockOwner area ≠ m.session → s.lockOwner area ≠ 0xFF → P (s.taken t m) st.LOCKED)) := by
  have refused (c : Nat) (hc : lockRefused (s.session m.session).role area = some c) : P (s.taken t m) c := by
    rw [← State.taken_sessionRole s t m] at hc
    exact hP _ _ (State.unlock_refused hc)
  refine ⟨fun h2 => refused _ (lockRefused_of_reserved h2), fun hno h31 => refused _ (lockRefused_of_noArea hno h31),
    fun hlt h2 hmay => refused _ (lockRefused_of_role hlt h2 hmay), fun hlt h2 hmay => ?_⟩
  have passed := lockRefused_of_mayLock hlt h2 hmay
  rw [← State.taken_sessionRole s t m] at passed
  exact ⟨fun hfree => hP _ _ (State.unlock_free passed hfree),
    fun hown hheld => hP _ _ (State.unlock_own passed hown hheld),
    fun hown hheld => hP _ _ (State.unlock_other passed hown hheld)⟩

end Cases

end Sys2Proof.Machine

namespace Sys2Proof.Proofs

open Sys2Proof Sys2Proof.Machine

/-- Settles O17: LOCK and UNLOCK have the same cases as messages and through LOCK_CTRL, and each case is answered. -/
theorem locksAreTakenAndFreed : Obligations.LocksAreTakenAndFreed := by
  unfold Obligations.LocksAreTakenAndFreed
  refine ⟨fun s t m area h => ?message, fun s t m area => ⟨fun h => ?acquire, fun h => ?release, ?clear⟩⟩
  case message =>
    obtain ⟨lockReserved, lockNoArea, lockRole, lockPassed⟩ := State.lock_cases fun q c => exec_lock (q := q) (c := c) h
    obtain ⟨unlockReserved, unlockNoArea, unlockRole, unlockPassed⟩ :=
      State.unlock_cases fun q c => exec_unlock (q := q) (c := c) h
    refine ⟨fun h2 => ⟨lockReserved h2, unlockReserved h2⟩,
      fun ⟨hno, h31⟩ => ⟨lockNoArea hno h31, unlockNoArea hno h31⟩,
      fun hlt h2 hmay => ⟨lockRole hlt h2 hmay, unlockRole hlt h2 hmay⟩, fun hlt h2 hmay => ?_⟩
    obtain ⟨overSvc, taken⟩ := lockPassed hlt h2 hmay
    exact ⟨overSvc, taken, unlockPassed hlt h2 hmay⟩
  case acquire => exact State.lock_cases fun q c => exec_lockAcquire h
  case release => exact State.unlock_cases fun q c => exec_lockRelease h
  case clear =>
    intro h _ _ hrole
    rw [← State.taken_sessionRole s t m] at hrole
    exact exec_lockClearSuspect h (State.clearSuspect_ok hrole)

end Sys2Proof.Proofs
end

section
/-! PROOF. SETUP and FRAME_REQ (R69, R73, R74, R77, R78, R80): what waits in a port's class 6, what an open buffer that is
discarded and the PUBLISHes behind it leave as they were, and each answer of the sender. -/

namespace Sys2Proof.Machine

variable {s q : State} {t : Cyc} {h : IngHdr} {f : PlaneFormat} {w : PubWait} {i k : Nat}

/-! ### Slots: read after write -/

section Stores
variable {α : Type}

theorem drop_drop_same (k : Nat) (m : List (Nat × α)) : drop k (drop k m) = drop k m := by
  induction m with
  | nil => rfl
  | cons p m ih => by_cases hp : p.1 = k <;> simp [drop, hp, ih]

theorem drop_insertAt_same (k : Nat) (v : α) (m : List (Nat × α)) : drop k (insertAt k v m) = drop k m := by
  induction m with
  | nil => simp [insertAt, drop]
  | cons p m ih => by_cases hp : k ≤ p.1 <;> simp [insertAt, drop, hp, ih]

/-- Of two writes to one key the last stands. -/
theorem put_put_same [DecidableEq α] (d : α) (k : Nat) (v x : α) (m : List (Nat × α)) :
    put d k v (put d k x m) = put d k v m := by
  have hdrop : drop k (put d k x m) = drop k m := by
    unfold put
    split
    · exact drop_drop_same k m
    · rw [drop_insertAt_same, drop_drop_same]
  rw [put, hdrop, put]

end Stores

@[simp] theorem State.slot_setSlot_same (s : State) (i : Nat) (x : IngSlot) : (s.setSlot i x).slot i = x := by
  simp [State.slot]

theorem State.slot_setSlot_other (s : State) (x : IngSlot) (hk : k ≠ i) : (s.setSlot i x).slot k = s.slot k := by
  simp [State.slot, look_put_other _ _ hk]

theorem State.setSlot_setSlot_same (s : State) (i : Nat) (x y : IngSlot) :
    (s.setSlot i x).setSlot i y = s.setSlot i y := by
  simp [State.setSlot, put_put_same]

theorem State.slot_congr (hv : q.video = s.video) (k : Nat) : q.slot k = s.slot k := by
  rw [State.slot, hv, State.slot]

/-! ### The sender's packets in a port's egress queue (R73, R180) -/

/-- A packet of class 6 waits on a port. -/
def State.Waits (s : State) (port typ : Nat) (words : List Nat) : Prop :=
  ∃ k ∈ (s.egress port).queue, k.cls = 6 ∧ k.typ = typ ∧ k.words = words.map Int.ofNat

section ToFrontEnd
variable (s : State) (port typ buf gen val : Nat) (words : List Nat)

/-- What is sent waits. -/
theorem State.toFrontEnd_waits :
    (s.toFrontEnd port typ buf gen val words).Waits port typ ([buf, gen, val] ++ words) := by
  refine ⟨{ cls := 6, blocks := 2 + ingestPayload typ, dst := 0, at_ := s.now, typ := typ,
            words := ([buf, gen, val] ++ words).map Int.ofNat }, ?_, rfl, rfl, rfl⟩
  simp [State.toFrontEnd, State.enqueue, State.egress]

end ToFrontEnd

/-! ### Counting and raising -/

/-- A count leaves every other value as it was. -/
theorem State.rdAt_bumpAt_other (s : State) {r c : ObjRow} {a b i j : Nat} (hne : r.key a b ≠ c.key i j) :
    (s.bumpAt c i j).rdAt r a b = s.rdAt r a b := by
  unfold State.bumpAt State.addTo
  dsimp only
  split <;> exact State.rdAt_wrAt_other s c r i j a b _ hne

/-- Raising touches the collector only, and a running one has the event in its queue. -/
theorem State.raise_event (s : State) (src unit value : Nat) : ∃ fl, s.raise src unit value = s.setFlt fl
    ∧ (s.flt.running = true → ∃ e ∈ fl.queue, e.src = src ∧ e.unit = unit ∧ e.value = value) := by
  cases hr : s.flt.running with
  | false => exact ⟨s.flt, by simp [State.raise, hr, State.setFlt], nofun⟩
  | true =>
    exact ⟨_, s.raise_queue src unit value hr,
      fun _ => ⟨_, List.mem_append_right _ (List.mem_singleton.mpr rfl), rfl, rfl, rfl⟩⟩

/-! ### What answers leave as it was -/

/-- Slots, buffers, sessions and the slots' configuration stand. -/
structure State.KeepsSlots (s q : State) : Prop where
  video : q.video = s.video
  sess : q.sess = s.sess
  config : ∀ r ∈ slotRows, ∀ k, q.rdAt r k 0 = s.rdAt r k 0

theorem State.KeepsSlots.refl (s : State) : s.KeepsSlots s := ⟨rfl, rfl, fun _ _ _ => rfl⟩

theorem State.KeepsSlots.trans {a b c : State} (hab : a.KeepsSlots b) (hbc : b.KeepsSlots c) : a.KeepsSlots c :=
  ⟨hbc.video.trans hab.video, hbc.sess.trans hab.sess,
    fun r hr k => (hbc.config r hr k).trans (hab.config r hr k)⟩

theorem State.toFrontEnd_keepsSlots (s : State) (port typ buf gen val : Nat) (words : List Nat) :
    s.KeepsSlots (s.toFrontEnd port typ buf gen val words) :=
  ⟨rfl, rfl, fun _ _ _ => rfl⟩

theorem State.raise_keepsSlots (s : State) (src unit value : Nat) : s.KeepsSlots (s.raise src unit value) := by
  obtain ⟨fl, hf⟩ := s.raise_frame src unit value
  rw [hf]
  exact ⟨rfl, rfl, fun _ _ _ => rfl⟩

/-- The rows of a slot lie in one block of 16 indices, the configuration before the counts and the reason. -/
theorem slotRows_key_ne {r c : ObjRow} (hr : r ∈ slotRows)
    (hc : c ∈ [Obj.ING_PUBLISH_REFUSED, Obj.ING_REFUSE_REASON]) (k i : Nat) : r.key k 0 ≠ c.key i 0 := by
  have hrow : ∀ r ∈ slotRows, r.base = 0x2000 ∧ r.stride = 16 ∧ r.s0 < 7 := by decide
  have hcount : ∀ c ∈ [Obj.ING_PUBLISH_REFUSED, Obj.ING_REFUSE_REASON],
      c.base = 0x2000 ∧ c.stride = 16 ∧ 11 ≤ c.s0 ∧ c.s0 < 16 := by decide
  obtain ⟨hrb, hrs, hr7⟩ := hrow r hr
  obtain ⟨hcb, hcs, hc11, hc16⟩ := hcount c hc
  simp only [ObjRow.key, hrb, hrs, hcb, hcs]
  omega

theorem State.reason_keepsSlots (s : State) (i code : Nat) : s.KeepsSlots (s.reason i code) :=
  ⟨rfl, rfl, fun _ hr k => State.rdAt_wrAt_other s _ _ _ _ _ _ _ (slotRows_key_ne hr (by simp) k i)⟩

theorem State.bumpRefused_keepsSlots (s : State) (i : Nat) : s.KeepsSlots (s.bumpAt Obj.ING_PUBLISH_REFUSED i 0) := by
  obtain ⟨d, n, hd⟩ := s.bumpAt_frame Obj.ING_PUBLISH_REFUSED i 0
  exact ⟨by rw [hd], by rw [hd], fun r hr k => s.rdAt_bumpAt_other (slotRows_key_ne hr (by simp) k i)⟩

/-! ### A PUBLISH of a buffer that is not open (R79) -/

section NotNamed
variable (hn : ¬ ((s.slot i).opened = some w.buf ∧ (s.slot i).gen w.buf = w.gen))
include hn

theorem publishOne_repeat (ha : (w.buf, w.gen) ∈ (s.slot i).accepted) :
    publishOne i s w = s.toFrontEnd w.port 0x07 0 0 w.seq [] := by
  simp only [publishOne, hn, ha, List.contains_iff_mem, false_and, not_false_eq_true, and_self, if_true, if_false]

theorem publishOne_unknown (ha : (w.buf, w.gen) ∉ (s.slot i).accepted) : publishOne i s w =
    (((s.reason i 7).bumpAt Obj.ING_PUBLISH_REFUSED i 0).toFrontEnd w.port 0x08 0 0 w.seq [7]).raise 0x33 i 7 := by
  simp only [publishOne, hn, ha, List.contains_iff_mem, false_and, and_false, if_false]

end NotNamed

/-- With nothing open a PUBLISH is answered, and the slot stands. -/
theorem publishOne_keepsSlots (ho : (s.slot i).opened = none) (w : PubWait) : s.KeepsSlots (publishOne i s w) := by
  have hn : ¬ ((s.slot i).opened = some w.buf ∧ (s.slot i).gen w.buf = w.gen) := by simp [ho]
  by_cases ha : (w.buf, w.gen) ∈ (s.slot i).accepted
  · rw [publishOne_repeat hn ha]
    exact s.toFrontEnd_keepsSlots _ _ _ _ _ _
  · rw [publishOne_unknown hn ha]
    exact (((s.reason_keepsSlots i 7).trans (State.bumpRefused_keepsSlots _ i)).trans
      (State.toFrontEnd_keepsSlots _ _ _ _ _ _ _)).trans (State.raise_keepsSlots _ _ _ _)

theorem foldl_publishOne_keepsSlots (ws : List PubWait) :
    ∀ s : State, (s.slot i).opened = none → s.KeepsSlots (ws.foldl (publishOne i) s) := by
  induction ws with
  | nil => exact fun s _ => .refl s
  | cons w ws ih =>
    intro s ho
    have hw := publishOne_keepsSlots ho w
    exact hw.trans (ih _ ((State.slot_congr hw.video i).symm ▸ ho))

theorem publishCheck_of_nothingHeld (hh : (s.slot i).held = []) : publishCheck i s =
    (s.slot i).waiting.foldl (publishOne i) (s.setSlot i { s.slot i with waiting := [] }) := by
  simp [publishCheck, hh]

/-! ### The open buffer discarded, and what waited behind it (R74, R76, R77, R79) -/

/-- A slot whose units are all freed, with CREDIT last sent at `a` for `c` of them. -/
def IngSlot.credited (x : IngSlot) (c : Nat) (a : Cyc) : IngSlot :=
  { x with freed := x.consumed, creditSent := c, creditAt := a }

/-- With nothing held every unit taken is freed; CREDIT may go. -/
theorem State.freeUnits_of_nothingHeld (hh : (s.slot i).held = []) :
    ∃ c a fl, s.freeUnits i = (s.setSlot i ((s.slot i).credited c a)).setFlue fl := by
  have hempty : (s.slot i).held.isEmpty = true := List.isEmpty_iff.mpr hh
  simp only [State.freeUnits, hempty, if_true]
  split
  · exact ⟨(s.slot i).consumed, s.now, _, rfl⟩
  · exact ⟨(s.slot i).creditSent, (s.slot i).creditAt, s.flue, rfl⟩

/-- A slot with nothing open and nothing held. -/
def IngSlot.discarded (x : IngSlot) : IngSlot :=
  { x with opened := none, held := [], fault := none, written := 0, taken := false }

theorem State.discardOpen_frame (s : State) (i : Nat) :
    ∃ c a fl, s.discardOpen i = (s.setSlot i ((s.slot i).discarded.credited c a)).setFlue fl := by
  obtain ⟨c, a, fl, he⟩ := State.freeUnits_of_nothingHeld (i := i) (s := s.setSlot i (s.slot i).discarded)
    (by rw [State.slot_setSlot_same]; rfl)
  rw [State.slot_setSlot_same, State.setSlot_setSlot_same] at he
  exact ⟨c, a, fl, he⟩

/-- The open buffer discarded and the PUBLISHes that waited answered: the slot is free for a next frame. -/
structure State.Clears (i : Nat) (s q : State) : Prop where
  slot : ∃ c a, q.slot i = { (s.slot i).discarded.credited c a with waiting := [] }
  others : ∀ k, k ≠ i → q.slot k = s.slot k
  mem : q.video.mem = s.video.mem
  sess : q.sess = s.sess
  config : ∀ r ∈ slotRows, ∀ k, q.rdAt r k 0 = s.rdAt r k 0
  flt : (s.slot i).waiting = [] → q.flt = s.flt

theorem publishCheck_discardOpen_clears (s : State) (i : Nat) : s.Clears i (publishCheck i (s.discardOpen i)) := by
  obtain ⟨c, a, e, hd⟩ := s.discardOpen_frame i
  have hslot : (s.discardOpen i).slot i = (s.slot i).discarded.credited c a := by
    rw [hd]
    exact State.slot_setSlot_same s i _
  have hothers : ∀ k, k ≠ i → (s.discardOpen i).slot k = s.slot k := fun k hk => by
    rw [hd]
    exact State.slot_setSlot_other s _ hk
  rw [publishCheck_of_nothingHeld (by rw [hslot]; rfl), hslot]
  have hkeeps := foldl_publishOne_keepsSlots (i := i) (s.slot i).waiting
    ((s.discardOpen i).setSlot i { (s.slot i).discarded.credited c a with waiting := [] })
    (by rw [State.slot_setSlot_same]; rfl)
  refine ⟨⟨c, a, ?_⟩, fun k hk => ?_, ?_, ?_, fun r hr k => ?_, fun hw => ?_⟩
  · exact (State.slot_congr hkeeps.video i).trans (State.slot_setSlot_same _ i _)
  · exact (State.slot_congr hkeeps.video k).trans ((State.slot_setSlot_other _ _ hk).trans (hothers k hk))
  · exact (congrArg Video.mem hkeeps.video).trans (by rw [hd]; rfl)
  · exact hkeeps.sess.trans (by rw [hd]; rfl)
  · exact (hkeeps.config r hr k).trans (by rw [hd]; rfl)
  · have hnone : ((s.slot i).discarded.credited c a).waiting = [] := hw
    rw [hnone, hd]
    rfl

theorem State.Clears.ringDepth (hq : s.Clears i q) :
    q.natAt Obj.ING_RING_DEPTH i 0 = s.natAt Obj.ING_RING_DEPTH i 0 :=
  congrArg Int.toNat (hq.config _ (by simp [slotRows]) i)

/-! ### A command of the ingest protocol -/

/-- A live device's answer to a command whose effect comes to `q`. -/
def State.settled (s q : State) : State := { s.fixed q with role := s.role }

theorem State.run_effect {g : State → State} (hl : s.live = true) (hg : g (s.upTo t) = q) :
    s.run t g = .next ((s.upTo t).settled q) := by
  rw [State.run_live s t g hl, hg]
  rfl

/-- A command without effect only lets time pass. -/
theorem State.run_idle {g : State → State} (hl : s.live = true) (hg : g (s.upTo t) = s.upTo t) :
    s.run t g = .next { s with now := max s.now t } := by
  rw [State.run_effect hl hg]
  rfl

/-! ### SETUP (R69, R73, R74, R80) -/

section Heard
variable (hsend : s.isSender = true) (hgood : h.bad = false)
include hsend hgood

theorem setupEffect_unbound (hslot : s.slotOf h.port = none) : setupEffect h f s = s.refuseSetup h.port h.seq 2 := by
  simp [setupEffect, hsend, hgood, hslot]

theorem setupEffect_version (hslot : s.slotOf h.port = some i) (hv : h.version ≠ 1) :
    setupEffect h f s = (s.reason i 3).refuseSetup h.port h.seq 3 := by
  simp [setupEffect, hsend, hgood, hslot, hv]

theorem setupEffect_format (hslot : s.slotOf h.port = some i) (hv : h.version = 1) (hf : f ≠ slotFormat s.rdAt i) :
    setupEffect h f s = (s.reason i 1).refuseSetup h.port h.seq 1 := by
  simp [setupEffect, hsend, hgood, hslot, hv, hf]

end Heard

/-- The streaming state begins and is acknowledged (R74, R76). -/
def State.startStream (q : State) (i : Nat) (h : IngHdr) : State :=
  ((q.setSlot i { q.slot i with streaming := true, consumed := 0, freed := 0, creditSent := 0,
                                creditAt := q.now }).toFrontEnd
    h.port 0x02 0 0 h.seq [4096, q.natAt Obj.ING_RING_DEPTH i 0]).showSlot i

theorem setupEffect_accepted (hsend : s.isSender = true) (hgood : h.bad = false) (hslot : s.slotOf h.port = some i)
    (hv : h.version = 1) (hf : f = slotFormat s.rdAt i) :
    setupEffect h f s = (publishCheck i (s.discardOpen i)).startStream i h := by
  simp only [setupEffect, hsend, hgood, hslot, hv, hf, Bool.not_true, Bool.or_self, Bool.false_eq_true, if_false, ne_eq,
    not_true_eq_false]
  rfl

theorem State.startStream_slot (q : State) (i : Nat) (h : IngHdr) : (q.startStream i h).slot i =
    { q.slot i with streaming := true, consumed := 0, freed := 0, creditSent := 0, creditAt := q.now } :=
  State.slot_setSlot_same q i _

theorem State.startStream_waits (q : State) (i : Nat) (h : IngHdr) :
    (q.startStream i h).Waits h.port 0x02 [0, 0, h.seq, 4096, q.natAt Obj.ING_RING_DEPTH i 0] :=
  State.toFrontEnd_waits _ _ _ _ _ _ _

/-- A SETUP that is refused: SETUP_NAK waits, and ingest-setup-refused is raised (R80). -/
theorem exec_setup_refused (hl : s.live = true) {code : Nat} {d : List (Nat × Int)}
    (he : setupEffect h f (s.upTo t) = State.refuseSetup { s.upTo t with dict := d } h.port h.seq code) :
    ∃ u, exec (.setup t h f) s = .next u ∧ u.Waits h.port 0x03 [0, 0, h.seq, code] ∧ u.video = s.video
      ∧ u.sess = s.sess ∧ u.nv = s.nv ∧ u.out = s.out
      ∧ (s.flt.running = true → ∃ e ∈ u.flt.queue, e.src = 0x30 ∧ e.unit = h.port ∧ e.value = code) := by
  obtain ⟨fl, hfl, hevent⟩ :=
    State.raise_event (State.toFrontEnd { s.upTo t with dict := d } h.port 0x03 0 0 h.seq [code]) 0x30 h.port code
  exact ⟨_, State.run_effect hl (he.trans hfl), State.toFrontEnd_waits _ _ _ _ _ _ _, rfl, rfl, rfl, rfl, hevent⟩

/-- A SETUP that is accepted. -/
theorem exec_setup_accepted (hl : s.live = true) (hsend : s.isSender = true) (hgood : h.bad = false)
    (hslot : s.slotOf h.port = some i) (hv : h.version = 1) (hf : f = slotFormat s.rdAt i) :
    ∃ u, exec (.setup t h f) s = .next u
      ∧ (u.slot i).streaming = true ∧ (u.slot i).opened = none ∧ (u.slot i).held = [] ∧ (u.slot i).consumed = 0
      ∧ (u.slot i).freed = 0 ∧ (u.slot i).order = (s.slot i).order ∧ (u.slot i).gens = (s.slot i).gens
      ∧ u.Waits h.port 0x02 [0, 0, h.seq, 4096, s.natAt Obj.ING_RING_DEPTH i 0]
      ∧ (∀ k, k ≠ i → u.slot k = s.slot k) ∧ u.video.mem = s.video.mem ∧ u.sess = s.sess
      ∧ ((s.slot i).waiting = [] → u.flt = s.flt) := by
  have he := setupEffect_accepted (s := s.upTo t) hsend hgood hslot hv hf
  have hq := publishCheck_discardOpen_clears (s.upTo t) i
  generalize publishCheck i ((s.upTo t).discardOpen i) = q at he hq
  obtain ⟨c, a, hcleared⟩ := hq.slot
  have hwaits := q.startStream_waits i h
  rw [hq.ringDepth] at hwaits
  have hnew := q.startStream_slot i h
  rw [hcleared] at hnew
  refine ⟨_, State.run_effect hl he, ?_⟩
  have hu : ((s.upTo t).settled (q.startStream i h)).slot i = (q.startStream i h).slot i := rfl
  rw [hu, hnew]
  exact ⟨rfl, rfl, rfl, rfl, rfl, rfl, rfl, hwaits,
    fun k hk => (State.slot_setSlot_other q _ hk).trans (hq.others k hk), hq.mem, hq.sess, hq.flt⟩

/-! ### Control packets on a slot, and FRAME_REQ (R73, R77, R78) -/

theorem State.onSlot_unbound (hslot : s.slotOf h.port = none) (g : State → Nat → State) : s.onSlot h g = s := by
  simp [State.onSlot, hslot]

section Bound
variable (hsend : s.isSender = true) (hgood : h.bad = false) (hv : h.version = 1) (hslot : s.slotOf h.port = some i)
include hsend hgood hv hslot

theorem State.onSlot_streaming (hstr : (s.slot i).streaming = true) (g : State → Nat → State) :
    s.onSlot h g = g s i := by
  simp [State.onSlot, hsend, hgood, hv, hslot, hstr]

theorem State.onSlot_notStreaming (hstr : (s.slot i).streaming = false) (g : State → Nat → State) :
    s.onSlot h g = s.notStreaming i h.port := by
  simp [State.onSlot, hsend, hgood, hv, hslot, hstr]

theorem frameReqEffect_notStreaming (hstr : (s.slot i).streaming = false) :
    frameReqEffect h s = s.notStreaming i h.port :=
  State.onSlot_notStreaming hsend hgood hv hslot hstr _

theorem frameReqEffect_unopened (hstr : (s.slot i).streaming = true) (ho : (s.slot i).opened = none) :
    frameReqEffect h s = s.grant i h := by
  rw [frameReqEffect, State.onSlot_streaming hsend hgood hv hslot hstr]
  simp only [ho]

theorem frameReqEffect_untaken {o : Nat} (hstr : (s.slot i).streaming = true) (ho : (s.slot i).opened = some o)
    (ht : (s.slot i).taken = false) : frameReqEffect h s = s.toFrontEnd h.port 0x05 o ((s.slot i).gen o) h.seq [] := by
  rw [frameReqEffect, State.onSlot_streaming hsend hgood hv hslot hstr]
  simp only [ho, ht, Bool.false_eq_true, if_false]

theorem frameReqEffect_taken {o : Nat} (hstr : (s.slot i).streaming = true) (ho : (s.slot i).opened = some o)
    (ht : (s.slot i).taken = true) : frameReqEffect h s = (publishCheck i (s.discardOpen i)).grant i h := by
  rw [frameReqEffect, State.onSlot_streaming hsend hgood hv hslot hstr]
  simp only [ho, ht, if_true]

end Bound

/-- The other packets of an unbound port have no effect (R69). -/
theorem exec_unbound (hl : s.live = true) (hslot : s.slotOf h.port = none) {no : Nat} {bytes : List Byte} {c : Instr}
    (hc : c = .frameReq t h ∨ c = .data t h bytes ∨ c = .publish t h no) :
    exec c s = .next { s with now := max s.now t } := by
  have idle (g : State → Nat → State) : (s.upTo t).onSlot h g = s.upTo t :=
    State.onSlot_unbound (s := s.upTo t) hslot g
  obtain rfl | rfl | rfl := hc
  · exact State.run_idle (g := frameReqEffect h) hl (idle _)
  · exact State.run_idle (g := dataEffect h bytes) hl (idle _)
  · exact State.run_idle (g := publishEffect h no) hl (idle _)

/-! ### The grant (R77) -/

/-- The buffer that a ring of `depth` grants next, with its GEN raised, is open and told to the port. -/
structure State.Granted (q u : State) (i depth : Nat) (h : IngHdr) : Prop where
  opened : (u.slot i).opened = some ((q.slot i).pick depth)
  gen : (u.slot i).gen ((q.slot i).pick depth) = ((q.slot i).gen ((q.slot i).pick depth) + 1) % 65536
  written : (u.slot i).written = 0
  fault : (u.slot i).fault = none
  waits : u.Waits h.port 0x05 [(q.slot i).pick depth, ((q.slot i).gen ((q.slot i).pick depth) + 1) % 65536, h.seq]
  others : ∀ k, k ≠ i → u.slot k = q.slot k
  mem : u.video.mem = q.video.mem

/-- A slot to which buffer `b` is granted. -/
def IngSlot.granted (x : IngSlot) (b : Nat) : IngSlot :=
  { x with opened := some b, gens := put 0 b ((x.gen b + 1) % 65536) x.gens, written := 0, taken := false,
           fault := none }

theorem State.grant_slot (q : State) (i : Nat) (h : IngHdr) :
    (q.grant i h).slot i = (q.slot i).granted ((q.slot i).pick (q.natAt Obj.ING_RING_DEPTH i 0)) :=
  State.slot_setSlot_same q i _

theorem State.grant_granted (q : State) (i : Nat) (h : IngHdr) :
    q.Granted (q.grant i h) i (q.natAt Obj.ING_RING_DEPTH i 0) h where
  opened := by rw [q.grant_slot]; rfl
  gen := by rw [q.grant_slot]; exact look_put_same _ _ _ _
  written := by rw [q.grant_slot]; rfl
  fault := by rw [q.grant_slot]; rfl
  waits := State.toFrontEnd_waits _ _ _ _ _ _ _
  others := fun _ hk => State.slot_setSlot_other q _ hk
  mem := rfl

/-- What discarding an open buffer keeps is all that the next grant depends on. -/
theorem State.Granted.of_clears {u : State} {depth : Nat} (hg : q.Granted u i depth h) (hq : s.Clears i q) :
    s.Granted u i depth h := by
  obtain ⟨c, a, hslot⟩ := hq.slot
  have hpick : (q.slot i).pick depth = (s.slot i).pick depth := by rw [hslot]; rfl
  have hgen : (q.slot i).gen ((s.slot i).pick depth) = (s.slot i).gen ((s.slot i).pick depth) := by rw [hslot]; rfl
  obtain ⟨hopened, hgens, hwritten, hfault, hwaits, hothers, hmem⟩ := hg
  rw [hpick] at hopened hgens hwaits
  rw [hgen] at hgens hwaits
  exact ⟨hopened, hgens, hwritten, hfault, hwaits, fun k hk => (hothers k hk).trans (hq.others k hk),
    hmem.trans hq.mem⟩

/-- What a live device has granted, its answer has. -/
theorem State.Granted.settled {u : State} {depth : Nat} (hg : (s.upTo t).Granted u i depth h) :
    s.Granted ((s.upTo t).settled u) i depth h :=
  ⟨hg.opened, hg.gen, hg.written, hg.fault, hg.waits, hg.others, hg.mem⟩

/-- The same as one conjunction. -/
theorem State.Granted.clauses {u : State} {depth : Nat} (hg : q.Granted u i depth h) :
    (u.slot i).opened = some ((q.slot i).pick depth)
      ∧ (u.slot i).gen ((q.slot i).pick depth) = ((q.slot i).gen ((q.slot i).pick depth) + 1) % 65536
      ∧ (u.slot i).written = 0 ∧ (u.slot i).fault = none
      ∧ u.Waits h.port 0x05 [(q.slot i).pick depth, ((q.slot i).gen ((q.slot i).pick depth) + 1) % 65536, h.seq]
      ∧ (∀ k, k ≠ i → u.slot k = q.slot k) ∧ u.video.mem = q.video.mem :=
  ⟨hg.opened, hg.gen, hg.written, hg.fault, hg.waits, hg.others, hg.mem⟩

/-! ### FRAME_REQ as a command -/

section FrameReq
variable (hl : s.live = true) (hsend : s.isSender = true) (hgood : h.bad = false) (hv : h.version = 1)
  (hslot : s.slotOf h.port = some i)
include hl hsend hgood hv hslot

theorem exec_frameReq_unopened (hstr : (s.slot i).streaming = true) (ho : (s.slot i).opened = none) :
    ∃ u, exec (.frameReq t h) s = .next u ∧ s.Granted u i (s.natAt Obj.ING_RING_DEPTH i 0) h
      ∧ u.dict = s.dict ∧ u.flt = s.flt ∧ u.out = s.out :=
  ⟨_, State.run_effect hl (frameReqEffect_unopened (s := s.upTo t) hsend hgood hv hslot hstr ho),
    (State.grant_granted (s.upTo t) i h).settled, rfl, rfl, rfl⟩

theorem exec_frameReq_untaken {o : Nat} (hstr : (s.slot i).streaming = true) (ho : (s.slot i).opened = some o)
    (ht : (s.slot i).taken = false) : ∃ u, exec (.frameReq t h) s = .next u
      ∧ u.Waits h.port 0x05 [o, (s.slot i).gen o, h.seq]
      ∧ u = { s with now := max s.now t, flue := { s.flue with egress := u.flue.egress } } :=
  ⟨_, State.run_effect hl (frameReqEffect_untaken (s := s.upTo t) hsend hgood hv hslot hstr ho ht),
    State.toFrontEnd_waits (s.upTo t) _ _ _ _ _ _, rfl⟩

theorem exec_frameReq_taken {o : Nat} (hstr : (s.slot i).streaming = true) (ho : (s.slot i).opened = some o)
    (ht : (s.slot i).taken = true) : ∃ u, exec (.frameReq t h) s = .next u
      ∧ s.Granted u i (s.natAt Obj.ING_RING_DEPTH i 0) h
      ∧ (u.slot i).held = [] ∧ (u.slot i).order = (s.slot i).order := by
  have he := frameReqEffect_taken (s := s.upTo t) hsend hgood hv hslot hstr ho ht
  have hq := publishCheck_discardOpen_clears (s.upTo t) i
  generalize publishCheck i ((s.upTo t).discardOpen i) = q at he hq
  have hg := q.grant_granted i h
  rw [hq.ringDepth] at hg
  obtain ⟨c, a, hcleared⟩ := hq.slot
  have hnew := q.grant_slot i h
  rw [hcleared] at hnew
  refine ⟨_, State.run_effect hl he, (hg.of_clears hq).settled, ?_⟩
  have hu : ((s.upTo t).settled (q.grant i h)).slot i = (q.grant i h).slot i := rfl
  rw [hu, hnew]
  exact ⟨rfl, rfl⟩

theorem exec_frameReq_notStreaming (hstr : (s.slot i).streaming = false) : ∃ u, exec (.frameReq t h) s = .next u
    ∧ u.natAt Obj.ING_REFUSE_REASON i 0 = 9 ∧ u.video = s.video ∧ u.Waits h.port 0x0C [0, 0, 0, 9] ∧ u.out = s.out :=
  ⟨_, State.run_effect hl (frameReqEffect_notStreaming (s := s.upTo t) hsend hgood hv hslot hstr),
    congrArg Int.toNat (State.rdAt_wrAt_same s Obj.ING_REFUSE_REASON i 0 9), rfl,
    State.toFrontEnd_waits _ _ _ _ _ _ _, rfl⟩

end FrameReq

end Sys2Proof.Machine

namespace Sys2Proof.Proofs

open Sys2Proof Sys2Proof.Machine

/-- Settles O27: each case of a SETUP and of a FRAME_REQ is one answer of the sender. -/
theorem setupsAndFramesAreGranted : Obligations.SetupsAndFramesAreGranted := by
  unfold Obligations.SetupsAndFramesAreGranted
  refine ⟨fun s t h f hl hsend hgood => ⟨fun hslot => ⟨?unbound, fun no bytes c hc => exec_unbound hl hslot hc⟩,
      fun i hslot => ⟨fun hv => ?version, fun hv hf => ?format, fun hv hf => ?accepted⟩⟩,
    fun s t h i hl hsend hgood hv hslot =>
      ⟨fun hstr ho => ?unopened, fun o hstr ho ht => ?untaken, fun o hstr ho ht => ?taken, fun hstr => ?idle⟩⟩
  case unbound => exact exec_setup_refused hl (setupEffect_unbound (s := s.upTo t) hsend hgood hslot)
  case version => exact exec_setup_refused hl (setupEffect_version (s := s.upTo t) hsend hgood hslot hv)
  case format => exact exec_setup_refused hl (setupEffect_format (s := s.upTo t) hsend hgood hslot hv hf)
  case accepted => exact exec_setup_accepted hl hsend hgood hslot hv hf
  case unopened =>
    obtain ⟨u, hu, hg, hrest⟩ := exec_frameReq_unopened hl hsend hgood hv hslot hstr ho
    exact ⟨u, hu, hg.clauses, hrest⟩
  case untaken => exact exec_frameReq_untaken hl hsend hgood hv hslot hstr ho ht
  case taken =>
    obtain ⟨u, hu, hg, hrest⟩ := exec_frameReq_taken hl hsend hgood hv hslot hstr ho ht
    exact ⟨u, hu, hg.clauses, hrest⟩
  case idle => exact exec_frameReq_notStreaming hl hsend hgood hv hslot hstr

end Sys2Proof.Proofs
end

section
/-! PROOF. A tile's STATUS at the sender, its absence, and a generation that lags (R54, R209, R472): what each of their commands
does with a mapped tile; and a state whose map reaches past the 128 addresses of a chimney, in which a STATUS does not give
the reachability of path A. -/

namespace Sys2Proof.Machine

variable {s u v : State} {t t0 : Cyc} {c a : Nat} {p : StatusPkt} {r : ObjRow}

/-! ### A tile's bit and view: read after write -/

theorem bit_add_pow (v n : Nat) : bit (v + 2 ^ n) n = !bit v n := by
  have hdiv : (v + 2 ^ n) / 2 ^ n = v / 2 ^ n + 1 := Nat.add_div_right v (Nat.two_pow_pos n)
  rw [bit, hdiv, bit, Bool.eq_iff_iff]
  simp only [beq_iff_eq, Bool.not_eq_true', beq_eq_false_iff_ne]
  omega

theorem bit_sub_pow {v n : Nat} (h : bit v n = true) : bit (v - 2 ^ n) n = false := by
  have hdiv : (v - 2 ^ n) / 2 ^ n = v / 2 ^ n - 1 := by simpa using Nat.sub_mul_div v (2 ^ n) 1
  simp only [bit, hdiv, beq_iff_eq, beq_eq_false_iff_ne] at h ⊢
  omega

theorem bit_setBit_same (v n : Nat) (b : Bool) : bit (setBit v n b) n = b := by
  cases h : bit v n with
  | false => cases b <;> simp [setBit, h, bit_add_pow]
  | true => cases b <;> simp [setBit, h, bit_sub_pow]

@[simp] theorem State.tileBit_setTileBit_same (s : State) (r : ObjRow) (c a : Nat) (b : Bool) :
    (s.setTileBit r c a b).tileBit r c a = b := by
  simp [State.tileBit, State.setTileBit, State.natAt, bit_setBit_same]

theorem ObjRow.key_eq_add (r : ObjRow) (i j : Nat) : r.key i j = r.key i 0 + j := by
  simp only [ObjRow.key, Nat.add_zero]

/-- The same element of rows that begin at different keys. -/
theorem State.tileBit_setTileBit_other (s : State) {q r : ObjRow} (h : q.key 0 0 ≠ r.key 0 0) (c a : Nat) (b : Bool) :
    (s.setTileBit r c a b).tileBit q c a = s.tileBit q c a := by
  have hkey (j : Nat) : q.key 0 j ≠ r.key 0 j := by
    rw [q.key_eq_add, r.key_eq_add]
    exact fun e => h (Nat.add_right_cancel e)
  simp only [State.tileBit, State.setTileBit, State.natAt, State.rdAt_wrAt_other _ _ _ _ _ _ _ _ (hkey _)]

theorem State.tileBit_congr (h : u.dict = s.dict) (r : ObjRow) (c a : Nat) : u.tileBit r c a = s.tileBit r c a := by
  rw [State.tileBit, State.natAt, State.rdAt_congr _ _ _ h, State.tileBit, State.natAt]

@[simp] theorem State.settled_tileBit (s q : State) (r : ObjRow) (c a : Nat) :
    (s.settled q).tileBit r c a = q.tileBit r c a := rfl

@[simp] theorem State.tile_setTile_same (s : State) (c a : Nat) (x : TileView) : (s.setTile c a x).tile c a = x := by
  simp [State.tile]

/-- What is the same in the view written as in the one before, is the same in every view. -/
theorem State.setTile_keeps {γ : Type} (P : TileView → γ) {x : TileView} (hx : P x = P (s.tile c a)) (d b : Nat) :
    P ((s.setTile c a x).tile d b) = P (s.tile d b) := by
  by_cases hk : d * 256 + b = c * 256 + a
  · simp only [State.tile, State.setTile_flue, hk, look_put_same] at hx ⊢
    exact hx
  · simp only [State.tile, State.setTile_flue, look_put_other _ _ hk]

theorem mem_addMember_self (x : Nat) (l : List Nat) : x ∈ addMember x l := by
  induction l with
  | nil => simp [addMember]
  | cons y l ih =>
    by_cases hxy : x = y
    · simp [addMember, hxy]
    · by_cases hlt : x < y <;> simp [addMember, hxy, hlt, ih]

@[simp] theorem State.upTo_mapped (s : State) (t : Cyc) (c : Nat) : (s.upTo t).mapped c = s.mapped c := rfl

/-- Raised and held, a condition stands; only the collector moves. -/
theorem State.raiseFor_holds (s : State) (src key unit value : Nat) :
    ∃ f, s.raiseFor src key unit value = s.setFlt f ∧ src * 65536 + key ∈ f.conds := by
  obtain ⟨f, hf⟩ := s.raise_frame src unit value
  rw [State.raiseFor, hf]
  exact ⟨_, rfl, mem_addMember_self _ _⟩

/-! ### What raising, holding and sending leave as it was -/

/-- Values, latest STATUSes, video, stored records and time stand. -/
structure State.KeepsMonitor (s u : State) : Prop where
  dict : u.dict = s.dict
  status : ∀ c a, (u.tile c a).status = (s.tile c a).status
  statusAt : ∀ c a, (u.tile c a).statusAt = (s.tile c a).statusAt
  video : u.video = s.video
  nv : u.nv = s.nv
  time : u.time = s.time

theorem State.KeepsMonitor.refl (s : State) : s.KeepsMonitor s := ⟨rfl, fun _ _ => rfl, fun _ _ => rfl, rfl, rfl, rfl⟩

theorem State.KeepsMonitor.trans (h : s.KeepsMonitor u) (k : u.KeepsMonitor v) : s.KeepsMonitor v :=
  ⟨k.dict.trans h.dict, fun c a => (k.status c a).trans (h.status c a),
    fun c a => (k.statusAt c a).trans (h.statusAt c a), k.video.trans h.video, k.nv.trans h.nv, k.time.trans h.time⟩

theorem State.setFlt_keepsMonitor (s : State) (f : Flt) : s.KeepsMonitor (s.setFlt f) :=
  ⟨rfl, fun _ _ => rfl, fun _ _ => rfl, rfl, rfl, rfl⟩

theorem State.setTile_keepsMonitor {x : TileView} (hstatus : x.status = (s.tile c a).status)
    (hat : x.statusAt = (s.tile c a).statusAt) : s.KeepsMonitor (s.setTile c a x) :=
  ⟨rfl, State.setTile_keeps TileView.status hstatus, State.setTile_keeps TileView.statusAt hat, rfl, rfl, rfl⟩

theorem State.closeSession0_keepsMonitor (s : State) (c a : Nat) :
    s.KeepsMonitor (s.setTile c a { s.tile c a with s0open := false }) :=
  State.setTile_keepsMonitor rfl rfl

theorem State.foldl_keepsMonitor {α : Type} {f : State → α → State} (hf : ∀ (q : State) (x : α), q.KeepsMonitor (f q x))
    (l : List α) : ∀ s : State, s.KeepsMonitor (l.foldl f s) := by
  induction l with
  | nil => exact .refl
  | cons x l ih => exact fun s => (hf s x).trans (ih _)

theorem State.setChim_keepsMonitor (s : State) (c : Nat) (x : Chim) : s.KeepsMonitor (s.setChim c x) :=
  ⟨rfl, fun _ _ => rfl, fun _ _ => rfl, rfl, rfl, rfl⟩

theorem State.queueCtrl_keepsMonitor (s : State) (ports : List Nat) (cls dst n : Nat) :
    s.KeepsMonitor (s.queueCtrl ports cls dst n) :=
  ⟨rfl, fun _ _ => rfl, fun _ _ => rfl, rfl, rfl, rfl⟩

theorem State.send_keepsMonitor (s : State) (x : Tx) : s.KeepsMonitor (s.send x) :=
  ⟨rfl, fun _ _ => rfl, fun _ _ => rfl, rfl, rfl, rfl⟩

theorem State.toTilesAs_keepsMonitor (s : State) (c a op seq payload : Nat) (words : List Int) :
    s.KeepsMonitor (s.toTilesAs c a op seq payload words) :=
  (s.queueCtrl_keepsMonitor _ _ _ _).trans (State.send_keepsMonitor _ _)

theorem State.toTiles_keepsMonitor (s : State) (c a op payload : Nat) (words : List Int) :
    s.KeepsMonitor (s.toTiles c a op payload words) := by
  have hsent := (s.setChim_keepsMonitor c { s.chim c with seq := (s.chim c).seq + 1 }).trans
    (State.toTilesAs_keepsMonitor _ c a op ((s.chim c).seq + 1) payload words)
  unfold State.toTiles
  dsimp only
  split
  · exact hsent
  · exact (hsent.trans (State.setChim_keepsMonitor _ _ _)).trans
      (State.foldl_keepsMonitor (fun q b => q.closeSession0_keepsMonitor c b) _ _)

theorem State.openSession0_keepsMonitor (s : State) (c a : Nat) : s.KeepsMonitor (s.openSession0 c a) :=
  ((s.closeSession0_keepsMonitor c a).trans (State.queueCtrl_keepsMonitor _ _ _ _ _)).trans
    (State.send_keepsMonitor _ _)

theorem State.rearm_keepsMonitor (s : State) (c a : Nat) : s.KeepsMonitor (s.rearm c a) := by
  unfold State.rearm
  dsimp only
  split
  · exact .refl s
  · have hsent := State.foldl_keepsMonitor
      (fun (q : State) (w : WallCommit) =>
        q.toTiles_keepsMonitor c a 0x21 20 [w.id, w.scope, (q.nat Obj.WFC + q.nat Obj.COMMIT_LEAD : Nat), w.gen])
      (s.sess.walls.filter fun w => w.leftOut.contains (c, a)) s
    exact ⟨hsent.dict, hsent.status, hsent.statusAt, hsent.video, hsent.nv, hsent.time⟩

theorem State.noteMismatch_keepsMonitor (s : State) (c a : Nat) (b : Bool) :
    s.KeepsMonitor (s.noteMismatch c a b) := by
  unfold State.noteMismatch
  dsimp only
  split
  · obtain ⟨f, hf⟩ := s.raise_frame 0x3A c a
    rw [hf]
    exact (s.setFlt_keepsMonitor f).trans (State.setFlt_keepsMonitor _ _)
  · exact s.setFlt_keepsMonitor _

/-- FLT_ALM_STATE as the states give it (R404). -/
def State.alarmShown (s : State) : Int :=
  if !s.flt.running || s.ownAlarm || (s.isSender && s.wallAlarm) then 1 else 0

/-- Of what the monitor rests on, the pins' display writes two values. -/
theorem State.showPins_keepsMonitor (s : State) :
    ∃ n : Nat, ((s.wr Obj.FLT_UNCLEARED n).wr Obj.FLT_ALM_STATE s.alarmShown).KeepsMonitor s.showPins := by
  have hpin (q : State) (b : Bool) (x : Tx) : q.KeepsMonitor (if b then q else q.send x) := by
    split
    · exact .refl q
    · exact q.send_keepsMonitor x
  exact ⟨_, ((hpin _ _ _).trans (hpin _ _ _)).trans (State.setFlt_keepsMonitor _ _)⟩

/-! ### The stages of a STATUS of a mapped tile (R209) -/

/-- The first STATUS with BOOT set (R185). -/
def bootsAgain (p : StatusPkt) (v : TileView) : Bool :=
  p.boot && (match v.status with | some q => !q.boot | none => true)

/-- The STATUS is kept, and the reachability that it gives. -/
def State.viewed (s : State) (c : Nat) (p : StatusPkt) : State :=
  let v := s.tile c p.src
  let s := s.setTile c p.src
    { v with
      status := some p, statusAt := s.now, reached := v.reached || bit p.flags 7 || bit p.flags 6, silent := false,
      sent := if bootsAgain p v then [0, 0, 0, 0, 0, 0] else v.sent,
      freed := if bootsAgain p v then [0, 0, 0, 0, 0, 0] else v.freed }
  (s.setTileBit Obj.CHIM_REACH_A c p.src (bit p.flags 7)).setTileBit Obj.CHIM_REACH_B c p.src (bit p.flags 6)

theorem State.viewed_reachA (s : State) (c : Nat) (p : StatusPkt) :
    (s.viewed c p).tileBit Obj.CHIM_REACH_A c p.src = bit p.flags 7 :=
  (State.tileBit_setTileBit_other _ (by decide) c p.src _).trans (State.tileBit_setTileBit_same _ _ _ _ _)

/-- tile-unreachable of a tile that was seen as `v` begins or ends. -/
def State.judged (s : State) (c a : Nat) (v : TileView) : State :=
  if s.unreachable c a then
    (if v.reached && !v.lost then (s.setTile c a { s.tile c a with lost := true }).raiseFor 0x11 (c * 256 + a) c a
     else s)
  else (s.setTile c a { s.tile c a with lost := false }).hold 0x11 (c * 256 + a) false

/-- A tile that has booted shows no alarm. -/
def State.alarmEnded (s : State) (c : Nat) (p : StatusPkt) : State :=
  if p.boot then (s.setTileBit Obj.FLT_WALL_ALARM c p.src false).showPins else s

/-- Its address and generation are compared, and the sender's ARM and OPEN of session 0 go out where they are due. -/
def State.answered (s : State) (c : Nat) (p : StatusPkt) (v : TileView) : State :=
  let s := ((s.noteMismatch c p.src p.mismatch).settle c p.src p.gen).rearm c p.src
  if bootsAgain p v || !p.open0 || p.epoch0 != v.s0epoch then s.openSession0 c p.src else s

theorem statusEffect_mapped (hsend : s.isSender = true) (hm : p.src ∈ s.mapped c) :
    statusEffect c p s =
      (((s.viewed c p).judged c p.src (s.tile c p.src)).alarmEnded c p).answered c p (s.tile c p.src) := by
  have hsender : ¬ (!s.isSender) = true := by simp [hsend]
  have hmapped : ¬ (!(s.mapped c).contains p.src) = true := by simp [hm]
  exact (if_neg hsender).trans ((if_neg hmapped).trans rfl)

/-! ### What the later stages leave of the tile -/

/-- The latest STATUS of a tile and its reachability stand. -/
structure State.KeepsTile (c a : Nat) (s u : State) : Prop where
  status : (u.tile c a).status = (s.tile c a).status
  statusAt : (u.tile c a).statusAt = (s.tile c a).statusAt
  reachA : u.tileBit Obj.CHIM_REACH_A c a = s.tileBit Obj.CHIM_REACH_A c a
  reachB : u.tileBit Obj.CHIM_REACH_B c a = s.tileBit Obj.CHIM_REACH_B c a
  video : u.video = s.video
  nv : u.nv = s.nv
  time : u.time = s.time

theorem State.KeepsTile.refl (c a : Nat) (s : State) : s.KeepsTile c a s := ⟨rfl, rfl, rfl, rfl, rfl, rfl, rfl⟩

theorem State.KeepsTile.trans (h : s.KeepsTile c a u) (k : u.KeepsTile c a v) : s.KeepsTile c a v :=
  ⟨k.status.trans h.status, k.statusAt.trans h.statusAt, k.reachA.trans h.reachA, k.reachB.trans h.reachB,
    k.video.trans h.video, k.nv.trans h.nv, k.time.trans h.time⟩

theorem State.KeepsMonitor.keepsTile (h : s.KeepsMonitor u) (c a : Nat) : s.KeepsTile c a u :=
  ⟨h.status c a, h.statusAt c a, State.tileBit_congr h.dict _ c a, State.tileBit_congr h.dict _ c a, h.video, h.nv,
    h.time⟩

theorem State.setTileBit_keepsTile (s : State) (hA : Obj.CHIM_REACH_A.key 0 0 ≠ r.key 0 0)
    (hB : Obj.CHIM_REACH_B.key 0 0 ≠ r.key 0 0) (c a : Nat) (b : Bool) : s.KeepsTile c a (s.setTileBit r c a b) :=
  ⟨rfl, rfl, State.tileBit_setTileBit_other s hA c a b, State.tileBit_setTileBit_other s hB c a b, rfl, rfl, rfl⟩

theorem State.judged_keepsMonitor (s : State) (c a : Nat) (v : TileView) : s.KeepsMonitor (s.judged c a v) := by
  have hlost (b : Bool) : s.KeepsMonitor (s.setTile c a { s.tile c a with lost := b }) :=
    State.setTile_keepsMonitor rfl rfl
  unfold State.judged
  split
  · split
    · obtain ⟨f, hf, -⟩ := (s.setTile c a { s.tile c a with lost := true }).raiseFor_holds 0x11 (c * 256 + a) c a
      rw [hf]
      exact (hlost true).trans (State.setFlt_keepsMonitor _ f)
    · exact .refl s
  · exact (hlost false).trans (State.setFlt_keepsMonitor _ _)

/-- The bits of the 128 addresses of a chimney lie in 16 elements, clear of what the pins' display writes. -/
theorem State.showPins_keepsTile (s : State) (hc : c < 8) (ha : a ≤ 128) : s.KeepsTile c a s.showPins := by
  obtain ⟨n, hpins⟩ := s.showPins_keepsMonitor
  have hbit (q : ObjRow) (hq : q.key 0 0 + 16 ≤ Obj.FLT_UNCLEARED.key 0 0) :
      ((s.wr Obj.FLT_UNCLEARED n).wr Obj.FLT_ALM_STATE s.alarmShown).tileBit q c a = s.tileBit q c a := by
    have halm : Obj.FLT_ALM_STATE.key 0 0 = Obj.FLT_UNCLEARED.key 0 0 + 1 := by decide
    have hkey : q.key 0 (2 * c + (a - 1) / 64) < Obj.FLT_UNCLEARED.key 0 0 := by
      rw [q.key_eq_add]
      omega
    unfold State.tileBit State.natAt
    rw [State.wr, State.rdAt_wrAt_other _ _ _ _ _ _ _ _ (by omega), State.wr,
      State.rdAt_wrAt_other _ _ _ _ _ _ _ _ (by omega)]
  have hshown : s.KeepsTile c a ((s.wr Obj.FLT_UNCLEARED n).wr Obj.FLT_ALM_STATE s.alarmShown) :=
    ⟨rfl, rfl, hbit _ (by decide), hbit _ (by decide), rfl, rfl, rfl⟩
  exact hshown.trans (hpins.keepsTile c a)

theorem State.alarmEnded_keepsTile (s : State) (hc : c < 8) (ha : p.src ≤ 128) :
    s.KeepsTile c p.src (s.alarmEnded c p) := by
  unfold State.alarmEnded
  split
  · exact (s.setTileBit_keepsTile (by decide) (by decide) c p.src false).trans (State.showPins_keepsTile _ hc ha)
  · exact .refl c p.src s

theorem State.settle_keepsTile (s : State) (c a gen : Nat) : s.KeepsTile c a (s.settle c a gen) := by
  unfold State.settle
  split
  · exact { s.setTileBit_keepsTile (r := Obj.COMMIT_TILE_EXCEPT) (by decide) (by decide) c a false with }
  · exact .refl c a s

theorem State.answered_keepsTile (s : State) (c : Nat) (p : StatusPkt) (v : TileView) :
    s.KeepsTile c p.src (s.answered c p v) := by
  have hrearmed := (((s.noteMismatch_keepsMonitor c p.src p.mismatch).keepsTile c p.src).trans
    (State.settle_keepsTile _ c p.src p.gen)).trans ((State.rearm_keepsMonitor _ c p.src).keepsTile c p.src)
  unfold State.answered
  dsimp only
  split
  · exact hrearmed.trans ((State.openSession0_keepsMonitor _ c p.src).keepsTile c p.src)
  · exact hrearmed

/-! ### The stages together -/

theorem statusEffect_keepsTile (hsend : s.isSender = true) (hm : p.src ∈ s.mapped c) (hc : c < 8) (ha : p.src ≤ 128) :
    (s.viewed c p).KeepsTile c p.src (statusEffect c p s) := by
  rw [statusEffect_mapped hsend hm]
  exact (((State.judged_keepsMonitor _ c p.src _).keepsTile c p.src).trans (State.alarmEnded_keepsTile _ hc ha)).trans
    (State.answered_keepsTile _ c p _)

/-! ### As commands -/

/-- Both of a tile's paths unreachable. -/
def State.pathsLost (s : State) (c a : Nat) : State :=
  (s.setTileBit Obj.CHIM_REACH_A c a false).setTileBit Obj.CHIM_REACH_B c a false

theorem State.pathsLost_unreachable (s : State) (c a : Nat) : (s.pathsLost c a).unreachable c a = true := by
  have hA : (s.pathsLost c a).tileBit Obj.CHIM_REACH_A c a = false :=
    (State.tileBit_setTileBit_other _ (by decide) c a false).trans (State.tileBit_setTileBit_same _ _ _ _ _)
  have hB : (s.pathsLost c a).tileBit Obj.CHIM_REACH_B c a = false := State.tileBit_setTileBit_same _ _ _ _ _
  simp [State.unreachable, hA, hB]

theorem State.unreachable_congr (h : u.dict = s.dict) (c a : Nat) : u.unreachable c a = s.unreachable c a := by
  rw [State.unreachable, State.tileBit_congr h, State.tileBit_congr h, State.unreachable]

theorem exec_status (hl : s.live = true) :
    exec (.status t c p) s = .next ((s.upTo t).settled (statusEffect c p (s.upTo t))) :=
  State.run_effect hl rfl

theorem commitDivergenceTimeout_of_status (hstatus : (s.tile c a).status = some p) : commitDivergenceTimeout c a s =
    if s.isSender ∧ (s.mapped c).contains a ∧ p.gen ≠ s.nat Obj.COMMIT_GENERATION
        ∧ s.sess.genAt + s.nat Obj.COMMIT_LEAD < s.nat Obj.WFC then
      let q := (s.setTileBit Obj.COMMIT_TILE_EXCEPT c a true).raiseFor 0x7A (c * 256 + a) c a
      { q with sess := { q.sess with waitExcept := (c, a) :: q.sess.waitExcept.filter fun x => x != (c, a) } }
    else s := by
  rw [commitDivergenceTimeout, hstatus]

section Mapped
variable (hl : s.live = true) (hsend : s.isSender = true) (hm : a ∈ s.mapped c)
include hl hsend hm

/-- A chimney has 128 addresses (R120); past them a STATUS may show otherwise (`farStatus_reachA`). -/
theorem exec_status_mapped (hsrc : p.src = a) (hc : c < 8) (ha : a ≤ 128) :
    ∃ u, exec (.status t c p) s = .next u ∧ (u.tile c a).status = some p ∧ (u.tile c a).statusAt = max s.now t
      ∧ u.tileBit Obj.CHIM_REACH_A c a = bit p.flags 7 ∧ u.tileBit Obj.CHIM_REACH_B c a = bit p.flags 6
      ∧ u.video = s.video ∧ u.nv = s.nv ∧ u.time = s.time := by
  subst hsrc
  obtain ⟨hstatus, hat, hA, hB, hvideo, hnv, htime⟩ := statusEffect_keepsTile (s := s.upTo t) hsend hm hc ha
  have hview := State.tile_setTile_same (s.upTo t) c p.src
  exact ⟨_, exec_status hl, hstatus.trans (congrArg TileView.status (hview _)),
    hat.trans (congrArg TileView.statusAt (hview _)), hA.trans ((s.upTo t).viewed_reachA c p),
    hB.trans (State.tileBit_setTileBit_same _ _ _ _ _), hvideo, hnv, htime⟩

theorem exec_reachTimeout_due (hstatus : (s.tile c a).status.isSome = true)
    (hdue : (s.tile c a).statusAt + ms 100 ≤ max s.now t) :
    ∃ u, exec (.reachTimeout t c a) s = .next u ∧ u.unreachable c a = true
      ∧ ((s.tile c a).reached = true → (s.tile c a).lost = false →
          (u.tile c a).lost = true ∧ 0x11 * 65536 + (c * 256 + a) ∈ u.flt.conds)
      ∧ u.sess = s.sess ∧ u.video = s.video ∧ u.nv = s.nv := by
  have hact : (s.upTo t).isSender = true ∧ ((s.upTo t).mapped c).contains a = true
      ∧ (s.tile c a).status.isSome = true ∧ (s.tile c a).statusAt + ms 100 ≤ (s.upTo t).now :=
    ⟨hsend, List.contains_iff_mem.mpr hm, hstatus, hdue⟩
  cases hentered : (s.tile c a).reached && !(s.tile c a).lost with
  | false =>
    have heffect : reachTimeout c a (s.upTo t) = (s.upTo t).pathsLost c a :=
      (if_pos hact).trans (if_neg (ne_true_of_eq_false hentered))
    exact ⟨_, State.run_effect hl heffect,
      (State.unreachable_congr rfl c a).trans ((s.upTo t).pathsLost_unreachable c a),
      fun hr hlost => by simp [hr, hlost] at hentered, rfl, rfl, rfl⟩
  | true =>
    have heffect : reachTimeout c a (s.upTo t) = (((s.upTo t).pathsLost c a).setTile c a
        { s.tile c a with lost := true }).raiseFor 0x11 (c * 256 + a) c a := (if_pos hact).trans (if_pos hentered)
    obtain ⟨f, hf, hcond⟩ := State.raiseFor_holds (((s.upTo t).pathsLost c a).setTile c a
      { s.tile c a with lost := true }) 0x11 (c * 256 + a) c a
    exact ⟨_, State.run_effect hl (heffect.trans hf),
      (State.unreachable_congr rfl c a).trans ((s.upTo t).pathsLost_unreachable c a),
      fun _ _ => ⟨congrArg TileView.lost (State.tile_setTile_same _ c a _), hcond⟩, rfl, rfl, rfl⟩

theorem exec_firstStatusTimeout_due (hentry : (s.tile c a).entryAt = some t0) (hnone : (s.tile c a).status = none)
    (hsilent : (s.tile c a).silent = false) (hdue : t0 + seconds 10 ≤ max s.now t) :
    ∃ u, exec (.firstStatusTimeout t c a) s = .next u ∧ (u.tile c a).silent = true
      ∧ 0x11 * 65536 + (c * 256 + a) ∈ u.flt.conds ∧ u.sess = s.sess ∧ u.dict = s.dict ∧ u.video = s.video := by
  have heffect : firstStatusTimeout c a (s.upTo t)
      = ((s.upTo t).setTile c a { s.tile c a with silent := true }).raiseFor 0x11 (c * 256 + a) c a := by
    have hdue' : (s.upTo t).isSender = true ∧ ((s.upTo t).mapped c).contains a = true
        ∧ (s.tile c a).status.isNone = true ∧ ¬ (s.tile c a).silent = true ∧ t0 + seconds 10 ≤ (s.upTo t).now :=
      ⟨hsend, List.contains_iff_mem.mpr hm, by simp [hnone], by simp [hsilent], hdue⟩
    have hview : (s.upTo t).tile c a = s.tile c a := rfl
    simp only [firstStatusTimeout, hview, hentry, if_pos hdue']
  obtain ⟨f, hf, hcond⟩ := State.raiseFor_holds ((s.upTo t).setTile c a { s.tile c a with silent := true })
    0x11 (c * 256 + a) c a
  exact ⟨_, State.run_effect hl (heffect.trans hf),
    congrArg TileView.silent (State.tile_setTile_same (s.upTo t) c a _), hcond, rfl, rfl, rfl⟩

theorem exec_commitDivergence_due (hstatus : (s.tile c a).status = some p) (hgen : p.gen ≠ s.nat Obj.COMMIT_GENERATION)
    (hdue : s.sess.genAt + s.nat Obj.COMMIT_LEAD < s.nat Obj.WFC) :
    ∃ u, exec (.commitDivergenceTimeout t c a) s = .next u ∧ u.tileBit Obj.COMMIT_TILE_EXCEPT c a = true
      ∧ 0x7A * 65536 + (c * 256 + a) ∈ u.flt.conds ∧ (c, a) ∈ u.sess.waitExcept
      ∧ u.sess.armed = s.sess.armed ∧ u.flue = s.flue ∧ u.video = s.video ∧ u.nv = s.nv := by
  obtain ⟨f, hf, hcond⟩ := ((s.upTo t).setTileBit Obj.COMMIT_TILE_EXCEPT c a true).raiseFor_holds 0x7A (c * 256 + a) c a
  have heffect := commitDivergenceTimeout_of_status (s := s.upTo t) hstatus
  rw [if_pos ⟨hsend, List.contains_iff_mem.mpr hm, hgen, hdue⟩, hf] at heffect
  exact ⟨_, State.run_effect hl heffect,
    (State.tileBit_congr rfl _ c a).trans ((s.upTo t).tileBit_setTileBit_same Obj.COMMIT_TILE_EXCEPT c a true), hcond,
    List.mem_cons_self, rfl, rfl, rfl, rfl⟩

omit hsend hm in
theorem exec_commitDivergence_early (hstatus : (s.tile c a).status = some p)
    (hdue : s.nat Obj.WFC ≤ s.sess.genAt + s.nat Obj.COMMIT_LEAD) :
    exec (.commitDivergenceTimeout t c a) s = .next { s with now := max s.now t } := by
  have heffect := commitDivergenceTimeout_of_status (s := s.upTo t) hstatus
  exact State.run_idle hl (heffect.trans (if_neg fun ⟨_, _, _, hlt⟩ => Nat.not_lt_of_le hdue hlt))

end Mapped

/-! ### A STATUS of an address that no chimney has (R120)

WALL_CHIM_TILES is at most 128, but a state may hold any number there, and `State.mapped` then has addresses whose
bits lie past the 16 elements of CHIM_REACH_A, at the keys of other objects. -/

/-- A sender that maps address 264454401 on chimney 0, its collector not yet running. -/
def farSender : State :=
  (({ role := .sender, sys := { phase := .running } } : State).wrAt Obj.WALL_CHIM_TILES 0 0 264454401).wrAt
    Obj.WALL_TILE_MAP 0 264454400 256

/-- The first STATUS from that address: BOOT set, both paths unusable. -/
def farStatus : StatusPkt :=
  { src := 264454401, frame := 0, boot := true, gen := 0, tileState := 0, flags := 0, uncleared := 0, epoch0 := 0,
    open0 := true, mismatch := false }

/-- Its bit of CHIM_REACH_A lies in FLT_ALM_STATE, which a STATUS with BOOT shows anew (R404). -/
theorem State.tileBit_reachA_far (s : State) :
    s.tileBit Obj.CHIM_REACH_A 0 farStatus.src = bit (s.nat Obj.FLT_ALM_STATE) 0 := by
  have hkey : Obj.CHIM_REACH_A.key 0 (2 * 0 + (farStatus.src - 1) / 64) = Obj.FLT_ALM_STATE.key 0 0 := by decide
  have hdefault : Obj.CHIM_REACH_A.default (2 * 0 + (farStatus.src - 1) / 64) = Obj.FLT_ALM_STATE.default 0 := by decide
  have hbit : (farStatus.src - 1) % 64 = 0 := by decide
  rw [State.tileBit, State.natAt, State.rdAt, hkey, hdefault, hbit, State.nat, State.rd, State.rdAt]

theorem farSender_mapped : farStatus.src ∈ farSender.mapped 0 := by
  have htiles : farSender.rdAt Obj.WALL_CHIM_TILES 0 0 = 264454401 := by decide
  have hentry : (viewEntry farSender.rdAt 0 farStatus.src).enable = true := by decide
  simp only [State.mapped, mappedTiles, htiles, List.mem_filter, List.mem_map, List.mem_range, hentry, and_true]
  exact ⟨264454400, by decide, rfl⟩

/-- A collector that does not run shows the alarm (R404). -/
theorem farStatus_alarm : ((((farSender.upTo 0).viewed 0 farStatus).judged 0 farStatus.src
    ((farSender.upTo 0).tile 0 farStatus.src)).alarmEnded 0 farStatus).nat Obj.FLT_ALM_STATE = 1 := by
  decide

theorem farStatus_reachA :
    (statusEffect 0 farStatus (farSender.upTo 0)).tileBit Obj.CHIM_REACH_A 0 farStatus.src = true := by
  have hmapped : farStatus.src ∈ (farSender.upTo 0).mapped 0 := by
    rw [State.upTo_mapped]
    exact farSender_mapped
  rw [statusEffect_mapped rfl hmapped, (State.answered_keepsTile _ 0 farStatus _).reachA,
    State.tileBit_reachA_far, farStatus_alarm]
  decide

end Sys2Proof.Machine

namespace Sys2Proof.Proofs

open Sys2Proof Sys2Proof.Machine

/-- Refutes O24: where WALL_CHIM_TILES holds a number far above its range, tile 264454401 of chimney 0 can be mapped, and
its bit of CHIM_REACH_A is the lowest bit of FLT_ALM_STATE. A STATUS from it with BOOT set and both paths unusable ends with
the display of the alarm, so the bit reads 1. For the 128 addresses of a chimney that clause holds (`exec_status_mapped`), and
the other clauses hold as they stand (`exec_reachTimeout_due`, `exec_firstStatusTimeout_due`, `exec_commitDivergence_due`,
`exec_commitDivergence_early`). -/
theorem not_tilesAreMonitored : ¬ Obligations.TilesAreMonitored := by
  unfold Obligations.TilesAreMonitored
  intro h
  obtain ⟨u, hu, -, -, hA, -⟩ :=
    (h.1 farSender 0 0 farStatus.src farStatus (by decide) (by decide) (by decide) farSender_mapped).1 rfl
  obtain rfl := Host.Outcome.next.inj (hu.symm.trans (exec_status (by decide)))
  rw [State.settled_tileBit, farStatus_reachA] at hA
  exact absurd hA (by decide)

end Sys2Proof.Proofs
end

section
/-! PROOF. A lamp frame (R235, R251 to R254): what its counts and events leave as it was, the first pass, the second, and
the drive deadline. -/

namespace Sys2Proof.Machine

variable {s u v : State} {j : LampJob} {l : Latch} {r : ObjRow} {ks : List Nat}

/-! ### What the lamp commands leave as it was -/

/-- Drive buffers, strands, links, sessions, stored records and the values at the keys `ks` stand, and what is queued at
the collector stays. -/
structure State.KeepsDrive (ks : List Nat) (s u : State) : Prop where
  bufs : u.lamp.bufs = s.lamp.bufs
  strands : u.strands = s.strands
  flue : u.flue = s.flue
  sess : u.sess = s.sess
  nv : u.nv = s.nv
  running : u.flt.running = s.flt.running
  queued : s.flt.queue ⊆ u.flt.queue
  value : ∀ k ∈ ks, ∀ d, look d k u.dict = look d k s.dict

/-- Only values away from the keys `ks`, the draw of free values and the collector's queue move. -/
structure State.Reports (ks : List Nat) (s u : State) : Prop extends State.KeepsDrive ks s u where
  lamp : u.lamp = s.lamp
  mods : u.mods = s.mods
  power : u.power = s.power

theorem State.KeepsDrive.refl (ks : List Nat) (s : State) : s.KeepsDrive ks s :=
  ⟨rfl, rfl, rfl, rfl, rfl, rfl, List.Subset.refl _, fun _ _ _ => rfl⟩

theorem State.KeepsDrive.trans (h : s.KeepsDrive ks u) (k : u.KeepsDrive ks v) : s.KeepsDrive ks v :=
  ⟨k.bufs.trans h.bufs, k.strands.trans h.strands, k.flue.trans h.flue, k.sess.trans h.sess, k.nv.trans h.nv,
    k.running.trans h.running, List.Subset.trans h.queued k.queued,
    fun x hx d => (k.value x hx d).trans (h.value x hx d)⟩

theorem State.Reports.refl (ks : List Nat) (s : State) : s.Reports ks s := ⟨.refl ks s, rfl, rfl, rfl⟩

theorem State.Reports.trans (h : s.Reports ks u) (k : u.Reports ks v) : s.Reports ks v :=
  ⟨h.toKeepsDrive.trans k.toKeepsDrive, k.lamp.trans h.lamp, k.mods.trans h.mods, k.power.trans h.power⟩

theorem State.KeepsDrive.mono {ls : List Nat} (h : s.KeepsDrive ks u) (hsub : ls ⊆ ks) : s.KeepsDrive ls u :=
  { h with value := fun k hk => h.value k (hsub hk) }

theorem State.Reports.mono {ls : List Nat} (h : s.Reports ks u) (hsub : ls ⊆ ks) : s.Reports ls u :=
  { h with toKeepsDrive := h.toKeepsDrive.mono hsub }

theorem State.KeepsDrive.rdAt {a b : Nat} (h : s.KeepsDrive ks u) (hr : r.key a b ∈ ks) :
    u.rdAt r a b = s.rdAt r a b :=
  h.value _ hr _

section Writes
variable {i k : Nat} (s : State) (hr : r.key i k ∉ ks)
include hr

theorem State.wrAt_reports (x : Int) (n : Nat) : s.Reports ks { s.wrAt r i k x with free := n } :=
  ⟨⟨rfl, rfl, rfl, rfl, rfl, rfl, List.Subset.refl _,
    fun _ hk d => look_put_other d _ (ne_of_mem_of_not_mem hk hr) x s.dict⟩, rfl, rfl, rfl⟩

theorem State.addTo_reports (n : Nat) : s.Reports ks (s.addTo r i k n) := by
  unfold State.addTo
  dsimp only
  split
  · exact s.wrAt_reports hr _ s.free
  · exact s.wrAt_reports hr _ (s.free + 1)

theorem State.wrIn_reports (x : Int) : s.Reports ks (s.wrIn r i k x) := by
  unfold State.wrIn
  split
  · exact s.wrAt_reports hr _ s.free
  · exact s.wrAt_reports hr _ (s.free + 1)

end Writes

theorem State.raise_reports (s : State) (src unit value : Nat) : s.Reports ks (s.raise src unit value) := by
  unfold State.raise
  split
  · exact ⟨⟨rfl, rfl, rfl, rfl, rfl, rfl, List.subset_append_left _ _, fun _ _ _ => rfl⟩, rfl, rfl, rfl⟩
  · exact .refl ks s

theorem State.foldl_reports {α : Type} {f : State → α → State} (hf : ∀ (q : State) (x : α), q.Reports ks (f q x))
    (xs : List α) (s : State) : s.Reports ks (xs.foldl f s) :=
  List.foldlRecOn (motive := s.Reports ks) xs f (.refl ks s) fun q hq x _ => hq.trans (hf q x)

/-- Only the power arbiter and the draw of free values move. -/
def State.Regrants (s u : State) : Prop := ∃ p n, u = { s with power := p, free := n }

theorem State.Regrants.refl (s : State) : s.Regrants s := ⟨s.power, s.free, rfl⟩

theorem State.setPower_regrants (s : State) (p : Power) : s.Regrants (s.setPower p) := ⟨p, s.free, rfl⟩

theorem State.Regrants.trans (h : s.Regrants u) (k : u.Regrants v) : s.Regrants v := by
  obtain ⟨p, n, rfl⟩ := h
  exact k

theorem State.foldl_regrants {α : Type} {f : State → α → State} (hf : ∀ (q : State) (x : α), q.Regrants (f q x))
    (xs : List α) (s : State) : s.Regrants (xs.foldl f s) :=
  List.foldlRecOn (motive := s.Regrants) xs f (.refl s) fun q hq x _ => hq.trans (hf q x)

/-- A count that stays within its type's range rises by what is added. -/
theorem State.addTo_rdAt {i k n : Nat} (s : State) (h : s.rdAt r i k + n ≤ r.hi) :
    (s.addTo r i k n).rdAt r i k = s.rdAt r i k + n := by
  simp only [State.addTo, h, if_true, State.rdAt_wrAt_same]

/-- Where each step of a fold sets its own matter and undoes no other, each is set in the end. -/
theorem foldl_establishes {α β : Type} {P : α → β → Prop} {f : β → α → β} {xs : List α}
    (hstep : ∀ b, ∀ a ∈ xs, ∀ c ∈ xs, c = a ∨ P c b → P c (f b a)) {c : α} (hc : c ∈ xs) (b : β) :
    P c (xs.foldl f b) := by
  suffices h : ∀ ys ⊆ xs, ∀ b, c ∈ ys ∨ P c b → P c (ys.foldl f b) from h xs (List.Subset.refl _) b (.inl hc)
  intro ys
  induction ys with
  | nil => exact fun _ b h => h.resolve_left List.not_mem_nil
  | cons a ys ih =>
    intro hsub b h
    obtain ⟨ha, hys⟩ := List.cons_subset.mp hsub
    refine ih hys _ ?_
    rw [List.mem_cons, or_right_comm] at h
    exact h.symm.imp_right (hstep b a ha c hc)

/-! ### The first pass (R251, R252) -/

theorem State.firstPass_scale (s : State) (c : LampCtx) (l : Latch) (x : LampRes) {z : Nat} (hz : z < 8) :
    (s.firstPass c l x).scale.getD z none
      = powerScale (l.grants.getD z 0) ((s.firstPass c l x).demand.getD z (0, 0)) := by
  simp only [State.firstPass, List.getD_eq_getElem?_getD, List.map_map, List.length_map, List.length_range, hz,
    getElem?_pos, List.getElem_map, List.getElem_range, Option.getD_some]

/-- A job after the first pass over its contents. -/
def State.onePassed (s : State) (j : LampJob) : LampJob :=
  { j with fresh := s.firstPass j.ctx j.latch j.fresh, held := j.held.map (s.firstPass j.ctx j.latch), first := true }

/-- What LAMP_ZONE_SCALE shows of a zone: the scale of its unprotected lamps, 1 where the zone is within its grant. -/
def shownScale : Option (Nat × Nat) → Nat
  | some q => q.2
  | none => 32768

/-- LAMP_ZONE_DEMAND and LAMP_ZONE_SCALE of a zone. -/
def State.showZone (x : LampRes) (s : State) (z : Nat) : State :=
  (s.wrIn Obj.LAMP_ZONE_DEMAND 0 z (x.demand.getD z (0, 0)).1).wrAt Obj.LAMP_ZONE_SCALE 0 z
    (shownScale (x.scale.getD z none))

/-- A zone whose protected lamps are scaled too is counted and raised. -/
def State.noteProtScaled (s : State) (z : Nat) : State := (s.bump Obj.LAMP_PROT_SCALED).raise 0x45 z 0

theorem lampFirstPassDone_eq (hj : s.lamp.job = some j) (hfirst : j.first = false) : ∃ (n : Nat) (prot : List Nat),
    lampFirstPassDone s = prot.foldl State.noteProtScaled ((List.range 8).foldl (State.showZone (s.onePassed j).fresh)
      ((s.setLampSt { s.lamp with job := some (s.onePassed j), resolved := n != 0 }).addTo Obj.LAMP_RESOLVES 0 0 n)) := by
  have hshow : State.showZone (s.onePassed j).fresh = fun q z =>
      (q.wrIn Obj.LAMP_ZONE_DEMAND 0 z ((s.onePassed j).fresh.demand.getD z (0, 0)).1).wrAt Obj.LAMP_ZONE_SCALE 0 z
        (match (s.onePassed j).fresh.scale.getD z none with | some q => q.2 | none => 32768) := by
    funext q z
    rw [State.showZone]
    cases (s.onePassed j).fresh.scale.getD z none <;> rfl
  rw [hshow, lampFirstPassDone, hj]
  dsimp only
  rw [hfirst, if_neg Bool.false_ne_true]
  exact ⟨_, _, rfl⟩

/-- The keys of LAMP_ZONE_SCALE. -/
def scaleKeys : List Nat := (List.range 8).map (Obj.LAMP_ZONE_SCALE.key 0)

theorem scaleKey_mem {z : Nat} (hz : z < 8) : Obj.LAMP_ZONE_SCALE.key 0 z ∈ scaleKeys :=
  List.mem_map_of_mem (List.mem_range.mpr hz)

theorem demandKey_not_mem : ∀ z < 8, Obj.LAMP_ZONE_DEMAND.key 0 z ∉ scaleKeys := by decide

theorem State.noteProtScaled_reports (s : State) (z : Nat) : s.Reports scaleKeys (s.noteProtScaled z) :=
  (s.addTo_reports (by decide) 1).trans (State.raise_reports _ _ _ _)

theorem State.showZone_reports (x : LampRes) (s : State) (z : Nat) : s.Reports [] (s.showZone x z) :=
  (s.wrIn_reports List.not_mem_nil _).trans (State.wrAt_reports _ List.not_mem_nil _ _)

/-- Each zone's scale is shown once all eight have been written. -/
theorem State.foldl_showZone_scale (x : LampRes) (s : State) {z : Nat} (hz : z < 8) :
    ((List.range 8).foldl (State.showZone x) s).natAt Obj.LAMP_ZONE_SCALE 0 z = shownScale (x.scale.getD z none) := by
  refine foldl_establishes
    (P := fun z q => q.natAt Obj.LAMP_ZONE_SCALE 0 z = shownScale (x.scale.getD z none)) ?_ (List.mem_range.mpr hz) s
  intro q a ha c hc h
  rw [List.mem_range] at ha hc
  by_cases hca : c = a
  · subst hca
    simp only [State.natAt, State.showZone, State.rdAt_wrAt_same, Int.toNat_natCast]
  · have hscale : Obj.LAMP_ZONE_SCALE.key 0 c ≠ Obj.LAMP_ZONE_SCALE.key 0 a := fun e => hca (Nat.add_left_cancel e)
    rw [State.natAt, State.showZone, State.rdAt_wrAt_other _ _ _ _ _ _ _ _ hscale,
      (q.wrIn_reports (demandKey_not_mem a ha) _).rdAt (scaleKey_mem hc)]
    exact h.resolve_left hca

/-- LAMP_FIRST_PASS_DONE: the job has its first pass, each zone's scale is shown, and beside these only values, free
draws and events move. -/
theorem lampFirstPassDone_spec (hj : s.lamp.job = some j) (hfirst : j.first = false) : ∃ b,
    (s.setLampSt { s.lamp with job := some (s.onePassed j), resolved := b }).Reports [] (lampFirstPassDone s)
    ∧ ∀ z < 8, (lampFirstPassDone s).natAt Obj.LAMP_ZONE_SCALE 0 z
        = shownScale ((s.onePassed j).fresh.scale.getD z none) := by
  obtain ⟨n, prot, he⟩ := lampFirstPassDone_eq hj hfirst
  have hnoted (q : State) : q.Reports scaleKeys (prot.foldl State.noteProtScaled q) :=
    State.foldl_reports State.noteProtScaled_reports prot q
  rw [he]
  refine ⟨n != 0, ?_, fun z hz => ?_⟩
  · exact ((State.addTo_reports _ List.not_mem_nil n).trans (State.foldl_reports (State.showZone_reports _) _ _)).trans
      ((hnoted _).mono (List.nil_subset _))
  · rw [State.natAt, (hnoted _).rdAt (scaleKey_mem hz)]
    exact State.foldl_showZone_scale _ _ hz

/-! ### The second pass (R252) -/

/-- A job after the second pass over its contents. -/
def State.twicePassed (s : State) (j : LampJob) : LampJob :=
  { j with fresh := s.secondPass j.ctx j.latch j.fresh, held := j.held.map (s.secondPass j.ctx j.latch), done := true }

/-- The mean light of a zone, where it has unprotected lamps (Table 13-1). -/
def State.showLight (c : LampCtx) (x : LampRes) (s : State) (z : Nat) : State :=
  match zoneLight c x z with
  | some y => s.setZone z { s.zone z with light := y }
  | none => s

theorem State.showLight_regrants (c : LampCtx) (x : LampRes) (s : State) (z : Nat) :
    s.Regrants (s.showLight c x z) := by
  unfold State.showLight
  split
  · exact s.setPower_regrants _
  · exact .refl s

/-- LAMP_PROC_MAX follows a longer processing time. -/
def State.noteProcessing (s : State) (ns : Nat) : State :=
  if s.nat Obj.LAMP_PROC_MAX < ns then s.wrIn Obj.LAMP_PROC_MAX 0 0 ns else s

theorem State.noteProcessing_reports (s : State) (ns : Nat) :
    s.Reports [Obj.LAMP_FRAMES.key 0 0] (s.noteProcessing ns) := by
  unfold State.noteProcessing
  split
  · exact s.wrIn_reports (by decide) _
  · exact .refl _ s

/-- A frame latched from the swap of the kernel sets on counts as clean (R423). -/
def State.noteClean (s : State) (k : Nat) : State :=
  if s.upd.window && s.upd.swapped && decide (s.upd.swapAt ≤ k) then
    { s with upd := { s.upd with cleanFrames := s.upd.cleanFrames + 1 } }
  else s

theorem State.noteClean_frame (s : State) (k : Nat) : ∃ x, s.noteClean k = s.setUpd x := by
  unfold State.noteClean
  split
  · exact ⟨_, rfl⟩
  · exact ⟨s.upd, rfl⟩

theorem lampProcessingDone_eq (hj : s.lamp.job = some j) (hfirst : j.first = true) (hdone : j.done = false) :
    lampProcessingDone s = (((List.range 8).foldl (State.showLight j.ctx (s.twicePassed j).fresh)
      ((s.setLampSt { s.lamp with job := some (s.twicePassed j),
                                  lastDemand := some (j.latch.frame, j.fresh.demand) }).noteProcessing
        (roundAway ((s.now - j.start) * 2 : Nat) 3).toNat)).noteClean j.latch.frame).bump Obj.LAMP_FRAMES := by
  rw [lampProcessingDone, hj]
  exact if_neg (by rw [hfirst, hdone]; decide)

/-- LAMP_PROCESSING_DONE: the job is done, its demands are the newest ones, and the frame is counted; beside these only
values, free draws, the zones' light and the count of clean frames move. -/
theorem lampProcessingDone_spec (hj : s.lamp.job = some j) (hfirst : j.first = true) (hdone : j.done = false) :
    ∃ q w x, (s.setLampSt { s.lamp with job := some (s.twicePassed j),
                                        lastDemand := some (j.latch.frame, j.fresh.demand) }).Reports
        [Obj.LAMP_FRAMES.key 0 0] q
      ∧ q.Regrants w ∧ lampProcessingDone s = (w.setUpd x).bump Obj.LAMP_FRAMES := by
  rw [lampProcessingDone_eq hj hfirst hdone]
  obtain ⟨x, hx⟩ := State.noteClean_frame (List.foldl (State.showLight j.ctx (s.twicePassed j).fresh) _ (List.range 8))
    j.latch.frame
  rw [hx]
  exact ⟨_, _, x, State.noteProcessing_reports _ _, State.foldl_regrants (State.showLight_regrants _ _) _ _, rfl⟩

/-! ### The codes of a frame settle (R253, R254) -/

/-- The values that the rest of the drive deadline leaves as they are. -/
def deadlineKeys : List Nat :=
  [Obj.UPD_STATE.key 0 0, Obj.LAMP_FRAMES_LATE.key 0 0, Obj.LAMP_LATE_LAMPS.key 0 0]

theorem State.setLamp_keepsDrive (s : State) (k : Nat) (x : Lamp) : s.KeepsDrive ks (s.setLamp k x) :=
  ⟨rfl, rfl, rfl, rfl, rfl, rfl, List.Subset.refl _, fun _ _ _ => rfl⟩

theorem State.setMods_keepsDrive (s : State) (x : Mods) : s.KeepsDrive ks (s.setMods x) :=
  ⟨rfl, rfl, rfl, rfl, rfl, rfl, List.Subset.refl _, fun _ _ _ => rfl⟩

theorem State.setLampSt_keepsDrive (s : State) {x : LampSt} (hx : x.bufs = s.lamp.bufs) :
    s.KeepsDrive ks (s.setLampSt x) :=
  ⟨hx, rfl, rfl, rfl, rfl, rfl, List.Subset.refl _, fun _ _ _ => rfl⟩

/-- Writing the codes moves the lamps' own state only. -/
theorem State.writePixels_keepsDrive (s : State) (c : LampCtx) (k : Nat) (px : List (PxItem × PxOut)) :
    s.KeepsDrive ks (s.writePixels c k px).2 :=
  List.foldlRecOn (motive := fun q : List (Nat × Code) × State => s.KeepsDrive ks q.2) px _ (.refl ks s)
    fun _ hpixel _ _ => List.foldlRecOn (motive := fun q : List (Nat × Code) × State => s.KeepsDrive ks q.2)
      (List.range c.lamps) _ hpixel fun q hq _ _ => hq.trans (q.2.setLamp_keepsDrive _ _)

theorem State.checkZones_keepsDrive (s : State) (c : LampCtx) (l : Latch) (codes : List (Nat × Code)) :
    s.KeepsDrive deadlineKeys (s.checkZones c l codes).2 := by
  refine State.KeepsDrive.trans ?_ (State.setLampSt_keepsDrive _ rfl)
  refine List.foldlRecOn
    (motive := fun q : List (Nat × Code) × List (Nat × Bool) × State => s.KeepsDrive deadlineKeys q.2.2)
    (List.range 8) _ (.refl _ s) ?_
  intro q hq z _
  dsimp only
  have hdropped (n : Nat) : s.KeepsDrive deadlineKeys (q.2.2.addTo Obj.SCAN_PROBES_DROPPED 0 0 n) :=
    hq.trans (State.addTo_reports _ (by decide) n).toKeepsDrive
  split
  · exact (hdropped _).trans (State.addTo_reports _ (by decide) 1).toKeepsDrive
  · exact hdropped _

theorem State.markPattern_keepsDrive (s : State) (l : Latch) (items : List PxItem) (codes : List (Nat × Code)) :
    s.KeepsDrive ks (s.markPattern l items codes) := by
  unfold State.markPattern
  split
  · exact .refl ks s
  · exact s.setMods_keepsDrive _

/-- A frame that is not ready: its lamps, the frame and the event (R254). -/
def State.noteLate (s : State) (n : Nat) : State :=
  ((s.addTo Obj.LAMP_LATE_LAMPS 0 0 n).bump Obj.LAMP_FRAMES_LATE).raise 0x40 0 0

theorem State.noteLate_reports (s : State) (n : Nat) : s.Reports [Obj.UPD_STATE.key 0 0] (s.noteLate n) :=
  ((s.addTo_reports (by decide) n).trans (State.addTo_reports _ (by decide) 1)).trans (State.raise_reports _ _ _ _)

/-- A frame's codes written, checked and put into its buffer. -/
def State.writeFrame (s : State) (c : LampCtx) (l : Latch) (px : List (PxItem × PxOut)) : State :=
  let w := s.writePixels c l.frame px
  let z := w.2.checkZones c l w.1
  let q := z.2.markPattern l (px.map (·.1)) z.1
  q.setLampSt { q.lamp with
    bufs := put {} (l.frame % 3) { frame := some l.frame, codes := z.1, rate := c.rate, scan := c.scan } q.lamp.bufs,
    job := none, errors := [] }

/-- Of what follows the count of a late frame only the frame's own buffer, the job and the failed words matter here. -/
theorem State.writeFrame_spec (s : State) (c : LampCtx) (l : Latch) (px : List (PxItem × PxOut)) :
    ∃ q b, s.KeepsDrive deadlineKeys q ∧ b.frame = some l.frame ∧ s.writeFrame c l px
      = q.setLampSt { q.lamp with bufs := put {} (l.frame % 3) b q.lamp.bufs, job := none, errors := [] } :=
  ⟨_, _, ((s.writePixels_keepsDrive c l.frame px).trans (State.checkZones_keepsDrive _ c l _)).trans
    (State.markPattern_keepsDrive _ l _ _), rfl, rfl⟩

theorem State.latePixels_length (s : State) (c : LampCtx) (k : Nat) :
    (s.latePixels c k).length = vNat c.v Obj.TILE_HEIGHT 0 0 * vNat c.v Obj.TILE_WIDTH 0 0 := by
  simp only [State.latePixels, List.length_flatMap, List.length_map, List.length_range, List.map_const',
    List.sum_replicate_nat]

/-- The lamps that a frame without a job repeats. -/
def lateLamps (l : Latch) : Nat :=
  vNat (confView l.conf) Obj.TILE_HEIGHT 0 0 * vNat (confView l.conf) Obj.TILE_WIDTH 0 0 * (lampCtx l.conf []).lamps

/-- A frame that has no job is late as a whole. -/
theorem settleCodes_noJob (h : ∀ j, s.lamp.job = some j → j.latch.frame ≠ l.frame) :
    ∃ px, s.settleCodes l = (s.noteLate (lateLamps l)).writeFrame (lampCtx l.conf []) l px := by
  have hlen : lateLamps l = (s.latePixels (lampCtx l.conf []) l.frame).length * (lampCtx l.conf []).lamps :=
    congrArg (· * _) (s.latePixels_length (lampCtx l.conf []) l.frame).symm
  refine ⟨s.latePixels (lampCtx l.conf []) l.frame, ?_⟩
  rw [hlen]
  cases hj : s.lamp.job with
  | none => simp only [State.settleCodes, hj]; rfl
  | some j => simp only [State.settleCodes, hj, h j hj, if_false]; rfl

/-- Of a frame that has one, the clips so far count; it is late where its first pass is not done. -/
theorem settleCodes_job (hj : s.lamp.job = some j) (hframe : j.latch.frame = l.frame) : ∃ px m n, s.settleCodes l =
    (if j.first then s.addTo Obj.LAMP_CLIPS 0 0 m else (s.addTo Obj.LAMP_CLIPS 0 0 m).noteLate n).writeFrame
      j.ctx l px := by
  cases hheld : j.held with
  | none =>
    simp only [State.settleCodes, hj, hframe, hheld, if_true]
    exact ⟨_, _, _, rfl⟩
  | some x =>
    by_cases hold : (s.lamp.hold.isSome && !s.frameLocked) = true
    · simp only [State.settleCodes, hj, hframe, hheld, hold, if_true]
      exact ⟨_, _, _, rfl⟩
    · simp only [State.settleCodes, hj, hframe, hheld, hold, if_true]
      exact ⟨_, _, _, rfl⟩

/-- The first pass of a frame is not done (R254). -/
def State.NotReady (s : State) (l : Latch) : Prop :=
  ∀ j, s.lamp.job = some j → j.latch.frame = l.frame → j.first = false

/-- How a due frame settles: its codes are written over a state in which counts have moved and, where it is late, the
event is raised. -/
theorem settleCodes_spec (s : State) (l : Latch) : ∃ q c px, s.settleCodes l = q.writeFrame c l px
    ∧ s.Reports [Obj.UPD_STATE.key 0 0] q
    ∧ (s.NotReady l → ∃ p n, s.Reports deadlineKeys p ∧ q = p.noteLate n ∧ (s.lamp.job = none → n = lateLamps l)) := by
  by_cases hjob : ∃ j, s.lamp.job = some j ∧ j.latch.frame = l.frame
  · obtain ⟨j, hj, hframe⟩ := hjob
    obtain ⟨px, m, n, he⟩ := settleCodes_job hj hframe
    have hclips {ks : List Nat} (h : Obj.LAMP_CLIPS.key 0 0 ∉ ks) := s.addTo_reports h m
    refine ⟨_, _, px, he, ?_, fun hlate => ⟨_, n, hclips (by decide), ?_, fun hnone => ?_⟩⟩
    · split
      · exact hclips (by decide)
      · exact (hclips (by decide)).trans (State.noteLate_reports _ n)
    · rw [hlate j hj hframe, if_neg Bool.false_ne_true]
    · exact absurd (hj.symm.trans hnone) (Option.some_ne_none j)
  · obtain ⟨px, he⟩ := settleCodes_noJob fun j hj hframe => hjob ⟨j, hj, hframe⟩
    exact ⟨_, _, px, he, s.noteLate_reports _, fun _ => ⟨s, _, .refl _ s, rfl, fun _ => rfl⟩⟩

section Late
variable (s : State) (n : Nat)

theorem State.noteLate_framesLate (h : s.rd Obj.LAMP_FRAMES_LATE < 4294967295) :
    (s.noteLate n).rd Obj.LAMP_FRAMES_LATE = s.rd Obj.LAMP_FRAMES_LATE + 1 := by
  have hlamps : (s.addTo Obj.LAMP_LATE_LAMPS 0 0 n).rd Obj.LAMP_FRAMES_LATE = s.rd Obj.LAMP_FRAMES_LATE :=
    (s.addTo_reports (ks := [Obj.LAMP_FRAMES_LATE.key 0 0]) (by decide) n).rdAt List.mem_cons_self
  calc (s.noteLate n).rd Obj.LAMP_FRAMES_LATE
      = ((s.addTo Obj.LAMP_LATE_LAMPS 0 0 n).bump Obj.LAMP_FRAMES_LATE).rd Obj.LAMP_FRAMES_LATE :=
        (State.raise_reports (ks := [Obj.LAMP_FRAMES_LATE.key 0 0]) _ _ _ _).rdAt List.mem_cons_self
    _ = (s.addTo Obj.LAMP_LATE_LAMPS 0 0 n).rd Obj.LAMP_FRAMES_LATE + 1 :=
        State.addTo_rdAt _ (by rw [← State.rd, hlamps]; exact Int.add_one_le_of_lt h)
    _ = s.rd Obj.LAMP_FRAMES_LATE + 1 := by rw [hlamps]

theorem State.noteLate_lateLamps (h : s.rd Obj.LAMP_LATE_LAMPS + n ≤ 4294967295) :
    (s.noteLate n).rd Obj.LAMP_LATE_LAMPS = s.rd Obj.LAMP_LATE_LAMPS + n :=
  ((State.addTo_reports (ks := [Obj.LAMP_LATE_LAMPS.key 0 0]) _ (by decide) 1).trans
    (State.raise_reports _ _ _ _)).rdAt List.mem_cons_self |>.trans (s.addTo_rdAt h)

theorem State.noteLate_event (h : s.flt.running = true) : ∃ e ∈ (s.noteLate n).flt.queue, e.src = 0x40 := by
  have hcounted := (s.addTo_reports (r := Obj.LAMP_LATE_LAMPS) (i := 0) (k := 0) List.not_mem_nil n).trans
    (State.addTo_reports _ (r := Obj.LAMP_FRAMES_LATE) (i := 0) (k := 0) List.not_mem_nil 1)
  obtain ⟨fl, hfl, hevent⟩ := State.raise_event
    ((s.addTo Obj.LAMP_LATE_LAMPS 0 0 n).bump Obj.LAMP_FRAMES_LATE) 0x40 0 0
  obtain ⟨e, he, hsrc, -⟩ := hevent (hcounted.running.trans h)
  rw [State.noteLate, hfl]
  exact ⟨e, he, hsrc⟩

end Late

/-! ### The drive deadline (R253, R254, R329) -/

theorem State.adoptGrant_regrants (s : State) (k : Nat) : s.Regrants (s.adoptGrant k) := by
  unfold State.adoptGrant
  split
  · split
    · exact ⟨_, s.free, rfl⟩
    · exact ⟨s.power, s.free, rfl⟩
  · exact ⟨s.power, s.free, rfl⟩

theorem State.grantUnits_regrants (s : State) (mode : Nat × Nat) (z mw : Nat) :
    s.Regrants (s.grantUnits mode z mw).2 := by
  simp only [State.grantUnits, apply_ite Prod.snd]
  split
  · exact ⟨s.power, s.free + 1, rfl⟩
  · exact ⟨s.power, s.free, rfl⟩

theorem State.computeZones_regrants (s : State) (k : Nat) : s.Regrants (s.computeZones k) := by
  unfold State.computeZones
  refine ((s.adoptGrant_regrants k).trans (State.foldl_regrants (fun q x => ?_) _ _)).trans (State.setPower_regrants _ _)
  split
  next n w hg => exact (hg ▸ q.grantUnits_regrants _ x.1 x.2 : q.Regrants (n, w).2).trans (w.setPower_regrants _)

theorem State.scaleHeld_regrants (s : State) (k : Nat) : s.Regrants (s.scaleHeld k) := by
  unfold State.scaleHeld
  split
  · split
    · exact (s.adoptGrant_regrants k).trans (State.foldl_regrants (fun q z => q.setPower_regrants _) _ _)
    · exact ⟨s.power, s.free, rfl⟩
  · exact ⟨s.power, s.free, rfl⟩

/-- At the deadline the due frame's codes settle, and its grants are computed. -/
theorem driveDeadline_regrants {c x : Schedule} (hdue : s.dueFrame = some l) (hsched : s.time.sched = some c)
    (hx : s.scheduleFor (l.frame + 2) = some x) (hat : x.instant (l.frame + 2) ≤ (s.wall18 : Int) + ns18 20000)
    (htile : s.isTile = true) (hruns : s.dataRuns = true) :
    ((s.settleCodes l).setLampSt { (s.settleCodes l).lamp with deadline := some l.frame }).Regrants
      (driveDeadline s) := by
  simp only [driveDeadline, hdue, hsched, hx, htile, hruns, hat, decide_true, Bool.and_self, if_true]
  split
  · exact State.computeZones_regrants _ _
  · exact State.scaleHeld_regrants _ _

/-- What the drive deadline of frame `l` leaves (R254): its buffer written, its job and the failed words gone, a late frame
counted and raised. -/
structure State.Settles (l : Latch) (s u : State) : Prop where
  deadline : u.lamp.deadline = some l.frame
  job : u.lamp.job = none
  errors : u.lamp.errors = []
  buffer : (look {} (l.frame % 3) u.lamp.bufs).frame = some l.frame
  others : ∀ i, i ≠ l.frame % 3 → look {} i u.lamp.bufs = look {} i s.lamp.bufs
  late : s.NotReady l →
    (s.rd Obj.LAMP_FRAMES_LATE < 4294967295 → u.rd Obj.LAMP_FRAMES_LATE = s.rd Obj.LAMP_FRAMES_LATE + 1)
    ∧ (s.flt.running = true → ∃ e ∈ u.flt.queue, e.src = 0x40)
  lamps : s.lamp.job = none → s.rd Obj.LAMP_LATE_LAMPS + lateLamps l ≤ 4294967295 →
    u.rd Obj.LAMP_LATE_LAMPS = s.rd Obj.LAMP_LATE_LAMPS + lateLamps l
  strands : u.strands = s.strands
  flue : u.flue = s.flue
  sess : u.sess = s.sess
  nv : u.nv = s.nv
  activating : u.activating = s.activating

theorem settleCodes_settles (s : State) (l : Latch) :
    s.Settles l ((s.settleCodes l).setLampSt { (s.settleCodes l).lamp with deadline := some l.frame }) := by
  obtain ⟨q, c, px, hq, hcounts, hlate⟩ := settleCodes_spec s l
  obtain ⟨w, b, hkeep, hb, hw⟩ := q.writeFrame_spec c l px
  have hall := (hcounts.toKeepsDrive).trans (hkeep.mono (by decide))
  rw [hq, hw]
  refine ⟨rfl, rfl, rfl, ?_, fun i hi => ?_, fun h => ?_, fun hnone hle => ?_, hall.strands, hall.flue, hall.sess,
    hall.nv, ?_⟩
  · rw [State.setLampSt_lamp, State.setLampSt_lamp, look_put_same, hb]
  · rw [State.setLampSt_lamp, State.setLampSt_lamp, look_put_other _ _ hi, hall.bufs]
  · obtain ⟨p, n, hp, rfl, -⟩ := hlate h
    refine ⟨fun hlt => ?_, fun hrun => ?_⟩
    · have hbefore : p.rd Obj.LAMP_FRAMES_LATE = s.rd Obj.LAMP_FRAMES_LATE := hp.rdAt (by decide)
      rw [← hbefore, ← p.noteLate_framesLate n (hbefore ▸ hlt)]
      exact hkeep.rdAt (by decide)
    · obtain ⟨e, he, hsrc⟩ := p.noteLate_event n (hp.running.trans hrun)
      exact ⟨e, hkeep.queued he, hsrc⟩
  · obtain ⟨p, n, hp, rfl, hn⟩ := hlate fun j hj => absurd (hj.symm.trans hnone) (Option.some_ne_none j)
    obtain rfl := hn hnone
    have hbefore : p.rd Obj.LAMP_LATE_LAMPS = s.rd Obj.LAMP_LATE_LAMPS := hp.rdAt (by decide)
    rw [← hbefore, ← p.noteLate_lateLamps _ (hbefore ▸ hle)]
    exact hkeep.rdAt (by decide)
  · have hstate : w.nat Obj.UPD_STATE = s.nat Obj.UPD_STATE := congrArg Int.toNat (hall.rdAt List.mem_cons_self)
    change (w.nat Obj.UPD_STATE == 3 || w.nat Obj.UPD_STATE == 4) = s.activating
    rw [hstate, State.activating]

theorem State.Settles.regrants (h : s.Settles l u) (hg : u.Regrants v) : s.Settles l v := by
  obtain ⟨p, n, rfl⟩ := hg
  exact ⟨h.deadline, h.job, h.errors, h.buffer, h.others, h.late, h.lamps, h.strands, h.flue, h.sess, h.nv,
    h.activating⟩

theorem State.kernelFault_idle (h : s.activating = false) : s.kernelFault = s := by
  simp only [State.kernelFault, h, Bool.false_and, Bool.false_eq_true, if_false]

/-! ### The commands -/

section Live
variable {t : Cyc} (hl : s.live = true)
include hl

theorem exec_lampFirstPassDone : exec (.lampFirstPassDone t) s
    = .next ((s.upTo t).settled (lampFirstPassDone (s.upTo t))) :=
  State.run_effect hl rfl

theorem exec_lampProcessingDone : exec (.lampProcessingDone t) s
    = .next ((s.upTo t).settled (lampProcessingDone (s.upTo t))) :=
  State.run_effect hl rfl

/-- Outside an activation the late frame's event has no reaction of the update. -/
theorem exec_driveDeadline_due {c x : Schedule} (hidle : s.activating = false) (hdue : s.dueFrame = some l)
    (hsched : s.time.sched = some c) (hx : s.scheduleFor (l.frame + 2) = some x)
    (hat : x.instant (l.frame + 2) ≤ ((s.upTo t).wall18 : Int) + ns18 20000) (htile : s.isTile = true)
    (hruns : s.dataRuns = true) : ∃ u, exec (.driveDeadline t) s = .next u ∧ s.Settles l u := by
  have h := (settleCodes_settles (s.upTo t) l).regrants
    (driveDeadline_regrants (s := s.upTo t) hdue hsched hx hat htile hruns)
  have hnoFault : (if raisedSince (s.upTo t) (driveDeadline (s.upTo t)) 0x40 then (driveDeadline (s.upTo t)).kernelFault
      else driveDeadline (s.upTo t)) = driveDeadline (s.upTo t) := by
    rw [State.kernelFault_idle (h.activating.trans hidle), ite_self]
  have hexec : exec (.driveDeadline t) s = .next ((s.upTo t).settled (driveDeadline (s.upTo t))) := by
    change execDriveDeadline t s = _
    rw [execDriveDeadline]
    exact State.run_effect hl hnoFault
  exact ⟨_, hexec, h.deadline, h.job, h.errors, h.buffer, h.others, h.late, h.lamps, h.strands, h.flue, h.sess, h.nv,
    h.activating⟩

end Live

end Sys2Proof.Machine

namespace Sys2Proof.Proofs

open Sys2Proof Sys2Proof.Machine

/-- Settles O41: each pass changes the job, and beside it counts and reports (`lampFirstPassDone_spec`,
`lampProcessingDone_spec`); the deadline writes one buffer over a state in which a late frame has been counted
(`settleCodes_settles`), and the grants that follow move the power arbiter only. -/
theorem lampFramesAreProcessed : Obligations.LampFramesAreProcessed := by
  unfold Obligations.LampFramesAreProcessed
  intro s t j l x c hl
  refine ⟨fun hj hfirst => ?_, fun hj hfirst hdone hbelow => ?_, fun htile hruns hidle hdue hsched hx hat => ?_⟩
  · obtain ⟨b, hkeep, hscale⟩ := lampFirstPassDone_spec (s := s.upTo t) hj hfirst
    refine ⟨_, (s.upTo t).onePassed j, exec_lampFirstPassDone hl, congrArg LampSt.job hkeep.lamp, rfl, rfl, rfl, rfl,
      fun z hz => State.firstPass_scale _ _ _ _ hz, fun z hz => ?_, hkeep.bufs, hkeep.strands, hkeep.flue, hkeep.mods,
      hkeep.power⟩
    refine (hscale z hz).trans ?_
    cases ((s.upTo t).onePassed j).fresh.scale.getD z none <;> rfl
  · obtain ⟨q, w, y, hkeep, ⟨p, n, rfl⟩, he⟩ := lampProcessingDone_spec (s := s.upTo t) hj hfirst hdone
    have hexec := exec_lampProcessingDone (t := t) hl
    rw [he] at hexec
    have hframes : q.rd Obj.LAMP_FRAMES = s.rd Obj.LAMP_FRAMES := hkeep.rdAt List.mem_cons_self
    have hcount : (State.bump _ Obj.LAMP_FRAMES).rd Obj.LAMP_FRAMES = q.rd Obj.LAMP_FRAMES + 1 :=
      State.addTo_rdAt (State.setUpd { q with power := p, free := n } y)
        (Int.add_one_le_of_lt (lt_of_eq_of_lt hframes hbelow))
    have hbump := State.addTo_reports (r := Obj.LAMP_FRAMES) (i := 0) (k := 0)
      (State.setUpd { q with power := p, free := n } y) List.not_mem_nil 1
    have hlamp := hbump.lamp.trans hkeep.lamp
    exact ⟨_, (s.upTo t).twicePassed j, hexec, congrArg LampSt.job hlamp, rfl, rfl, congrArg LampSt.lastDemand hlamp,
      hcount.trans (congrArg (· + 1) hframes), hbump.bufs.trans hkeep.bufs, hbump.strands.trans hkeep.strands,
      hbump.flue.trans hkeep.flue, hbump.mods.trans hkeep.mods⟩
  · obtain ⟨u, hu, h⟩ := exec_driveDeadline_due hl hidle hdue hsched hx hat htile hruns
    exact ⟨u, hu, h.deadline, h.job, h.errors, h.buffer, fun i _ => h.others i,
      fun hlate hlt => ⟨(h.late hlate).1 hlt, (h.late hlate).2⟩, h.lamps, h.strands, h.flue, h.sess, h.nv⟩

end Sys2Proof.Proofs
end
